-- ==== Sys2Proof/Word.lean ====
section
/-! DEFINITION. Bytes, the index types of the numbered parts, and `Tab`, a table with a fixed number of entries. -/

namespace Sys2Proof

/-- A byte on a link. Bit 0 is the least significant bit (spec 00, Conventions). -/
abbrev Byte := BitVec 8

/-- Number of a check engine, 0 to 5 (R104 intro; R108). -/
abbrev EngineIx := Fin 6

/-- Number of a bay line, 0 to 23 (R73, section 11.7). -/
abbrev BayIx := Fin 24

/-- Address of a load bank, 0 to 7 (R156). -/
abbrev BankIx := Fin 8

/-- Index of a shelf slot, 0 to 31 (section 1.1). -/
abbrev SlotIx := Fin 32

/-- Index of a model slot, 0 to 15 (section 2.1). -/
abbrev ModelIx := Fin 16

/-- A table of exactly `n` entries, as a list with its length. -/
structure Tab (α : Type) (n : Nat) where
  items : List α
  size : items.length = n
  deriving DecidableEq, Repr

namespace Tab

variable {α : Type} {n : Nat}

/-- The table whose every entry is `x`. -/
def fill (n : Nat) (x : α) : Tab α n := ⟨List.replicate n x, List.length_replicate⟩

/-- The entry at `i`. -/
def get (t : Tab α n) (i : Fin n) : α := t.items[i.val]'(by rw [t.size]; exact i.isLt)

/-- The table with entry `i` replaced. -/
def put (t : Tab α n) (i : Fin n) (x : α) : Tab α n :=
  ⟨t.items.set i.val x, by rw [List.length_set, t.size]⟩

/-- The table with every entry changed by `f`. -/
def map {β : Type} (f : α → β) (t : Tab α n) : Tab β n :=
  ⟨t.items.map f, by rw [List.length_map, t.size]⟩

/-- The table whose entry at `i` is `f i`. -/
def ofFn (f : Fin n → α) : Tab α n := ⟨List.ofFn f, List.length_ofFn⟩

@[simp] theorem get_put_same (t : Tab α n) (i : Fin n) (x : α) : (t.put i x).get i = x := by
  simp [get, put]

theorem get_put_ne (t : Tab α n) {i j : Fin n} (x : α) (h : j ≠ i) :
    (t.put i x).get j = t.get j := by
  have : i.val ≠ j.val := fun e => h (Fin.ext e.symm)
  simp [get, put, this]

theorem get_put (t : Tab α n) (i j : Fin n) (x : α) :
    (t.put i x).get j = if j = i then x else t.get j := by
  by_cases h : j = i
  · subst h; simp
  · simp [h, get_put_ne]

@[simp] theorem get_fill (i : Fin n) (x : α) : (fill n x).get i = x := by simp [get, fill]

@[simp] theorem get_map {β : Type} (f : α → β) (t : Tab α n) (i : Fin n) :
    (t.map f).get i = f (t.get i) := by simp [get, map]

@[simp] theorem get_ofFn (f : Fin n → α) (i : Fin n) : (ofFn f).get i = f i := by
  simp [get, ofFn]

theorem ext_get {t u : Tab α n} (h : ∀ i, t.get i = u.get i) : t = u := by
  obtain ⟨a, ha⟩ := t
  obtain ⟨b, hb⟩ := u
  have : a = b := List.ext_getElem (by rw [ha, hb]) fun i h1 _ => by
    simpa [get] using h ⟨i, ha ▸ h1⟩
  subst this
  rfl

@[simp] theorem put_get_self (t : Tab α n) (i : Fin n) : t.put i (t.get i) = t :=
  ext_get fun j => by rw [get_put]; split <;> simp_all

end Tab

end Sys2Proof
end

