-- ==== Sys2Proof/Config.lean ====
section
/-! DEFINITION. The time limits and sizes the spec fixes, the strap encodings and the strap values of `State.reset`. -/

namespace Sys2Proof

/-- The encodings of the TABLE strap (R193). `spare` is the fourth encoding. -/
inductive TableStrap where
  | t16 | t24 | t32 | spare
  deriving DecidableEq, Repr

/-- The encodings of the BAYS strap (R193). `spare` is the fourth encoding. -/
inductive BaysStrap where
  | b8 | b16 | b24 | spare
  deriving DecidableEq, Repr

/-- The encodings of the ATTN strap (R192, R193). -/
inductive AttnStrap where
  | level | pulse
  deriving DecidableEq, Repr

/-- The encodings of the CONSOLE strap (R190, R193). -/
inductive ConsoleStrap where
  | enabled | disabled
  deriving DecidableEq, Repr

/-- The strap pins as they stand at a release of reset (R193). The BANKS pins encode 1 to 8;
`banks` is that number less one. -/
structure StrapPins where
  table : TableStrap
  bays : BaysStrap
  banks : Fin 8
  attn : AttnStrap
  console : ConsoleStrap
  deriving DecidableEq, Repr

/-- The strap values as the controller takes them (R193), which STATION_STATUS reports. -/
structure Straps where
  table : Nat
  bays : Nat
  banks : Nat
  pulse : Bool
  console : Bool
  deriving DecidableEq, Repr

/-- R193: the values taken from the pins; the fourth encoding of TABLE is taken as 16 and that of
BAYS as 8. -/
def StrapPins.sample (p : StrapPins) : Straps where
  table := match p.table with
    | .t16 => 16
    | .t24 => 24
    | .t32 => 32
    | .spare => 16
  bays := match p.bays with
    | .b8 => 8
    | .b16 => 16
    | .b24 => 24
    | .spare => 8
  banks := p.banks.val + 1
  pulse := p.attn = .pulse
  console := p.console = .enabled

namespace Config

/-- DESIGN CHOICE (log 6), unsafe: the strap pins of `State.reset`, the largest station. The spec
gives the straps no value; a run with other straps begins with RESET_RELEASE. -/
def resetPins : StrapPins :=
  { table := .t32, bays := .b24, banks := 7, attn := .level, console := .enabled }

/-- R74: the seat debounce time, ms. -/
abbrev debounceMs : Nat := 50
/-- R77: the latch re-arm pulse, ms. -/
abbrev rearmMs : Nat := 500
/-- R94: the staleness limit of a bay, ms. -/
abbrev bayStaleMs : Nat := 20
/-- R94: the staleness limit of the feed, ms. -/
abbrev feedStaleMs : Nat := 100
/-- R27, R45: the period of each scrub timer, ms. -/
abbrev scrubMs : Nat := 100
/-- R160: the time an exchange may stay open, ms. -/
abbrev exchangeMs : Nat := 250
/-- R161: the period of the rediscovery timer, ms. -/
abbrev rediscoveryMs : Nat := 5000
/-- R181, R182: the recovery time of the feed window, ms. -/
abbrev recoveryMs : Nat := 1000
/-- R190: the longest gap inside a console frame, ms. -/
abbrev consoleGapMs : Nat := 10
/-- R192: the length of an attention pulse after the latest join, ms. -/
abbrev pulseMs : Nat := 1
/-- R181: the recovery band lies this far inside each window limit, 0.1 V. -/
abbrev bandMargin : Nat := 50
/-- R16: the model table limit. -/
abbrev modelLimit : Nat := 16
/-- R126, R147, R157: the largest load level and capability, 0.1 A. -/
abbrev maxLevel : Nat := 20000
/-- R180: the feed frames not compared after a shed. -/
abbrev shedPause : Nat := 5

end Config

end Sys2Proof
end

