-- ==== Sys2Proof/Syntax.lean ====
section
/-! DEFINITION. The commands of the SX-412: one constructor for each row of spec/opcode_table.json. -/

namespace Sys2Proof

/-- The two request links (R187). -/
inductive Link where
  | executive | console
  deriving DecidableEq, Repr

/-- A command of the SX-412. A request command names the link whose pending request its owner
serves (R188, R2; log 4). A frame command carries the bytes as they stand on the wire (R197 to
R205). An event command names the bay, bank or engine it happens at. -/
inductive Instr where
  /-- R51: the record store serves an ADMIT. -/
  | admitShelf (link : Link)
  /-- R52: the record store serves a LOOKUP. -/
  | lookup (link : Link)
  /-- R54: the record store serves an extract sent by an engine. -/
  | extract (engine : EngineIx)
  /-- R56. -/
  | probe (link : Link)
  /-- R57. -/
  | find (link : Link)
  /-- R59: an AMEND of the priority. -/
  | amendPriority (link : Link)
  /-- R60: an AMEND of the guard level. -/
  | amendGuardLevel (link : Link)
  /-- R60: an AMEND of the note. -/
  | amendNote (link : Link)
  /-- R61: an AMEND of the model handle. -/
  | amendModelHandle (link : Link)
  /-- R63. -/
  | addModule (link : Link)
  /-- R64. -/
  | dropModule (link : Link)
  /-- R64. -/
  | amendPresentFlag (link : Link)
  /-- R80: BIND with a record handle. -/
  | bindBay (link : Link)
  /-- R81: BIND with the null handle. -/
  | unbindBay (link : Link)
  /-- R65. -/
  | start (link : Link)
  /-- R66. -/
  | resume (link : Link)
  /-- R67. -/
  | abort (link : Link)
  /-- R69. -/
  | release (link : Link)
  /-- R71. -/
  | take (link : Link)
  /-- R37. -/
  | createModel (link : Link)
  /-- R38. -/
  | editModel (link : Link)
  /-- R39. -/
  | activate (link : Link)
  /-- R40. -/
  | revise (link : Link)
  /-- R41. -/
  | discard (link : Link)
  /-- R173. -/
  | setBudget (link : Link)
  /-- R174. -/
  | setFeedWindow (link : Link)
  /-- R170. -/
  | bankStatus (link : Link)
  /-- R196. -/
  | stationStatus (link : Link)
  /-- R195: the soft reset. -/
  | reset (link : Link)
  /-- R188: on the executive link the bytes of a write transaction after its command byte; on the
  console link the bytes received, start byte included (log 24). -/
  | requestFrame (link : Link) (bytes : List Byte)
  /-- R189: an executive read transaction in which the host clocks `clocked` bytes after the command
  byte. -/
  | readTransaction (clocked : Nat)
  /-- R189: the last byte of the console answer is sent. -/
  | answerSent
  /-- R188: an executive transaction with another command byte. -/
  | transactionIgnored (command : Byte) (bytes : List Byte)
  /-- R190. -/
  | consoleFrameTimeout
  /-- R194. -/
  | powerOnReset
  /-- R194. -/
  | pinReset
  /-- R194: the straps and the first samples of the 24 seat and trip indicator inputs; bit b is bay
  b's input, 1 for up and for active. -/
  | resetRelease (pins : StrapPins) (seats : BitVec 24) (indicators : BitVec 24)
  /-- R27. -/
  | shelfScrub
  /-- R45. -/
  | modelScrub
  /-- R74: the seat input of a bay is sampled at a level. -/
  | seatInputChange (bay : BayIx) (up : Bool)
  /-- R74. -/
  | debounceExpiry (bay : BayIx)
  /-- R78: the trip indicator input of a bay is sampled at a level. -/
  | tripIndicatorChange (bay : BayIx) (active : Bool)
  /-- R77. -/
  | rearmPulseEnd (bay : BayIx)
  /-- R94: a frame arrives on the sense link and is taken as a bay frame. -/
  | bayFrame (bytes : List Byte)
  /-- R98. -/
  | bayStale (bay : BayIx)
  /-- R179: a frame arrives on the sense link and is taken as a feed frame. -/
  | feedFrame (bytes : List Byte)
  /-- R181. -/
  | feedStale
  /-- R182. -/
  | recoveryExpiry
  /-- R192. -/
  | attentionPulseEnd
  /-- R106. -/
  | engineTake
  /-- R142. -/
  | derateEvaluation (engine : EngineIx)
  /-- R159. -/
  | linkTurn
  /-- R161. -/
  | identReply (bytes : List Byte)
  /-- R164. -/
  | readyReply (bytes : List Byte)
  /-- R168. -/
  | levelReply (bytes : List Byte)
  /-- R169. -/
  | releasedReply (bytes : List Byte)
  /-- R158. -/
  | waitReply (bytes : List Byte)
  /-- R160. -/
  | faultReply (bytes : List Byte)
  /-- R160. -/
  | exchangeTimeout (bank : BankIx)
  /-- R161. -/
  | rediscoveryTimer
  /-- R130. -/
  | holdDurationExpiry (engine : EngineIx)
  /-- R131. -/
  | tripWindowClose (engine : EngineIx)
  /-- R150. -/
  | settleExpiry (engine : EngineIx)
  /-- R137. -/
  | latchObserveExpiry (engine : EngineIx)
  /-- R136, R138. -/
  | restartWindowClose (engine : EngineIx)
  /-- R114: the record store serves a passage write sent by an engine. -/
  | passageWrite (engine : EngineIx)
  /-- R122: the record store serves a close sent by an engine. -/
  | stepClose (engine : EngineIx)
  deriving DecidableEq, Repr

end Sys2Proof
end

