-- ==== Sys2Proof/WellFormed.lean ====
section
/-! DEFINITION. Which commands are well formed: a frame or transaction command carries a frame or
transaction that can belong to its row. The index operands are bounded by their types. -/

namespace Sys2Proof

/-- A load-link reply frame is of the row `kind` when its kind byte, at offset 1, is `kind`, or when
it is too short to have one (R205). -/
def replyOfKind (kind : Byte) (bytes : List Byte) : Bool :=
  match bytes[1]? with
  | some k => k = kind
  | none => true

/-- A sense frame can be of the row `kind` unless its first byte names the other kind (R204). -/
def senseNotKind (other : Byte) (bytes : List Byte) : Bool :=
  match bytes[0]? with
  | some k => k ≠ other
  | none => true

namespace Instr

/-- R188: a transaction is ignored when its command byte is neither 0x01 nor 0x02; R204: a bay
frame's kind is 0x01 and a feed frame's 0x02; R205: the kinds of the replies. -/
def wellFormed : Instr → Bool
  | .transactionIgnored c _ => c ≠ 0x01#8 && c ≠ 0x02#8
  | .bayFrame f => senseNotKind 0x02#8 f
  | .feedFrame f => senseNotKind 0x01#8 f
  | .identReply f => replyOfKind 0x81#8 f
  | .readyReply f => replyOfKind 0x82#8 f
  | .levelReply f => replyOfKind 0x83#8 f
  | .releasedReply f => replyOfKind 0x84#8 f
  | .waitReply f => replyOfKind 0x85#8 f
  | .faultReply f => replyOfKind 0x86#8 f
  | .admitShelf _ => true
  | .lookup _ => true
  | .extract _ => true
  | .probe _ => true
  | .find _ => true
  | .amendPriority _ => true
  | .amendGuardLevel _ => true
  | .amendNote _ => true
  | .amendModelHandle _ => true
  | .addModule _ => true
  | .dropModule _ => true
  | .amendPresentFlag _ => true
  | .bindBay _ => true
  | .unbindBay _ => true
  | .start _ => true
  | .resume _ => true
  | .abort _ => true
  | .release _ => true
  | .take _ => true
  | .createModel _ => true
  | .editModel _ => true
  | .activate _ => true
  | .revise _ => true
  | .discard _ => true
  | .setBudget _ => true
  | .setFeedWindow _ => true
  | .bankStatus _ => true
  | .stationStatus _ => true
  | .reset _ => true
  | .requestFrame _ _ => true
  | .readTransaction _ => true
  | .answerSent => true
  | .consoleFrameTimeout => true
  | .powerOnReset => true
  | .pinReset => true
  | .resetRelease _ _ _ => true
  | .shelfScrub => true
  | .modelScrub => true
  | .seatInputChange _ _ => true
  | .debounceExpiry _ => true
  | .tripIndicatorChange _ _ => true
  | .rearmPulseEnd _ => true
  | .bayStale _ => true
  | .feedStale => true
  | .recoveryExpiry => true
  | .attentionPulseEnd => true
  | .engineTake => true
  | .derateEvaluation _ => true
  | .linkTurn => true
  | .exchangeTimeout _ => true
  | .rediscoveryTimer => true
  | .holdDurationExpiry _ => true
  | .tripWindowClose _ => true
  | .settleExpiry _ => true
  | .latchObserveExpiry _ => true
  | .restartWindowClose _ => true
  | .passageWrite _ => true
  | .stepClose _ => true

end Instr

end Sys2Proof
end

