-- ==== Sys2Proof/Decode.lean ====
section
/-! DEFINITION. The command that a word spells by the bits of spec/opcode_table.json. -/

namespace Sys2Proof

/-- No row of spec/opcode_table.json gives bits (its "fields" are empty and it has no match or mask),
so no word spells a command (log 8). The bytes that do spell something, request frames, sense frames
and load-link frames, are operands of the frame commands and are read in Machine/Operands.lean. -/
def decodeTableWord (_nbits _w : Nat) : Option Instr := none

end Sys2Proof
end

