-- ==== Sys2Proof/Machine/State.lean ====
section
/-! DEFINITION. Every piece of state the spec gives the SX-412, as plain data, and its value at reset. -/

namespace Sys2Proof.Machine

/-! ### Handles, records and modules (chapter 1) -/

/-- The table designator of a handle (section 1.3). -/
inductive TableId where
  | shelf | model
  deriving DecidableEq, Repr

/-- A handle: table designator, slot index and generation (section 1.3, R198). -/
structure Handle where
  table : TableId
  index : SlotIx
  gen : Nat
  deriving DecidableEq, Repr

/-- R15, R198: the handle whose three fields are all 0. -/
def Handle.null : Handle := ⟨.shelf, 0, 0⟩

/-- R1: the states of an in-use record, in code order (R201). -/
inductive RecState where
  | staged | bound | ready | queued | running | held | passed | failed | doubtful
  deriving DecidableEq, Repr

/-- R88: the hold reasons, in code order (R201). -/
inductive HoldReason where
  | host | retryLimit | unseated | noCapacity | conditions | modelDoubt | reset
  deriving DecidableEq, Repr

/-- R34: the step kinds, in code order (R201). -/
inductive StepKind where
  | hold | trip | restart | derate
  deriving DecidableEq, Repr

/-- R121: the step outcomes, in code order (R201). -/
inductive StepOutcome where
  | pass | holdTripped | holdLimited | tripEarly | noTrip | noRestart | unlatched
  | derateHigh | derateLow | derateTripped
  | shed | bankFault | senseLost | feedLost | aborted | unseated | noCapacity | outOfConditions
  | doubt
  deriving DecidableEq, Repr

/-- R11: the detect causes, in code order (R201). -/
inductive DetectCause where
  | indicator | collapse
  deriving DecidableEq, Repr

/-- R7: one supply module position. -/
structure ModuleEntry where
  slot : Nat
  serial : List Byte
  present : Bool
  firmware : Option Nat
  deriving DecidableEq, Repr

/-- R11: one entry of the results list. -/
structure ResultEntry where
  index : Nat
  kind : StepKind
  outcome : StepOutcome
  value : Option Nat
  cause : Option DetectCause
  attempt : Nat
  deriving DecidableEq, Repr

/-- Section 1.2: a shelf record, in table order. `code` is the stored integrity code (R23). -/
structure ShelfRecord where
  serial : List Byte
  model : Handle
  bay : Option BayIx
  state : RecState
  hold : Option HoldReason
  priority : Nat
  guardLevel : Nat
  note : Nat
  modules : List ModuleEntry
  cursor : Nat
  results : List ResultEntry
  retry : Nat
  engaged : Option EngineIx
  code : Byte
  deriving DecidableEq, Repr

/-- R1, R14: a shelf slot is FREE (no record) or in use, and always keeps its generation. -/
structure ShelfSlot where
  gen : Nat
  record : Option ShelfRecord
  deriving DecidableEq, Repr

/-- R191: the reason set of an attention entry. -/
structure Reasons where
  verdict : Bool
  passed : Bool
  failed : Bool
  held : Bool
  doubt : Bool
  deriving DecidableEq, Repr

/-- R191: one entry of the attention list. -/
structure AttnEntry where
  handle : Handle
  reasons : Reasons
  deriving DecidableEq, Repr

/-- The record store: the shelf table (R1), the start queue (R104), the attention list (R191) with
the start tick of a pulse in progress (R192), the scrub cursor and the tick its timer last
restarted (R27). -/
structure Store where
  slots : Tab ShelfSlot 32
  queue : List SlotIx
  attention : List AttnEntry
  pulse : Option Nat
  cursor : SlotIx
  scrubFrom : Nat
  deriving DecidableEq, Repr

/-! ### Models (chapter 2) -/

/-- R30: the states of an in-use model slot. An EMPTY slot holds no descriptor. -/
inductive ModelState where
  | draft | active | doubtful
  deriving DecidableEq, Repr

/-- Section 2.2: the restart modes, in code order (R201). -/
inductive RestartMode where
  | hiccup | latch
  deriving DecidableEq, Repr

/-- R33: one knot of a derating curve. -/
structure Knot where
  temp : Int
  power : Nat
  deriving DecidableEq, Repr

/-- R34: one step of a plan with its parameters. -/
inductive PlanStep where
  | hold (levelPpt duration : Nat)
  | trip (levelPpt : Nat)
  | restart
  | derate
  deriving DecidableEq, Repr

/-- Section 2.2: the parameter fields of a descriptor, each set or unset. -/
structure ModelParams where
  mRated : Option Nat
  vNom : Option Nat
  iMod : Option Nat
  vCollapse : Option Nat
  vGood : Option Nat
  tMin : Option Nat
  tMax : Option Nat
  restartMode : Option RestartMode
  restartWindow : Option Nat
  latchObserve : Option Nat
  pCap : Option Nat
  vKnee : Option Nat
  vMin : Option Nat
  tolAbs : Option Nat
  tolPpt : Option Nat
  effPpt : Option Nat
  overPpt : Option Nat
  settleMs : Option Nat
  window : Option Nat
  drift : Option Nat
  deriving DecidableEq, Repr

/-- R37: every parameter field unset. -/
def ModelParams.unset : ModelParams :=
  { mRated := none, vNom := none, iMod := none, vCollapse := none, vGood := none, tMin := none,
    tMax := none, restartMode := none, restartWindow := none, latchObserve := none, pCap := none,
    vKnee := none, vMin := none, tolAbs := none, tolPpt := none, effPpt := none, overPpt := none,
    settleMs := none, window := none, drift := none }

/-- Section 2.2: a model descriptor. `code` is the stored integrity code (R44). -/
structure Model where
  name : List Byte
  revision : Nat
  state : ModelState
  refCount : Nat
  params : ModelParams
  curve : List Knot
  plan : List PlanStep
  code : Byte
  deriving DecidableEq, Repr

/-- R30: a model slot is EMPTY (no descriptor) or in use, and always keeps its generation. -/
structure ModelSlot where
  gen : Nat
  model : Option Model
  deriving DecidableEq, Repr

/-- The model table with its scrub cursor and the tick its timer last restarted (R30, R45). -/
structure ModelTable where
  slots : Tab ModelSlot 16
  cursor : ModelIx
  scrubFrom : Nat
  deriving DecidableEq, Repr

/-! ### Bays (chapter 4) -/

/-- R73: the state of one bay. The enable output is a function of the state (`enableOutput`). A
running timer is its start tick. -/
structure Bay where
  binding : Option Handle
  raw : Bool
  seated : Bool
  debounce : Option Nat
  seatLost : Bool
  rearm : Option (Nat × EngineIx)
  indicator : Bool
  deriving DecidableEq, Repr

/-- R73: a bay at the release of reset, from its first samples. -/
def Bay.atRelease (now : Nat) (seat indicator : Bool) : Bay :=
  { binding := none, raw := seat, seated := false, debounce := if seat then some now else none,
    seatLost := false, rearm := none, indicator := indicator }

/-! ### Sense receiver (chapter 5) -/

/-- R94: the sense state of a stream. -/
inductive Sense where
  | none | fresh | stale
  deriving DecidableEq, Repr

/-- R94: a stored bay sample with its four over-range flags. -/
structure Sample where
  vOut : Nat
  iOut : Nat
  temp : Int
  vIn : Nat
  overV : Bool
  overI : Bool
  overT : Bool
  overVin : Bool
  deriving DecidableEq, Repr

/-- R94: the store of one bay. The age is the present tick less `arrival`. -/
structure BaySense where
  sense : Sense
  sample : Option Sample
  seq : Option Nat
  arrival : Nat
  deriving DecidableEq, Repr

/-- R97: no frame accepted yet. -/
def BaySense.blank : BaySense := { sense := .none, sample := none, seq := none, arrival := 0 }

/-- R94: a stored feed sample. -/
structure FeedSample where
  draw : Nat
  volts : Nat
  deriving DecidableEq, Repr

/-- R94: the store of the feed. -/
structure FeedSense where
  sense : Sense
  sample : Option FeedSample
  seq : Option Nat
  arrival : Nat
  deriving DecidableEq, Repr

/-- R97: no frame accepted yet. -/
def FeedSense.blank : FeedSense := { sense := .none, sample := none, seq := none, arrival := 0 }

/-! ### Check engines (chapters 6, 7 and 8) -/

/-- R108: the phases, in code order (R201). An engine passes through CLOSE inside one step. -/
inductive Phase where
  | free | reserve | acquire | load | watch | unload | close
  deriving DecidableEq, Repr

/-- R117: the stop causes. -/
inductive StopCause where
  | aborted | unseated | doubt | shed | feedLost | bankFault | senseLost | noCapacity
  | outOfConditions
  deriving DecidableEq, Repr

/-- R43: the parameters of a HOLD step. -/
structure HoldParams where
  levelPpt : Nat
  duration : Nat
  iMod : Nat
  vNom : Nat
  vCollapse : Nat
  effPpt : Nat
  deriving DecidableEq, Repr

/-- R43: the parameters of a TRIP step. -/
structure TripParams where
  levelPpt : Nat
  iMod : Nat
  vNom : Nat
  vCollapse : Nat
  tMin : Nat
  tMax : Nat
  effPpt : Nat
  deriving DecidableEq, Repr

/-- R43: the parameters of a RESTART step. The latch observe time is supplied in LATCH mode only. -/
structure RestartParams where
  vGood : Nat
  vNom : Nat
  mode : RestartMode
  window : Nat
  latchObserve : Option Nat
  deriving DecidableEq, Repr

/-- R43: the parameters of a DERATE step. -/
structure DerateParams where
  curve : List Knot
  pCap : Nat
  mRated : Nat
  vNom : Nat
  vKnee : Nat
  vMin : Nat
  tolAbs : Nat
  tolPpt : Nat
  effPpt : Nat
  overPpt : Nat
  settleMs : Nat
  window : Nat
  drift : Nat
  vCollapse : Nat
  deriving DecidableEq, Repr

/-- R109: the parameters in a working copy; a TRIP step comes with the RESTART step after it. -/
inductive StepParams where
  | hold (p : HoldParams)
  | trip (p : TripParams) (r : RestartParams)
  | derate (p : DerateParams)
  deriving DecidableEq, Repr

/-- R109: an engine's working copy. -/
structure WorkingCopy where
  handle : Handle
  bay : BayIx
  priority : Nat
  index : Nat
  kind : StepKind
  params : StepParams
  mPresent : Nat
  attempt : Nat
  deriving DecidableEq, Repr

/-- R113: a verdict with the value and detect cause its step gives. -/
structure Verdict where
  outcome : StepOutcome
  value : Option Nat
  cause : Option DetectCause
  deriving DecidableEq, Repr

/-- R108: the reservation an engine has submitted. -/
inductive EngineReservation where
  | none
  | waiting (amount : Nat)
  | held (amount : Nat)
  deriving DecidableEq, Repr

/-- R108: the state of an engine's bank request. -/
inductive BankReq where
  | notMade | waiting | connecting | granted
  deriving DecidableEq, Repr

/-- R108, R115, R134: one bank of a grant. `load`: the LEVEL reply of the bank's load SET is
outstanding. `zeros`: the SET 0 requests asked and not yet answered. `rezero`: the passage asks the
bank's SET 0 when the reply of its load SET arrives. -/
structure GrantBank where
  bank : BankIx
  cap : Nat
  share : Nat
  load : Bool
  zeros : Nat
  rezero : Bool
  deriving DecidableEq, Repr

/-- R99: trip detection at an engine. -/
inductive Detection where
  | disarmed
  | armed
  | made (cause : DetectCause) (tick : Nat)
  deriving DecidableEq, Repr

/-- R101: a collection in progress. -/
structure Collection where
  count : Nat
  sumV : Nat
  sumI : Nat
  deriving DecidableEq, Repr

/-- R108, R141, R155: the state of one engine. A running timer is its start tick. `evalAsked`: the
evaluator's answer is awaited (R110). `releasing`: UNLOAD is past its second stage (R115). `setSent`:
the first SET of the load step has been sent (R112). `granted`: the tick at which the grant of the load
step was complete (R119, log 17). `awaitRearm`: the report of the re-arm pulse is
awaited (R137). -/
structure Engine where
  phase : Phase
  copy : Option WorkingCopy
  takeTick : Nat
  verdict : Option Verdict
  stop : Option StopCause
  reservation : EngineReservation
  bankReq : BankReq
  grant : List GrantBank
  granted : Option Nat
  watch : Bool
  detection : Detection
  evalAsked : Bool
  releasing : Bool
  setSent : Bool
  stepLevel : Nat
  tripFrom : Option Nat
  holdFrom : Option Nat
  settleFrom : Option Nat
  latchFrom : Option Nat
  restartFrom : Option Nat
  awaitRearm : Bool
  goodLevel : Nat
  lowSeen : Bool
  captured : Int
  pExp : Nat
  collection : Option Collection
  deriving DecidableEq, Repr

/-- R108: an engine in FREE. -/
def Engine.free : Engine :=
  { phase := .free, copy := none, takeTick := 0, verdict := none, stop := none,
    reservation := .none, bankReq := .notMade, grant := [], granted := none, watch := false,
    detection := .disarmed, evalAsked := false, releasing := false, setSent := false,
    stepLevel := 0, tripFrom := none, holdFrom := none, settleFrom := none, latchFrom := none,
    restartFrom := none, awaitRearm := false, goodLevel := 0, lowSeen := false, captured := 0,
    pExp := 0, collection := none }

/-- R53: what an engine reports to a LOOKUP. -/
structure Extract where
  phase : Phase
  index : Nat
  kind : StepKind
  elapsed : Nat
  stale : Bool
  vOut : Option Nat
  iOut : Option Nat
  temp : Option Int
  stop : Option StopCause
  deriving DecidableEq, Repr

/-- R53: the messages an engine sends to the record store, served in the order sent. -/
inductive Message where
  /-- R114: the passage write of a TRIP step at `index`. -/
  | passage (handle : Handle) (index value : Nat) (cause : DetectCause) (attempt : Nat)
  /-- R53: an extract for the LOOKUP of a link. -/
  | extract (handle : Handle) (link : Link) (ex : Extract)
  /-- R116: the close of a step. -/
  | close (handle : Handle) (index : Nat) (kind : StepKind) (outcome : StepOutcome)
      (value : Option Nat) (cause : Option DetectCause) (attempt : Nat) (lateAbort : Bool)
  deriving DecidableEq, Repr

/-! ### Feed supervisor (chapter 10) -/

/-- R181: the feed window state, in code order (R201). -/
inductive WindowState where
  | normal | fault | recovering
  deriving DecidableEq, Repr

/-- R175: one reservation held. -/
structure Reservation where
  engine : EngineIx
  amount : Nat
  priority : Nat
  number : Nat
  stopSent : Bool
  deriving DecidableEq, Repr

/-- R176: one submission in the feed wait list. `joined` stands for the time of joining. -/
structure FeedWait where
  engine : EngineIx
  amount : Nat
  priority : Nat
  bay : BayIx
  joined : Nat
  deriving DecidableEq, Repr

/-- R173 to R182: the state of the feed supervisor. -/
structure Feed where
  budget : Nat
  guard : Nat
  low : Nat
  high : Nat
  window : WindowState
  recoverFrom : Option Nat
  outCount : Nat
  reservations : List Reservation
  total : Nat
  waits : List FeedWait
  nextNumber : Nat
  nextJoin : Nat
  overCount : Nat
  pause : Nat
  deriving DecidableEq, Repr

/-- R185: the feed supervisor at the release of reset. -/
def Feed.atRelease : Feed :=
  { budget := 0, guard := 0, low := 3400, high := 4600, window := .recovering,
    recoverFrom := none, outCount := 0, reservations := [], total := 0, waits := [],
    nextNumber := 1, nextJoin := 0, overCount := 0, pause := 0 }

/-! ### Bank arbiter and load link (chapter 9) -/

/-- R156: the bank states, in code order (R201). -/
inductive BankState where
  | offline | idle | connecting | connected | releasing
  deriving DecidableEq, Repr

/-- R156: one roster entry. -/
structure Bank where
  state : BankState
  cap : Nat
  bay : Option BayIx
  engine : Option EngineIx
  level : Nat
  fault : Option Nat
  deriving DecidableEq, Repr

/-- R171: a roster entry at the release of reset. -/
def Bank.atRelease : Bank :=
  { state := .offline, cap := 0, bay := none, engine := none, level := 0, fault := none }

/-- R162: one request in the bank wait list. `joined` stands for the time of joining. -/
structure BankWait where
  engine : EngineIx
  need : Nat
  priority : Nat
  bay : BayIx
  joined : Nat
  deriving DecidableEq, Repr

/-- R163 to R166: how a service stands. `failed`: a connect failed and one CONNECT is still open.
`withdrawn`: the engine has withdrawn and one CONNECT is still open. -/
inductive ServiceStatus where
  | active | failed | withdrawn
  deriving DecidableEq, Repr

/-- R163: the request in service with its chosen banks in grant order. -/
structure Service where
  engine : EngineIx
  need : Nat
  bay : BayIx
  joined : Nat
  chosen : List BankIx
  status : ServiceStatus
  deriving DecidableEq, Repr

/-- R158: the requests of the load link. -/
inductive LinkRequest where
  | identify
  | connect (bay : BayIx)
  | set (level : Nat)
  | release
  deriving DecidableEq, Repr

/-- R159: a request asked and not yet sent. `load` marks a SET of a load step (R112). -/
structure Asked where
  bank : BankIx
  request : LinkRequest
  load : Bool
  deriving DecidableEq, Repr

/-- R158, R159: an open exchange, the tick its request was sent and the tick it was last polled. -/
structure Exchange where
  request : LinkRequest
  sent : Nat
  polled : Nat
  deriving DecidableEq, Repr

/-- R158: the turn of the present tick: the bank addressed, whether a POLL's answer is still
awaited, and the frame sent (R205). -/
structure Turn where
  bank : BankIx
  awaiting : Bool
  frame : List Byte
  deriving DecidableEq, Repr

/-- R156 to R163: the state of the bank arbiter with its load-link controller. -/
structure Arbiter where
  roster : Tab Bank 8
  waits : List BankWait
  service : Option Service
  asked : List Asked
  exchanges : Tab (Option Exchange) 8
  turn : Option Turn
  sweepFrom : Nat
  nextJoin : Nat
  deriving DecidableEq, Repr

/-! ### Request links (chapter 11) -/

/-- R200: the request codes. -/
inductive ReqCode where
  | admitShelf | lookup | probe | find | amend | bind | start | resume | abort | release | take
  | createModel | editModel | activate | revise | discard
  | setBudget | setFeedWindow | bankStatus | stationStatus | reset
  deriving DecidableEq, Repr

/-- R200: the outcome codes of answers, in code order. -/
inductive Code where
  | ok | nullHandle | wrongTable | outOfRange | absent | stale | doubtful | guarded | wrongState
  | engaged | tableFull | duplicate | modelNotActive | modelInUse | invalidModel | badField
  | bayOccupied | frameError | unknownRequest
  deriving DecidableEq, Repr

/-- R53: a LOOKUP that waits for the extract of an engine. -/
structure Waiting where
  engine : EngineIx
  handle : Handle
  deriving DecidableEq, Repr

/-- R187, R188: a request delivered to its owner and not yet answered, with its effective tier
(R20). -/
structure Request where
  code : ReqCode
  tier : Nat
  tag : Byte
  body : List Byte
  waiting : Option Waiting
  deriving DecidableEq, Repr

/-- R187, R200: an answer formed and not yet wholly delivered, and the tick it was formed. -/
structure Answer where
  tag : Byte
  outcome : Code
  overrun : Bool
  body : List Byte
  formed : Nat
  deriving DecidableEq, Repr

/-- R187: the items of one link. -/
structure LinkState where
  request : Option Request
  unread : Option Answer
  overrun : Bool
  deriving DecidableEq, Repr

/-- R190: a link after a power-on reset or pin reset. -/
def LinkState.idle : LinkState := { request := none, unread := none, overrun := false }

/-- R190: a console frame in progress: the bytes after its start byte and the tick of the last one. -/
structure ConsoleRx where
  bytes : List Byte
  last : Nat
  deriving DecidableEq, Repr

/-! ### The machine -/

/-- The SX-412. `pending` is the queue of waiting commands, first in, first out; `now` is the 1 ms
time base; `held` says that a power-on or pin reset is being held (R194). -/
structure State where
  pending : List Instr
  now : Nat
  held : Bool
  straps : Straps
  store : Store
  models : ModelTable
  bays : Tab Bay 24
  senses : Tab BaySense 24
  feedSense : FeedSense
  engines : Tab Engine 6
  outbox : Tab (List Message) 6
  feed : Feed
  arb : Arbiter
  execLink : LinkState
  consoleLink : LinkState
  rx : Option ConsoleRx
  spiOut : List Byte
  deriving DecidableEq, Repr

/-- No command stops the machine with a fault: the spec answers a request it refuses and discards a
frame it does not accept, and both are next states. -/
inductive Fault where
  deriving DecidableEq, Repr

/-- Why a command has no meaning. -/
inductive Refusal where
  /-- Raised by an arm of `exec` whose command has no meaning in the model yet; safe. No arm raises
  it. -/
  | notModelled (mnemonic : String)
  deriving DecidableEq, Repr

/-- R161, R171: the first sweep asks IDENTIFY of every address in service, in ascending order
(log 7). -/
def firstSweep (banks : Nat) : List Asked :=
  ((List.finRange 8).filter fun b => b.val < banks).map fun b => ⟨b, .identify, false⟩

/-- R194: the machine right after a power-on or pin reset is released at tick `now` with the given
straps and first input samples. R28: record store; R48: model table; R73: bays; R97: sense receiver;
R108: engines; R171: arbiter; R185: feed supervisor; R190 to R192: links and attention. -/
def State.atRelease (now : Nat) (pins : StrapPins) (seats indicators : BitVec 24) : State where
  pending := []
  now := now
  held := false
  straps := pins.sample
  store :=
    { slots := Tab.fill 32 ⟨1, none⟩, queue := [], attention := [], pulse := none, cursor := 0,
      scrubFrom := now }
  models := { slots := Tab.fill 16 ⟨1, none⟩, cursor := 0, scrubFrom := now }
  bays := Tab.ofFn fun b =>
    if b.val < pins.sample.bays then
      Bay.atRelease now (seats.getLsbD b.val) (indicators.getLsbD b.val)
    else Bay.atRelease now false false
  senses := Tab.fill 24 BaySense.blank
  feedSense := FeedSense.blank
  engines := Tab.fill 6 Engine.free
  outbox := Tab.fill 6 []
  feed := Feed.atRelease
  arb :=
    { roster := Tab.fill 8 Bank.atRelease, waits := [], service := none,
      asked := firstSweep pins.sample.banks, exchanges := Tab.fill 8 none, turn := none,
      sweepFrom := now, nextJoin := 0 }
  execLink := LinkState.idle
  consoleLink := LinkState.idle
  rx := none
  spiOut := []

/-- The machine right after reset: released at tick 0 (log 9) with the straps of
`Config.resetPins`, every seat input down and every trip indicator inactive (log 6, DESIGN CHOICE,
unsafe). -/
def State.reset : State := State.atRelease 0 Config.resetPins 0#24 0#24

end Sys2Proof.Machine
end

