-- ==== Sys2Proof/Machine/Operands.lean ====
section
/-! DEFINITION. The encodings of chapter 12: how fields are read from request bodies and frames and how they are carried in answers, records and frames. -/

namespace Sys2Proof.Machine

/-! ### Writing bytes (R197, R199) -/

/-- One byte. -/
def byteOf (n : Nat) : Byte := BitVec.ofNat 8 n

/-- R197: two bytes, most significant first. -/
def be16 (n : Nat) : List Byte := [byteOf (n / 256), byteOf n]

/-- R197: four bytes, most significant first. -/
def be32 (n : Nat) : List Byte :=
  [byteOf (n / 16777216), byteOf (n / 65536), byteOf (n / 256), byteOf n]

/-- R197: a signed value in two bytes, in two's complement. -/
def beInt16 (z : Int) : List Byte := be16 (BitVec.ofInt 16 z).toNat

/-- R199: a flag byte. -/
def flagByte (b : Bool) : Byte := if b then 0x01#8 else 0x00#8

/-- R199: an optional field: a presence byte, then the value when present. -/
def optBytes {α : Type} (f : α → List Byte) : Option α → List Byte
  | none => [0x00#8]
  | some x => 0x01#8 :: f x

/-- R199: a list: a count byte, then the entries. -/
def listBytes {α : Type} (f : α → List Byte) (l : List α) : List Byte :=
  byteOf l.length :: l.flatMap f

/-! ### Codes (R200, R201) -/

def RecState.code : RecState → Nat
  | .staged => 0 | .bound => 1 | .ready => 2 | .queued => 3 | .running => 4 | .held => 5
  | .passed => 6 | .failed => 7 | .doubtful => 8

def ModelState.code : ModelState → Nat
  | .draft => 1 | .active => 2 | .doubtful => 3

/-- R201: the code of model state EMPTY. -/
def emptyModelCode : Nat := 0

def HoldReason.code : HoldReason → Nat
  | .host => 0 | .retryLimit => 1 | .unseated => 2 | .noCapacity => 3 | .conditions => 4
  | .modelDoubt => 5 | .reset => 6

def StepKind.code : StepKind → Nat
  | .hold => 0 | .trip => 1 | .restart => 2 | .derate => 3

def StepOutcome.code : StepOutcome → Nat
  | .pass => 0 | .holdTripped => 1 | .holdLimited => 2 | .tripEarly => 3 | .noTrip => 4
  | .noRestart => 5 | .unlatched => 6 | .derateHigh => 7 | .derateLow => 8 | .derateTripped => 9
  | .shed => 10 | .bankFault => 11 | .senseLost => 12 | .feedLost => 13 | .aborted => 14
  | .unseated => 15 | .noCapacity => 16 | .outOfConditions => 17 | .doubt => 18

/-- R121: the outcome of a stop cause's own name. -/
def StopCause.outcome : StopCause → StepOutcome
  | .aborted => .aborted | .unseated => .unseated | .doubt => .doubt | .shed => .shed
  | .feedLost => .feedLost | .bankFault => .bankFault | .senseLost => .senseLost
  | .noCapacity => .noCapacity | .outOfConditions => .outOfConditions

/-- R201: a stop cause is carried as the code of the outcome of its own name. -/
def StopCause.code (c : StopCause) : Nat := c.outcome.code

def DetectCause.code : DetectCause → Nat
  | .indicator => 0 | .collapse => 1

def Phase.code : Phase → Nat
  | .free => 0 | .reserve => 1 | .acquire => 2 | .load => 3 | .watch => 4 | .unload => 5
  | .close => 6

def RestartMode.code : RestartMode → Nat
  | .hiccup => 0 | .latch => 1

def BankState.code : BankState → Nat
  | .offline => 0 | .idle => 1 | .connecting => 2 | .connected => 3 | .releasing => 4

def WindowState.code : WindowState → Nat
  | .normal => 0 | .fault => 1 | .recovering => 2

def Code.code : Code → Nat
  | .ok => 0x00 | .nullHandle => 0x01 | .wrongTable => 0x02 | .outOfRange => 0x03
  | .absent => 0x04 | .stale => 0x05 | .doubtful => 0x06 | .guarded => 0x07 | .wrongState => 0x08
  | .engaged => 0x09 | .tableFull => 0x0A | .duplicate => 0x0B | .modelNotActive => 0x0C
  | .modelInUse => 0x0D | .invalidModel => 0x0E | .badField => 0x0F | .bayOccupied => 0x10
  | .frameError => 0x11 | .unknownRequest => 0x12

/-- R201: the byte of a reason set. -/
def Reasons.byte (r : Reasons) : Byte :=
  byteOf ((if r.verdict then 1 else 0) + (if r.passed then 2 else 0) + (if r.failed then 4 else 0)
    + (if r.held then 8 else 0) + (if r.doubt then 16 else 0))

/-- R200: the request that a request code names. -/
def ReqCode.ofByte (b : Byte) : Option ReqCode :=
  match b.toNat with
  | 0x10 => some .admitShelf
  | 0x11 => some .lookup
  | 0x12 => some .probe
  | 0x13 => some .find
  | 0x14 => some .amend
  | 0x15 => some .bind
  | 0x16 => some .start
  | 0x17 => some .resume
  | 0x18 => some .abort
  | 0x19 => some .release
  | 0x1A => some .take
  | 0x20 => some .createModel
  | 0x21 => some .editModel
  | 0x22 => some .activate
  | 0x23 => some .revise
  | 0x24 => some .discard
  | 0x30 => some .setBudget
  | 0x31 => some .setFeedWindow
  | 0x32 => some .bankStatus
  | 0x33 => some .stationStatus
  | 0x34 => some .reset
  | _ => none

/-- R199: A to Z, 0 to 9 and hyphen. -/
def isSerialChar (b : Byte) : Bool :=
  (0x41 ≤ b.toNat && b.toNat ≤ 0x5A) || (0x30 ≤ b.toNat && b.toNat ≤ 0x39) || b.toNat = 0x2D

/-! ### Handles (R198) -/

/-- R198: the 16 bits of a handle. -/
def Handle.toNat (h : Handle) : Nat :=
  (match h.table with | .shelf => 0 | .model => 32768) + h.index.val * 1024 + h.gen % 1024

/-- R198: a handle in two bytes. -/
def Handle.bytes (h : Handle) : List Byte := be16 h.toNat

/-- R198: the handle that 16 bits carry. -/
def Handle.ofNat (n : Nat) : Handle :=
  { table := if n / 32768 % 2 = 1 then .model else .shelf
    index := ⟨n / 1024 % 32, Nat.mod_lt _ (by decide)⟩
    gen := n % 1024 }

/-- The model slot that a model handle's index names, when it is below the model table limit. -/
def Handle.modelIx (h : Handle) : Option ModelIx :=
  if lt : h.index.val < Config.modelLimit then some ⟨h.index.val, lt⟩ else none

/-! ### Reading bytes

A reader takes what it reads from the front of a list of bytes and gives the rest, or nothing when
the bytes do not fit. -/

/-- The first `n` bytes. -/
def takeBytes : Nat → List Byte → Option (List Byte × List Byte)
  | 0, bs => some ([], bs)
  | _ + 1, [] => none
  | n + 1, b :: bs => (takeBytes n bs).map fun p => (b :: p.1, p.2)

/-- One byte as a number. -/
def readU8 : List Byte → Option (Nat × List Byte)
  | b :: bs => some (b.toNat, bs)
  | [] => none

/-- R197: two bytes as an unsigned number. -/
def readU16 : List Byte → Option (Nat × List Byte)
  | a :: b :: bs => some (a.toNat * 256 + b.toNat, bs)
  | _ => none

/-- R197: four bytes as an unsigned number. -/
def readU32 : List Byte → Option (Nat × List Byte)
  | a :: b :: c :: d :: bs =>
    some (((a.toNat * 256 + b.toNat) * 256 + c.toNat) * 256 + d.toNat, bs)
  | _ => none

/-- R197: a 16-bit number read as two's complement. -/
def signed16 (n : Nat) : Int := if n < 32768 then (n : Int) else (n : Int) - 65536

/-- R197: two bytes as a signed number. -/
def readI16 (bs : List Byte) : Option (Int × List Byte) :=
  (readU16 bs).map fun p => (signed16 p.1, p.2)

/-- R198: a handle. -/
def readHandle (bs : List Byte) : Option (Handle × List Byte) :=
  (readU16 bs).map fun p => (Handle.ofNat p.1, p.2)

/-- R199: a flag or presence byte; any value but 0 and 1 does not fit. -/
def readFlag : List Byte → Option (Bool × List Byte)
  | b :: bs => if b = 0x00#8 then some (false, bs) else if b = 0x01#8 then some (true, bs) else none
  | [] => none

/-- `n` entries, one after the other. -/
def readMany {α : Type} (f : List Byte → Option (α × List Byte)) :
    Nat → List Byte → Option (List α × List Byte)
  | 0, bs => some ([], bs)
  | n + 1, bs =>
    match f bs with
    | none => none
    | some (x, rest) => (readMany f n rest).map fun p => (x :: p.1, p.2)

/-- A whole body: what the reader reads, with no byte left over (R202). -/
def readAll {α : Type} (f : List Byte → Option (α × List Byte)) (bs : List Byte) : Option α :=
  match f bs with
  | some (x, []) => some x
  | _ => none

/-- R202: one module entry. The present flag and the presence byte of the firmware code must be 0 or
1; the ranges of the other fields are the request's own check. -/
def readModule (bs : List Byte) : Option (ModuleEntry × List Byte) := do
  let (slot, bs) ← readU8 bs
  let (serial, bs) ← takeBytes 10 bs
  let (present, bs) ← readFlag bs
  let (has, bs) ← readFlag bs
  if has then
    let (fw, bs) ← readU16 bs
    return (⟨slot, serial, present, some fw⟩, bs)
  else
    return (⟨slot, serial, present, none⟩, bs)

/-- R63, R50: the ranges of a module entry: the slot is 1 to 6 and the serial's characters are in the
set. -/
def ModuleEntry.inRange (m : ModuleEntry) : Bool :=
  (1 ≤ m.slot && m.slot ≤ 6) && m.serial.all isSerialChar

/-- R202: the body of ADMIT. -/
structure AdmitBody where
  serial : List Byte
  model : Handle
  priority : Nat
  guardLevel : Nat
  modules : List ModuleEntry
  deriving DecidableEq, Repr

/-- R202, R199: the body of ADMIT; the module count is 1 to 6. -/
def readAdmitBody (bs : List Byte) : Option (AdmitBody × List Byte) := do
  let (serial, bs) ← takeBytes 12 bs
  let (model, bs) ← readHandle bs
  let (priority, bs) ← readU8 bs
  let (guardLevel, bs) ← readU8 bs
  let (count, bs) ← readU8 bs
  if 1 ≤ count ∧ count ≤ 6 then
    let (modules, bs) ← readMany readModule count bs
    return (⟨serial, model, priority, guardLevel, modules⟩, bs)
  else none

/-- R56, R201: the selectors of PROBE, in code order. R22 says that PROBE reports the guard level too, for
which R201 has no selector; the model follows R201 (log 33, DESIGN CHOICE). -/
inductive Selector where
  | state | bay | cursor | lastOutcome | model | priority | present | hold
  deriving DecidableEq, Repr

def Selector.ofCode : Nat → Option Selector
  | 0 => some .state
  | 1 => some .bay
  | 2 => some .cursor
  | 3 => some .lastOutcome
  | 4 => some .model
  | 5 => some .priority
  | 6 => some .present
  | 7 => some .hold
  | _ => none

/-- R202, R56: the body of PROBE; a selector that names no field does not fit. -/
def readProbeBody (bs : List Byte) : Option ((Handle × Selector) × List Byte) := do
  let (h, bs) ← readHandle bs
  let (n, bs) ← readU8 bs
  let sel ← Selector.ofCode n
  return ((h, sel), bs)

/-- R57: the body of FIND. `mask` bit i governs character position i; `filter` bit i is the record
state of code i. -/
structure FindBody where
  pattern : List Byte
  mask : Nat
  filter : Nat
  start : Nat
  deriving DecidableEq, Repr

/-- R57: two serials agree at every position whose mask bit is 1. `pos` is the position of the
heads. -/
def maskedAll (p : Byte → Byte → Bool) (mask : Nat) : Nat → List Byte → List Byte → Bool
  | pos, a :: as, b :: bs => (!mask.testBit pos || p a b) && maskedAll p mask (pos + 1) as bs
  | _, _, _ => true

/-- R57, R201: a body of FIND that fits: the start index is at most 31, the pattern's masked
characters are in the set, and the filter names a record state (bits 15 to 9 are not read). -/
def FindBody.fits (f : FindBody) : Bool :=
  f.start ≤ 31 && maskedAll (fun a _ => isSerialChar a) f.mask 0 f.pattern f.pattern
    && f.filter % 512 ≠ 0

/-- R202: the body of FIND. -/
def readFindBody (bs : List Byte) : Option (FindBody × List Byte) := do
  let (pattern, bs) ← takeBytes 12 bs
  let (mask, bs) ← readU16 bs
  let (filter, bs) ← readU16 bs
  let (start, bs) ← readU8 bs
  let f : FindBody := ⟨pattern, mask, filter, start⟩
  if f.fits then return (f, bs) else none

/-- R201: the items of AMEND, in code order. -/
inductive AmendItem where
  | priority | guardLevel | note | model | addModule | dropModule | present
  deriving DecidableEq, Repr

def AmendItem.code : AmendItem → Nat
  | .priority => 0 | .guardLevel => 1 | .note => 2 | .model => 3 | .addModule => 4
  | .dropModule => 5 | .present => 6

def AmendItem.ofCode : Nat → Option AmendItem
  | 0 => some .priority
  | 1 => some .guardLevel
  | 2 => some .note
  | 3 => some .model
  | 4 => some .addModule
  | 5 => some .dropModule
  | 6 => some .present
  | _ => none

/-- R202: the value of an AMEND, by item. -/
inductive AmendValue where
  | priority (n : Nat)
  | guardLevel (n : Nat)
  | note (n : Nat)
  | model (h : Handle)
  | addModule (m : ModuleEntry)
  | dropModule (slot : Nat)
  | present (slot : Nat) (flag : Bool)
  deriving DecidableEq, Repr

/-- R202: the value that follows an item code. -/
def readAmendValue : AmendItem → List Byte → Option (AmendValue × List Byte)
  | .priority, bs => (readU8 bs).map fun p => (.priority p.1, p.2)
  | .guardLevel, bs => (readU8 bs).map fun p => (.guardLevel p.1, p.2)
  | .note, bs => (readU16 bs).map fun p => (.note p.1, p.2)
  | .model, bs => (readHandle bs).map fun p => (.model p.1, p.2)
  | .addModule, bs => (readModule bs).map fun p => (.addModule p.1, p.2)
  | .dropModule, bs => (readU8 bs).map fun p => (.dropModule p.1, p.2)
  | .present, bs =>
    match readU8 bs with
    | none => none
    | some (slot, bs) => (readFlag bs).map fun p => (.present slot p.1, p.2)

/-- R202: the body of AMEND. -/
def readAmendBody (bs : List Byte) : Option ((Handle × AmendValue) × List Byte) := do
  let (h, bs) ← readHandle bs
  let (n, bs) ← readU8 bs
  let item ← AmendItem.ofCode n
  let (v, bs) ← readAmendValue item bs
  return ((h, v), bs)

/-- R201: the item that the item code of an AMEND body names, when the body is long enough to hold
one. -/
def amendItemOf (body : List Byte) : Option AmendItem :=
  (body[2]?).bind fun b => AmendItem.ofCode b.toNat

/-- R202: the body of BIND. -/
def readBindBody (bs : List Byte) : Option ((Handle × Nat) × List Byte) := do
  let (h, bs) ← readHandle bs
  let (bay, bs) ← readU8 bs
  return ((h, bay), bs)

/-- R202: the body of CREATE_MODEL. -/
def readCreateBody (bs : List Byte) : Option ((List Byte × Nat) × List Byte) := do
  let (name, bs) ← takeBytes 8 bs
  let (rev, bs) ← readU16 bs
  return ((name, rev), bs)

/-- R201: the parameter items of EDIT_MODEL that hold a number. -/
inductive ParamItem where
  | mRated | vNom | iMod | vCollapse | vGood | tMin | tMax | restartWindow | latchObserve | pCap
  | vKnee | vMin | tolAbs | tolPpt | effPpt | overPpt | settleMs | window | drift
  deriving DecidableEq, Repr

/-- R38, R202: an item of EDIT_MODEL with its value. A plan with a step of unknown kind is carried as
no plan: its length cannot be told, and R38 refuses it (log 12). -/
inductive EditItem where
  | name (code : List Byte)
  | param (p : ParamItem) (n : Nat)
  | restartMode (n : Nat)
  | curve (knots : List Knot)
  | plan (steps : Option (List PlanStep))
  deriving DecidableEq, Repr

/-- R202: one knot. -/
def readKnot (bs : List Byte) : Option (Knot × List Byte) := do
  let (t, bs) ← readI16 bs
  let (p, bs) ← readU32 bs
  return (⟨t, p⟩, bs)

/-- R199, R33: the knot list; the count is 0 to 6. -/
def readCurve (bs : List Byte) : Option (List Knot × List Byte) := do
  let (count, bs) ← readU8 bs
  if count ≤ 6 then readMany readKnot count bs else none

/-- R199, R201: `n` plan steps. A step of unknown kind ends the reading with no plan and no bytes
left, when at least one byte stands there for each step after it (log 12). -/
def readSteps : Nat → List Byte → Option (Option (List PlanStep) × List Byte)
  | 0, bs => some (some [], bs)
  | n + 1, bs =>
    match readU8 bs with
    | none => none
    | some (0, bs) =>
      match readU16 bs with
      | none => none
      | some (lv, bs) =>
        match readU16 bs with
        | none => none
        | some (d, bs) => (readSteps n bs).map fun p => (p.1.map (.hold lv d :: ·), p.2)
    | some (1, bs) =>
      match readU16 bs with
      | none => none
      | some (lv, bs) => (readSteps n bs).map fun p => (p.1.map (.trip lv :: ·), p.2)
    | some (2, bs) => (readSteps n bs).map fun p => (p.1.map (.restart :: ·), p.2)
    | some (3, bs) => (readSteps n bs).map fun p => (p.1.map (.derate :: ·), p.2)
    | some (_, bs) => if n ≤ bs.length then some (none, []) else none

/-- R199, R34: the plan; the count is 0 to 8. -/
def readPlan (bs : List Byte) : Option (Option (List PlanStep) × List Byte) := do
  let (count, bs) ← readU8 bs
  if count ≤ 8 then readSteps count bs else none

/-- A parameter item of one byte, two bytes or four bytes, as R199 gives the field. -/
def readParam (p : ParamItem) (bs : List Byte) : Option (EditItem × List Byte) :=
  match p with
  | .mRated => (readU8 bs).map fun x => (.param p x.1, x.2)
  | .pCap => (readU32 bs).map fun x => (.param p x.1, x.2)
  | _ => (readU16 bs).map fun x => (.param p x.1, x.2)

/-- R201: the item that an EDIT_MODEL item code names, read with its value. -/
def readEditItem (item : Nat) (bs : List Byte) : Option (EditItem × List Byte) :=
  match item with
  | 0 => (takeBytes 8 bs).map fun p => (.name p.1, p.2)
  | 1 => readParam .mRated bs
  | 2 => readParam .vNom bs
  | 3 => readParam .iMod bs
  | 4 => readParam .vCollapse bs
  | 5 => readParam .vGood bs
  | 6 => readParam .tMin bs
  | 7 => readParam .tMax bs
  | 8 => (readU8 bs).map fun p => (.restartMode p.1, p.2)
  | 9 => readParam .restartWindow bs
  | 10 => readParam .latchObserve bs
  | 11 => readParam .pCap bs
  | 12 => (readCurve bs).map fun p => (.curve p.1, p.2)
  | 13 => readParam .vKnee bs
  | 14 => readParam .vMin bs
  | 15 => readParam .tolAbs bs
  | 16 => readParam .tolPpt bs
  | 17 => readParam .effPpt bs
  | 18 => readParam .overPpt bs
  | 19 => readParam .settleMs bs
  | 20 => readParam .window bs
  | 21 => readParam .drift bs
  | 22 => (readPlan bs).map fun p => (.plan p.1, p.2)
  | _ => none

/-- R202: the body of EDIT_MODEL. -/
def readEditBody (bs : List Byte) : Option ((Handle × EditItem) × List Byte) := do
  let (h, bs) ← readHandle bs
  let (n, bs) ← readU8 bs
  let (item, bs) ← readEditItem n bs
  return ((h, item), bs)

/-- R173: the body of SET_BUDGET; neither value is above 60000. -/
def readBudgetBody (bs : List Byte) : Option ((Nat × Nat) × List Byte) := do
  let (b, bs) ← readU16 bs
  let (g, bs) ← readU16 bs
  if b ≤ 60000 ∧ g ≤ 60000 then return ((b, g), bs) else none

/-- R174: the body of SET_FEED_WINDOW; neither limit is above 6000 and the high limit is at least
the low limit plus 100. -/
def readWindowBody (bs : List Byte) : Option ((Nat × Nat) × List Byte) := do
  let (lo, bs) ← readU16 bs
  let (hi, bs) ← readU16 bs
  if lo ≤ 6000 ∧ hi ≤ 6000 ∧ lo + 100 ≤ hi then return ((lo, hi), bs) else none

/-! ### Records and descriptors in bytes (R199) -/

/-- R199: a module entry. -/
def ModuleEntry.bytes (m : ModuleEntry) : List Byte :=
  byteOf m.slot :: (m.serial ++ flagByte m.present :: optBytes be16 m.firmware)

/-- R199: a result entry. -/
def ResultEntry.bytes (r : ResultEntry) : List Byte :=
  [byteOf r.index, byteOf r.kind.code, byteOf r.outcome.code] ++ optBytes be32 r.value
    ++ optBytes (fun c => [byteOf c.code]) r.cause ++ [byteOf r.attempt]

/-- R199, R23: a shelf record as the LOOKUP answer carries it, without its integrity code. -/
def ShelfRecord.bytes (r : ShelfRecord) : List Byte :=
  r.serial ++ r.model.bytes ++ optBytes (fun b => [byteOf b.val]) r.bay ++ [byteOf r.state.code]
    ++ optBytes (fun h => [byteOf h.code]) r.hold ++ [byteOf r.priority, byteOf r.guardLevel]
    ++ be16 r.note ++ listBytes ModuleEntry.bytes r.modules ++ [byteOf r.cursor]
    ++ listBytes ResultEntry.bytes r.results ++ [byteOf r.retry]
    ++ optBytes (fun e => [byteOf e.val]) r.engaged

/-- R199: a knot. -/
def Knot.bytes (k : Knot) : List Byte := beInt16 k.temp ++ be32 k.power

/-- R199: a plan step. -/
def PlanStep.bytes : PlanStep → List Byte
  | .hold lv d => byteOf 0 :: (be16 lv ++ be16 d)
  | .trip lv => byteOf 1 :: be16 lv
  | .restart => [byteOf 2]
  | .derate => [byteOf 3]

/-- R34: the kind of a plan step. -/
def PlanStep.kind : PlanStep → StepKind
  | .hold _ _ => .hold
  | .trip _ => .trip
  | .restart => .restart
  | .derate => .derate

/-- R199, R44: a model descriptor in table order, without its integrity code. -/
def Model.bytes (m : Model) : List Byte :=
  m.name ++ [byteOf m.revision, byteOf m.state.code, byteOf m.refCount]
    ++ optBytes (fun n => [byteOf n]) m.params.mRated
    ++ optBytes be16 m.params.vNom ++ optBytes be16 m.params.iMod
    ++ optBytes be16 m.params.vCollapse ++ optBytes be16 m.params.vGood
    ++ optBytes be16 m.params.tMin ++ optBytes be16 m.params.tMax
    ++ optBytes (fun r => [byteOf r.code]) m.params.restartMode
    ++ optBytes be16 m.params.restartWindow ++ optBytes be16 m.params.latchObserve
    ++ optBytes be32 m.params.pCap ++ listBytes Knot.bytes m.curve
    ++ optBytes be16 m.params.vKnee ++ optBytes be16 m.params.vMin
    ++ optBytes be16 m.params.tolAbs ++ optBytes be16 m.params.tolPpt
    ++ optBytes be16 m.params.effPpt ++ optBytes be16 m.params.overPpt
    ++ optBytes be16 m.params.settleMs ++ optBytes be16 m.params.window
    ++ optBytes be16 m.params.drift ++ listBytes PlanStep.bytes m.plan

/-- R203: an extract as the LOOKUP answer carries it. Of an elapsed time beyond 4 bytes the low 32 bits are
carried (log 36, DESIGN CHOICE). -/
def Extract.bytes (x : Extract) : List Byte :=
  [byteOf x.phase.code, byteOf x.index, byteOf x.kind.code] ++ be32 x.elapsed
    ++ [flagByte x.stale] ++ optBytes be16 x.vOut ++ optBytes be16 x.iOut
    ++ optBytes beInt16 x.temp ++ optBytes (fun c => [byteOf c.code]) x.stop

/-! ### Sense frames (R204) -/

/-- R91, R204: the fields of a bay frame, raw. -/
structure BayFields where
  bay : Nat
  vOut : Int
  iOut : Int
  temp : Int
  vIn : Int
  flagVin : Bool
  flagT : Bool
  flagI : Bool
  flagV : Bool
  seq : Nat
  deriving DecidableEq, Repr

/-- R92 check 1, R204: the fields of a frame of 12 bytes whose kind is 0x01. -/
def readBayFields : List Byte → Option BayFields
  | [k, bay, v1, v0, i1, i0, t1, t0, n1, n0, fs, _crc] =>
    if k = 0x01#8 then
      some
        { bay := bay.toNat
          vOut := signed16 (v1.toNat * 256 + v0.toNat)
          iOut := signed16 (i1.toNat * 256 + i0.toNat)
          temp := signed16 (t1.toNat * 256 + t0.toNat)
          vIn := signed16 (n1.toNat * 256 + n0.toNat)
          flagVin := fs.toNat.testBit 3
          flagT := fs.toNat.testBit 2
          flagI := fs.toNat.testBit 1
          flagV := fs.toNat.testBit 0
          seq := fs.toNat / 16 }
    else none
  | _ => none

/-- R91, R204: the fields of a feed frame, raw. -/
structure FeedFields where
  draw : Nat
  volts : Nat
  seq : Nat
  deriving DecidableEq, Repr

/-- R92 check 1, R204: the fields of a frame of 7 bytes whose kind is 0x02. -/
def readFeedFields : List Byte → Option FeedFields
  | [k, d1, d0, v1, v0, fs, _crc] =>
    if k = 0x02#8 then
      some
        { draw := d1.toNat * 256 + d0.toNat
          volts := v1.toNat * 256 + v0.toNat
          seq := fs.toNat / 16 }
    else none
  | _ => none

/-- R93: a value brought into the range `lo` to `hi`. -/
def clampInt (lo hi z : Int) : Int := if z < lo then lo else if hi < z then hi else z

/-- R93: the stored sample of an accepted bay frame. A flag is set when the frame's own flag is set
or when the value is clamped. -/
def BayFields.stored (f : BayFields) : Sample :=
  { vOut := (clampInt 0 6500 f.vOut).toNat
    iOut := (clampInt 0 20000 f.iOut).toNat
    temp := clampInt (-400) 1250 f.temp
    vIn := (clampInt 0 3000 f.vIn).toNat
    overV := f.flagV || clampInt 0 6500 f.vOut ≠ f.vOut
    overI := f.flagI || clampInt 0 20000 f.iOut ≠ f.iOut
    overT := f.flagT || clampInt (-400) 1250 f.temp ≠ f.temp
    overVin := f.flagVin || clampInt 0 3000 f.vIn ≠ f.vIn }

/-- R93: the stored sample of an accepted feed frame. -/
def FeedFields.stored (f : FeedFields) : FeedSample :=
  { draw := min f.draw 60000, volts := min f.volts 6000 }

/-! ### Load-link frames (R205) -/

/-- R205: the kind byte and the value at offsets 2 and 3 of a controller request. -/
def LinkRequest.fields : LinkRequest → Nat × Nat
  | .identify => (0x01, 0)
  | .connect b => (0x02, b.val)
  | .set l => (0x03, l)
  | .release => (0x04, 0)

/-- R205: the reply kinds of the load link. -/
inductive ReplyKind where
  | ident | ready | level | released | wait | fault
  deriving DecidableEq, Repr

/-- R205: the kind byte of a reply. -/
def ReplyKind.byte : ReplyKind → Byte
  | .ident => 0x81#8
  | .ready => 0x82#8
  | .level => 0x83#8
  | .released => 0x84#8
  | .wait => 0x85#8
  | .fault => 0x86#8

/-- R206: the reply kinds that answer an open exchange. -/
def ReplyKind.answers : ReplyKind → LinkRequest → Bool
  | .ident, .identify => true
  | .ready, .connect _ => true
  | .level, .set _ => true
  | .released, .release => true
  | .wait, _ => true
  | .fault, _ => true
  | _, _ => false

/-- R206: what byte 4 of a reply may be: a mark of 0 or 1 in a LEVEL reply, any code in a FAULT
reply, 0 in every other kind. -/
def ReplyKind.byte4Ok (k : ReplyKind) (b : Byte) : Bool :=
  match k with
  | .level => b = 0x00#8 || b = 0x01#8
  | .fault => true
  | _ => b = 0x00#8

end Sys2Proof.Machine
end

