-- ==== Sys2Proof/Machine/Flags.lean ====
section
/-! DEFINITION. Check codes, integrity codes, handles as the tables stand, and every output and sum that is a function of the state. -/

namespace Sys2Proof.Machine

/-! ### Check codes (R206) -/

/-- R206: one bit of the CRC-8 with polynomial x^8 + x^2 + x + 1, most significant bit first. -/
def crc8Bit (c : Byte) : Byte := if c.msb then (c <<< 1) ^^^ 0x07#8 else c <<< 1

/-- R206: one byte of the CRC-8. -/
def crc8Step (c b : Byte) : Byte :=
  crc8Bit (crc8Bit (crc8Bit (crc8Bit (crc8Bit (crc8Bit (crc8Bit (crc8Bit (c ^^^ b))))))))

/-- R206, R23: the CRC-8, initial value 0. -/
def crc8 (bs : List Byte) : Byte := bs.foldl crc8Step 0x00#8

/-- R206: one bit of the CRC-16 with polynomial x^16 + x^12 + x^5 + 1. -/
def crc16Bit (c : BitVec 16) : BitVec 16 := if c.msb then (c <<< 1) ^^^ 0x1021#16 else c <<< 1

/-- R206: one byte of the CRC-16. -/
def crc16Step (c : BitVec 16) (b : Byte) : BitVec 16 :=
  crc16Bit (crc16Bit (crc16Bit (crc16Bit (crc16Bit (crc16Bit (crc16Bit (crc16Bit
    (c ^^^ (b.zeroExtend 16 <<< 8)))))))))

/-- R206: the CRC-16, initial value 0xFFFF. -/
def crc16 (bs : List Byte) : BitVec 16 := bs.foldl crc16Step 0xFFFF#16

/-- R206: a frame whose last byte is the CRC-8 of the bytes before it. -/
def crc8Ok (frame : List Byte) : Bool :=
  match frame.getLast? with
  | some c => crc8 frame.dropLast = c
  | none => false

/-- R206: a frame with its CRC-8 appended. -/
def withCrc8 (bs : List Byte) : List Byte := bs ++ [crc8 bs]

/-- R197, R206: a frame with its CRC-16 appended, most significant byte first. -/
def withCrc16 (bs : List Byte) : List Byte := bs ++ be16 (crc16 bs).toNat

/-! ### Integrity codes (R23, R44) -/

/-- R23: the code of a shelf record's contents. -/
def ShelfRecord.crc (r : ShelfRecord) : Byte := crc8 r.bytes

/-- R23: the record with its code recomputed, the last act of every write. -/
def ShelfRecord.seal (r : ShelfRecord) : ShelfRecord := { r with code := r.crc }

/-- R23: the stored code matches the contents. -/
def ShelfRecord.intact (r : ShelfRecord) : Bool := r.code = r.crc

/-- R44: the code of a descriptor's contents. -/
def Model.crc (m : Model) : Byte := crc8 m.bytes

/-- R44: the descriptor with its code recomputed. -/
def Model.seal (m : Model) : Model := { m with code := m.crc }

/-- R44: the stored code matches the contents. -/
def Model.intact (m : Model) : Bool := m.code = m.crc

/-- R8: m_present, the number of module entries whose present flag is 1. -/
def ShelfRecord.mPresent (r : ShelfRecord) : Nat := (r.modules.filter (·.present)).length

/-! ### Reading the state -/

namespace State

/-- A shelf slot. -/
def slot (s : State) (i : SlotIx) : ShelfSlot := s.store.slots.get i

/-- The record of a shelf slot; none when the slot is FREE. -/
def record (s : State) (i : SlotIx) : Option ShelfRecord := (s.slot i).record

/-- A model slot. -/
def modelSlot (s : State) (m : ModelIx) : ModelSlot := s.models.slots.get m

/-- The descriptor of a model slot; none when the slot is EMPTY. -/
def model (s : State) (m : ModelIx) : Option Model := (s.modelSlot m).model

/-- A bay. -/
def bay (s : State) (b : BayIx) : Bay := s.bays.get b

/-- The sense store of a bay. -/
def sense (s : State) (b : BayIx) : BaySense := s.senses.get b

/-- An engine. -/
def engine (s : State) (e : EngineIx) : Engine := s.engines.get e

/-- A roster entry. -/
def bank (s : State) (b : BankIx) : Bank := s.arb.roster.get b

/-- The open exchange with a bank. -/
def exchange (s : State) (b : BankIx) : Option Exchange := s.arb.exchanges.get b

/-- A request link. -/
def link (s : State) : Link → LinkState
  | .executive => s.execLink
  | .console => s.consoleLink

/-- R15: the handle of a shelf slot with its current generation. -/
def handleOf (s : State) (i : SlotIx) : Handle := ⟨.shelf, i, (s.slot i).gen⟩

/-- R15: the handle of a model slot with its current generation. -/
def modelHandleOf (s : State) (m : ModelIx) : Handle :=
  ⟨.model, ⟨m.val, Nat.lt_trans m.isLt (by decide)⟩, (s.modelSlot m).gen⟩

/-- The descriptor a record names (R5); its handle's generation does not change while the record is
in use. -/
def modelOf (s : State) (r : ShelfRecord) : Option Model := r.model.modelIx.bind s.model

/-- R9, R34: the length of the plan of the record's model. -/
def planLength (s : State) (r : ShelfRecord) : Nat :=
  ((s.modelOf r).map fun m => m.plan.length).getD 0

/-- R9: the cursor stands on a RESTART step of the record's plan. -/
def onRestart (s : State) (r : ShelfRecord) : Bool :=
  ((s.modelOf r).bind fun m => m.plan[r.cursor]?) = some .restart

/-- R9: a cursor on a RESTART step is moved back to the TRIP step before it. -/
def queuedCursor (s : State) (r : ShelfRecord) : Nat :=
  if s.onRestart r then r.cursor - 1 else r.cursor

/-- R73: a bay is in service below the bay count. -/
def bayInService (s : State) (b : BayIx) : Bool := b.val < s.straps.bays

/-- The debounced seat of a record's bay is up; a record with no bay is not seated. -/
def seatUp (s : State) (r : ShelfRecord) : Bool :=
  match r.bay with
  | some b => (s.bay b).seated
  | none => false

/-- R73: the record that a bay's binding names. -/
def boundSlot (s : State) (b : BayIx) : Option SlotIx := (s.bay b).binding.map (·.index)

/-- R98: the engine that watches a bay. -/
def watcher (s : State) (b : BayIx) : Option EngineIx :=
  (List.finRange 6).find? fun e =>
    (s.engine e).watch && ((s.engine e).copy.map (·.bay)) = some b

/-- An engine holds a record: it is not FREE and its working copy names the handle. -/
def holds (s : State) (e : EngineIx) (h : Handle) : Bool :=
  (s.engine e).phase ≠ .free && ((s.engine e).copy.map (·.handle)) = some h

/-- R108: the engine that holds a record. -/
def holder (s : State) (h : Handle) : Option EngineIx := (List.finRange 6).find? fun e => s.holds e h

/-- R73: the bays whose binding names a record. -/
def boundBays (s : State) (h : Handle) : List BayIx :=
  (List.finRange 24).filter fun b => (s.bay b).binding = some h

/-- R156: the addresses in service, ascending. -/
def addresses (s : State) : List BankIx :=
  (List.finRange 8).filter fun b => b.val < s.straps.banks

/-- R157: the total online capability. -/
def totalOnline (s : State) : Nat :=
  ((s.addresses.filter fun b => (s.bank b).state ≠ .offline).map fun b => (s.bank b).cap).sum

/-! ### Outputs -/

/-- R76: the enable output of a bay: the binding names a QUEUED or RUNNING record, the debounced
seat is up, the seat-lost mark is clear and the re-arm timer is stopped. R73: off at or above the
bay count; R194: off while reset is held. -/
def enableOutput (s : State) (b : BayIx) : Bool :=
  !s.held && s.bayInService b && (s.bay b).seated && !(s.bay b).seatLost
    && (s.bay b).rearm.isNone
    && match (s.boundSlot b).bind s.record with
      | some r => r.state = .queued || r.state = .running
      | none => false

/-- R192: the attention line is active. In level mode it follows the list; in pulse mode it is active
while a pulse runs. R194: inactive while reset is held. -/
def attentionActive (s : State) : Bool :=
  !s.held && if s.straps.pulse then s.store.pulse.isSome else !s.store.attention.isEmpty

/-- R189: ANSWER-READY is active while the executive link holds an unread answer. -/
def answerReady (s : State) : Bool := !s.held && s.execLink.unread.isSome

/-- R187, R190: a link is free when it has neither a pending request nor an unread answer; a console
link out of service is never free. -/
def linkFree (s : State) (l : Link) : Bool :=
  (s.link l).request.isNone && (s.link l).unread.isNone && (l = .executive || s.straps.console)

/-- R81, R174: a feed voltage lies in the recovery band. -/
def inBand (s : State) (volts : Nat) : Bool :=
  s.feed.low + Config.bandMargin ≤ volts && volts + Config.bandMargin ≤ s.feed.high

end State

/-! ### Frames of answers and of the load link -/

/-- R200: an answer frame. -/
def Answer.frame (a : Answer) : List Byte :=
  withCrc16 ([a.tag, byteOf a.outcome.code, flagByte a.overrun] ++ be16 a.body.length ++ a.body)

/-- R200: what the console transmits for an answer: the start byte 0x7E, then the answer frame. -/
def Answer.consoleFrame (a : Answer) : List Byte := 0x7E#8 :: a.frame

/-- R189, R190, R200: the bytes that the console transmit output carries, from the forming of an answer
until its last byte has been sent. R194: idle while reset is held. -/
def State.consoleTransmits (s : State) : List Byte :=
  if s.held then [] else (s.consoleLink.unread.map Answer.consoleFrame).getD []

/-- R200: the no-answer frame of R189. -/
def noAnswerFrame : List Byte := withCrc16 [0x00#8, 0xFF#8, 0x00#8, 0x00#8, 0x00#8]

/-- R205: a controller request frame. -/
def requestFrameOf (b : BankIx) (r : LinkRequest) : List Byte :=
  withCrc8 ([byteOf b.val, byteOf r.fields.1] ++ be16 r.fields.2 ++ [0x00#8])

/-- R205: the POLL frame. -/
def pollFrame (b : BankIx) : List Byte := withCrc8 [byteOf b.val, 0x05#8, 0x00#8, 0x00#8, 0x00#8]

/-- R187, R20: the link floor. -/
def linkFloor : Link → Nat
  | .executive => 0
  | .console => 2

end Sys2Proof.Machine
end

