-- ==== Sys2Proof/Machine/Ops.lean ====
section
/-! DEFINITION. The named operations over the tables, the lists and the request links. -/

namespace Sys2Proof.Machine

/-! ### Ordered lists (spec 00, Conventions: Tiers and priorities, Lists) -/

/-- Joining an ordered list: the item is placed before the first item it ranks before. -/
def insertRanked {α : Type} (before : α → α → Bool) (x : α) : List α → List α
  | [] => [x]
  | y :: ys => if before x y then x :: y :: ys else y :: insertRanked before x ys

/-- Priority first, then bay number, then age in the list. -/
def ranksBefore (p b j p' b' j' : Nat) : Bool :=
  p < p' || (p = p' && (b < b' || (b = b' && j < j')))

/-- R176: the order of the feed wait list. -/
def FeedWait.before (x y : FeedWait) : Bool :=
  ranksBefore x.priority x.bay.val x.joined y.priority y.bay.val y.joined

/-- R162: the order of the bank wait list. -/
def BankWait.before (x y : BankWait) : Bool :=
  ranksBefore x.priority x.bay.val x.joined y.priority y.bay.val y.joined

namespace State

/-! ### Writing the tables -/

def setSlot (s : State) (i : SlotIx) (x : ShelfSlot) : State :=
  { s with store := { s.store with slots := s.store.slots.put i x } }

/-- R23: a record is written with its integrity code recomputed; the slot keeps its generation. -/
def writeRecord (s : State) (i : SlotIx) (r : ShelfRecord) : State :=
  s.setSlot i ⟨(s.slot i).gen, some r.seal⟩

/-- R14: the generation after a slot is retired, 1 after 1023. -/
def nextGen (g : Nat) : Nat := if g = 1023 then 1 else g + 1

def setModelSlot (s : State) (m : ModelIx) (x : ModelSlot) : State :=
  { s with models := { s.models with slots := s.models.slots.put m x } }

/-- R44: a descriptor is written with its integrity code recomputed; the slot keeps its
generation. -/
def writeModel (s : State) (m : ModelIx) (x : Model) : State :=
  s.setModelSlot m ⟨(s.modelSlot m).gen, some x.seal⟩

def setBay (s : State) (b : BayIx) (x : Bay) : State := { s with bays := s.bays.put b x }

def setSense (s : State) (b : BayIx) (x : BaySense) : State :=
  { s with senses := s.senses.put b x }

def setEngine (s : State) (e : EngineIx) (x : Engine) : State :=
  { s with engines := s.engines.put e x }

/-- An engine changed in place. -/
def modEngine (s : State) (e : EngineIx) (f : Engine → Engine) : State :=
  s.setEngine e (f (s.engine e))

def setFeed (s : State) (f : Feed) : State := { s with feed := f }

def setArb (s : State) (a : Arbiter) : State := { s with arb := a }

def setBank (s : State) (b : BankIx) (x : Bank) : State :=
  { s with arb := { s.arb with roster := s.arb.roster.put b x } }

/-- A roster entry changed in place. -/
def modBank (s : State) (b : BankIx) (f : Bank → Bank) : State := s.setBank b (f (s.bank b))

def setExchange (s : State) (b : BankIx) (x : Option Exchange) : State :=
  { s with arb := { s.arb with exchanges := s.arb.exchanges.put b x } }

def setLink (s : State) (l : Link) (x : LinkState) : State :=
  match l with
  | .executive => { s with execLink := x }
  | .console => { s with consoleLink := x }

/-- R53: a message joins the messages its engine has sent. -/
def send (s : State) (e : EngineIx) (m : Message) : State :=
  { s with outbox := s.outbox.put e (s.outbox.get e ++ [m]) }

/-! ### Start queue (R104) -/

/-- The priority and bay by which a queued slot ranks; no bay ranks after every bay. -/
def queueRank (s : State) (i : SlotIx) : Nat × Nat :=
  match s.record i with
  | some r => (r.priority, match r.bay with | some b => b.val | none => 24)
  | none => (8, 24)

/-- R104: the order of the start queue. -/
def queueBefore (s : State) (i j : SlotIx) : Bool :=
  ranksBefore (s.queueRank i).1 (s.queueRank i).2 0 (s.queueRank j).1 (s.queueRank j).2 0

def setQueue (s : State) (q : List SlotIx) : State :=
  { s with store := { s.store with queue := q } }

/-- A record leaves the start queue; the others keep their order. -/
def leaveQueue (s : State) (i : SlotIx) : State := s.setQueue (s.store.queue.filter (· ≠ i))

/-- R84, R104: a record joins the start queue at the place its order gives. -/
def joinQueue (s : State) (i : SlotIx) : State :=
  s.setQueue (insertRanked s.queueBefore i (s.store.queue.filter (· ≠ i)))

end State

/-! ### Attention list (R191, R192) -/

def Reasons.none : Reasons := ⟨false, false, false, false, false⟩
def Reasons.onlyHeld : Reasons := { Reasons.none with held := true }
def Reasons.onlyDoubt : Reasons := { Reasons.none with doubt := true }

/-- R191: the reason set gains the new reasons. -/
def Reasons.union (a b : Reasons) : Reasons :=
  ⟨a.verdict || b.verdict, a.passed || b.passed, a.failed || b.failed, a.held || b.held,
    a.doubt || b.doubt⟩

/-- R191: a listed handle keeps its place and gains reasons; another joins at the tail. -/
def attendList (h : Handle) (r : Reasons) (l : List AttnEntry) : List AttnEntry :=
  if l.any (·.handle = h) then
    l.map fun x => if x.handle = h then { x with reasons := x.reasons.union r } else x
  else l ++ [⟨h, r⟩]

namespace State

/-- R191, R192: the record of slot `i` gains reasons on the attention list; joining starts or
restarts a pulse in pulse mode. -/
def attend (s : State) (i : SlotIx) (r : Reasons) : State :=
  let h := s.handleOf i
  { s with store :=
    { s.store with
      attention := attendList h r s.store.attention
      pulse := if s.straps.pulse && !s.store.attention.any (·.handle = h) then some s.now
        else s.store.pulse } }

/-- R69: a record is removed from the attention list wherever it stands. -/
def unattend (s : State) (i : SlotIx) : State :=
  { s with store :=
    { s.store with attention := s.store.attention.filter (·.handle ≠ s.handleOf i) } }

/-! ### Record transitions -/

/-- R76, R77: the bound record leaves RUNNING: the seat-lost mark is cleared and a running re-arm
timer stops without a report. -/
def clearRun (s : State) (b : Option BayIx) : State :=
  match b with
  | some b => s.setBay b { s.bay b with seatLost := false, rearm := none }
  | none => s

/-- R24, R76, R77: the bay bound to a record that may leave RUNNING: as `clearRun`. -/
def clearBound (s : State) (h : Handle) : State :=
  (s.boundBays h).foldl (fun t b => t.clearRun (some b)) s

/-- R85: a QUEUED record leaves the start queue, goes HELD with the reason given and joins the
attention list with reason HELD. -/
def holdQueued (s : State) (i : SlotIx) (r : ShelfRecord) (why : HoldReason) : State :=
  ((s.writeRecord i { r with state := .held, hold := some why }).leaveQueue i).attend i
    Reasons.onlyHeld

/-- R69, R76, R81: the binding of a bay becomes FREE and its seat-lost mark clears. -/
def freeBay (s : State) (b : BayIx) : State :=
  s.setBay b { s.bay b with binding := none, seatLost := false, rearm := none }

/-- R69: every bay whose binding names a record is freed; R73 lets one bay at most do so. -/
def freeBound (s : State) (h : Handle) : State := (s.boundBays h).foldl freeBay s

/-! ### Answers (R188, R189) -/

/-- R188, R189: an answer with a tag becomes the unread answer of a link and the pending request
becomes absent. The console's delivery begins at once, so a set OVERRUN flag moves into the
answer. -/
def formAnswer (s : State) (l : Link) (tag : Byte) (c : Code) (body : List Byte) : State :=
  match l with
  | .executive =>
    { s with execLink :=
      { s.execLink with request := none, unread := some ⟨tag, c, false, body, s.now⟩ } }
  | .console =>
    { s with consoleLink :=
      { request := none, unread := some ⟨tag, c, s.consoleLink.overrun, body, s.now⟩,
        overrun := false } }

/-- The answer to the pending request of a link carries the request's tag (R188). -/
def answer (s : State) (l : Link) (c : Code) (body : List Byte) : State :=
  match (s.link l).request with
  | some q => s.formAnswer l q.tag c body
  | none => s

/-- R49: a refused answer carries the outcome code and no body. -/
def refuse (s : State) (l : Link) (c : Code) : State := s.answer l c []

/-- R188: the owner serves the pending request of a link when it is the request named and does not
already wait. A command whose request is not there changes nothing (log 4). While reset is held
nothing is served (R194). -/
def serve (s : State) (l : Link) (code : ReqCode) (f : Request → State → State) : State :=
  if s.held then s
  else match (s.link l).request with
    | some q => if q.code = code ∧ q.waiting = none then f q s else s
    | none => s

/-- R194: an event has no effect while a power-on or pin reset is held. -/
def live (s : State) (f : State → State) : State := if s.held then s else f s

/-- The time base passes to tick `t`, or stays when `t` is not ahead. A turn of the load link lasts
from one tick to the next (R158), so none is left over. A command that a timer raises happens at the
tick at which the timer reaches its limit (log 5). -/
def passTo (s : State) (t : Nat) : State :=
  if s.now < t then { s with now := t, arb := { s.arb with turn := none } } else s

/-! ### LOOKUP answers (R52, R54) -/

/-- R52, R203: the body of a LOOKUP answer for the record of slot `i`. -/
def lookupBody (s : State) (i : SlotIx) (r : ShelfRecord) (x : Option Extract) : List Byte :=
  (s.handleOf i).bytes ++ [flagByte (r.state = .doubtful)] ++ r.bytes ++ [r.code]
    ++ optBytes Extract.bytes x

/-- A LOOKUP of the record of slot `i` waits on a link. -/
def lookupWaits (s : State) (l : Link) (i : SlotIx) : Bool :=
  ((s.link l).request.bind (·.waiting)).map (·.handle) = some (s.handleOf i)

/-- R54: the LOOKUP waiting on a link for the record of slot `i`, if any, is answered from the record
as it stands with extract flag 0. -/
def completeLookup (s : State) (l : Link) (i : SlotIx) : State :=
  match s.record i with
  | some r => if s.lookupWaits l i then s.answer l .ok (s.lookupBody i r none) else s
  | none => s

/-- R54, R55: each LOOKUP that waits for the record completes on its own. -/
def completeLookups (s : State) (i : SlotIx) : State :=
  (s.completeLookup .executive i).completeLookup .console i

end State

end Sys2Proof.Machine
end

