-- ==== Sys2Proof/Machine/FeedOps.lean ====
section
/-! DEFINITION. The feed supervisor's reservation set and wait list (chapter 10). -/

namespace Sys2Proof.Machine

namespace Feed

/-- R175, R177: the reservation of an engine leaves the set and its amount the total; an engine that
holds none changes nothing. -/
def drop (f : Feed) (e : EngineIx) : Feed :=
  { f with
    reservations := f.reservations.filter (·.engine ≠ e)
    total := f.total - ((f.reservations.filter (·.engine = e)).map (·.amount)).sum }

/-- R176: a submission joins the wait list at the place its order gives. -/
def join (f : Feed) (e : EngineIx) (amount priority : Nat) (bay : BayIx) : Feed :=
  { f with
    waits := insertRanked FeedWait.before ⟨e, amount, priority, bay, f.nextJoin⟩ f.waits
    nextJoin := f.nextJoin + 1 }

/-- R176: the submission of an engine leaves the wait list. -/
def withdraw (f : Feed) (e : EngineIx) : Feed :=
  { f with waits := f.waits.filter (·.engine ≠ e) }

/-- R176: a submission fits: the state is NORMAL and the total with it is at most B − G. -/
def fits (f : Feed) (w : FeedWait) : Bool :=
  f.window = .normal && f.total + w.amount ≤ f.budget - f.guard

/-- R175, R176: the reservation of an admitted submission joins the set with the next admission
number and its stop-sent mark clear. -/
def admitted (f : Feed) (w : FeedWait) : Feed :=
  { f with
    waits := f.waits.filter (·.engine ≠ w.engine)
    reservations := f.reservations ++ [⟨w.engine, w.amount, w.priority, f.nextNumber, false⟩]
    total := f.total + w.amount
    nextNumber := f.nextNumber + 1 }

/-- R180: a reservation is a candidate for shedding. -/
def candidate (r : Reservation) : Bool := 0 < r.amount && !r.stopSent

/-- R180: of two candidates, the one shed: lower priority (larger number), then later admission. -/
def laterVictim (a b : Reservation) : Reservation :=
  if a.priority < b.priority || (a.priority = b.priority && a.number < b.number) then b else a

/-- R180: the victim among the reservations held. -/
def victim (f : Feed) : Option Reservation :=
  match f.reservations.filter candidate with
  | [] => none
  | r :: rs => some (rs.foldl laterVictim r)

/-- R175: the stop-sent mark of an engine's reservation is set. -/
def markSent (f : Feed) (e : EngineIx) : Feed :=
  { f with reservations := f.reservations.map fun r =>
      if r.engine = e then { r with stopSent := true } else r }

/-- R176, R180: a priority change moves a waiting submission, keeping its time of joining, and
updates a reservation held. -/
def reprioritise (f : Feed) (e : EngineIx) (p : Nat) : Feed :=
  { f with
    waits := match f.waits.find? (·.engine = e) with
      | some w => insertRanked FeedWait.before { w with priority := p }
          (f.waits.filter (·.engine ≠ e))
      | none => f.waits
    reservations := f.reservations.map fun r =>
      if r.engine = e then { r with priority := p } else r }

end Feed

namespace State

/-- R177: an engine's reservation is released; the supervisor's test of its list is the caller's
(`feedRetest`). -/
def feedRelease (s : State) (e : EngineIx) : State :=
  (s.setFeed (s.feed.drop e)).modEngine e fun en => { en with reservation := .none }

/-- R118, R176: an engine's waiting submission is withdrawn. -/
def feedWithdraw (s : State) (e : EngineIx) : State :=
  (s.setFeed (s.feed.withdraw e)).modEngine e fun en => { en with reservation := .none }

end State

end Sys2Proof.Machine
end

