-- ==== Sys2Proof/Machine/BankOps.lean ====
section
/-! DEFINITION. The bank arbiter's roster, wait list and service, and the exchange queue of the load link (chapter 9). -/

namespace Sys2Proof.Machine

namespace State

/-! ### Asking for exchanges (R159, R168, R169) -/

/-- R159: a request joins the exchange queue behind every request asked before it. -/
def ask (s : State) (a : Asked) : State :=
  { s with arb := { s.arb with asked := s.arb.asked ++ [a] } }

/-- R168: a SET is asked; the commanded level becomes the level asked at once. -/
def askSet (s : State) (b : BankIx) (level : Nat) (load : Bool) : State :=
  (s.modBank b fun k => { k with level := level }).ask ⟨b, .set level, load⟩

/-- R169: a RELEASE is asked for a bank by the engine that holds it; the bank goes RELEASING and
keeps its connected bay, holding engine and commanded level. -/
def askRelease (s : State) (b : BankIx) : State :=
  (s.modBank b fun k => { k with state := .releasing }).ask ⟨b, .release, false⟩

/-- R165, R172: a RELEASE is asked for a bank by the arbiter on its own account; the holding engine
becomes absent. -/
def askOwnRelease (s : State) (b : BankIx) : State :=
  (s.modBank b fun k => { k with state := .releasing, engine := none }).ask ⟨b, .release, false⟩

/-- R160, R165: every request queued for a bank is removed. -/
def dropAsked (s : State) (b : BankIx) : State :=
  { s with arb := { s.arb with asked := s.arb.asked.filter (·.bank ≠ b) } }

def setService (s : State) (v : Option Service) : State :=
  { s with arb := { s.arb with service := v } }

def setBankWaits (s : State) (w : List BankWait) : State :=
  { s with arb := { s.arb with waits := w } }

/-! ### Choosing banks (R163) -/

/-- R163: descending capability, ties to the lower address, by insertion of ascending addresses. -/
def insertBank (s : State) (b : BankIx) : List BankIx → List BankIx
  | [] => [b]
  | c :: cs => if (s.bank c).cap < (s.bank b).cap then b :: c :: cs else c :: insertBank s b cs

/-- R163: the IDLE banks of capability above 0 in the order of choice. -/
def idleBanks (s : State) : List BankIx :=
  (s.addresses.filter fun b => (s.bank b).state = .idle && 0 < (s.bank b).cap).foldl
    (fun l b => insertBank s b l) []

/-- R163: banks are added until their capabilities sum to at least the need. -/
def chooseBanks (s : State) (need : Nat) : Nat → List BankIx → Option (List BankIx)
  | acc, l =>
    if need ≤ acc then some []
    else match l with
      | [] => none
      | b :: bs => (chooseBanks s need (acc + (s.bank b).cap) bs).map (b :: ·)

/-- R163: the head of the wait list is tested when no request is in service. When the IDLE banks
reach its need it leaves the list and is in service: its banks go CONNECTING, CONNECT is asked for
the first, and the engine's request is connecting. -/
def bankTest (s : State) : State :=
  match s.arb.service, s.arb.waits with
  | none, w :: rest =>
    match s.chooseBanks w.need 0 s.idleBanks with
    | some (b :: bs) =>
      let s1 := (s.setBankWaits rest).setService
        (some ⟨w.engine, w.need, w.bay, w.joined, b :: bs, .active⟩)
      let s2 := (b :: bs).foldl (fun t c => t.modBank c fun k => { k with state := .connecting }) s1
      (s2.ask ⟨b, .connect w.bay, false⟩).modEngine w.engine fun en =>
        { en with bankReq := .connecting }
    | _ => s
  | _, _ => s

/-- R162: a request joins the bank wait list at the place its order gives. -/
def joinBankWaits (s : State) (w : BankWait) : State :=
  s.setBankWaits (insertRanked BankWait.before w s.arb.waits)

/-- R166: an engine's waiting request leaves the list at once. -/
def bankWithdraw (s : State) (e : EngineIx) : State :=
  s.setBankWaits (s.arb.waits.filter (·.engine ≠ e))

/-- R162: a priority change moves a waiting request, keeping its time of joining. -/
def bankReprioritise (s : State) (e : EngineIx) (p : Nat) : State :=
  match s.arb.waits.find? (·.engine = e) with
  | some w =>
    s.setBankWaits (insertRanked BankWait.before { w with priority := p }
      (s.arb.waits.filter (·.engine ≠ e)))
  | none => s

/-! ### Ending a service (R165, R166) -/

/-- R165: a chosen bank's CONNECT is open. -/
def connectOpen (s : State) (b : BankIx) : Bool :=
  (s.bank b).state = .connecting && (s.exchange b).isSome

/-- R165, first three items, for one chosen bank: a CONNECT not yet sent is dropped and the bank
returns to IDLE; an open CONNECT stays open; a CONNECTED bank goes RELEASING. -/
def unchoose (s : State) (b : BankIx) : State :=
  match (s.bank b).state with
  | .connecting =>
    if (s.exchange b).isSome then s
    else (s.modBank b fun k => { k with state := .idle }).dropAsked b
  | .connected => s.askOwnRelease b
  | _ => s

/-- R165, R166: the service in progress ends as `status` says. It stands until no CONNECT of it
remains open. The RELEASEs of its CONNECTED banks are asked in grant order (log 39, DESIGN CHOICE). -/
def endService (s : State) (v : Service) (status : ServiceStatus) : State :=
  let s1 := v.chosen.foldl unchoose s
  s1.setService (if v.chosen.any s1.connectOpen then some { v with status := status } else none)

/-- R165: the request of a failed service returns to the wait list with its original time of joining
and the priority the engine now holds; the engine's request is waiting again. -/
def returnRequest (s : State) (v : Service) : State :=
  let p := (((s.engine v.engine).copy).map (·.priority)).getD 0
  (s.joinBankWaits ⟨v.engine, v.need, p, v.bay, v.joined⟩).modEngine v.engine fun en =>
    { en with bankReq := .waiting }

end State

end Sys2Proof.Machine
end

