-- ==== Sys2Proof/Machine/EngineOps.lean ====
section
/-! DEFINITION. What an engine does on admission, grant, detection, verdict, stop cause, unload and close (chapters 6, 7 and 8). -/

namespace Sys2Proof.Machine

/-! ### Step arithmetic (R110, R126, R127) -/

/-- A quotient rounded up. -/
def ceilDiv (a b : Nat) : Nat := (a + b - 1) / b

/-- R126: the step level of a HOLD or TRIP step. -/
def stepLevelOf (iMod mPresent levelPpt : Nat) : Nat :=
  min (iMod * mPresent * levelPpt / 1000) Config.maxLevel

/-- R127, R148: the step power, W. -/
def stepPower (level vNom : Nat) : Nat := level * vNom / 1000

/-- R110, R148: the reservation, 10 W, rounded up. -/
def reservationOf (power effPpt : Nat) : Nat := ceilDiv (power * 100) effPpt

/-- R99: the collapse threshold of the step. -/
def StepParams.vCollapse : StepParams → Nat
  | .hold p => p.vCollapse
  | .trip p _ => p.vCollapse
  | .derate p => p.vCollapse

/-- R135: the good threshold of a RESTART step. -/
def RestartParams.goodLevel (r : RestartParams) : Nat := r.vGood * r.vNom / 1000

namespace Engine

/-- R118, R113: detection is disarmed, the step timers stop and a collection is abandoned. A
detection made stays recorded. -/
def quiet (en : Engine) : Engine :=
  { en with
    detection := match en.detection with
      | .made c t => .made c t
      | _ => .disarmed
    tripFrom := none
    holdFrom := none
    settleFrom := none
    latchFrom := none
    restartFrom := none
    awaitRearm := false
    evalAsked := false
    collection := none }

/-- R121: the outcome formed in CLOSE and the late-abort mark. -/
def outcome (en : Engine) : Option (Verdict × Bool) :=
  match en.verdict, en.stop with
  | some v, none => some (v, false)
  | some v, some _ => some (v, v.outcome = .pass)
  | none, some c => some (⟨c.outcome, none, none⟩, false)
  | none, none => none

/-- R114, R115: every SET 0 sent or to be sent for this step has been answered. -/
def zerosDone (en : Engine) : Bool := en.grant.all fun g => g.zeros = 0 && !g.rezero

/-- R112: every bank of the grant has sent its LEVEL reply. -/
def loadsDone (en : Engine) : Bool := en.grant.all fun g => !g.load

/-- R119: the grant is complete at the tick `now` and no SET of it has been sent: a stop cause of this
tick reaches the engine together with the completion (log 17). -/
def justGranted (en : Engine) (now : Nat) : Bool :=
  en.phase = .load && en.granted = some now && !en.setSent

/-- R118: the entry of a bank in the grant is changed. -/
def modGrant (en : Engine) (b : BankIx) (f : GrantBank → GrantBank) : Engine :=
  { en with grant := en.grant.map fun g => if g.bank = b then f g else g }

/-- R160, R169: a bank leaves the grant. -/
def dropBank (en : Engine) (b : BankIx) : Engine :=
  { en with grant := en.grant.filter (·.bank ≠ b) }

end Engine

namespace State

/-! ### Close and unload (R115, R116) -/

/-- R116: the engine forms its outcome, sends the close to the store and becomes FREE. -/
def engineClose (s : State) (e : EngineIx) : State :=
  let en := s.engine e
  let s1 := s.setEngine e Engine.free
  match en.copy, en.outcome with
  | some c, some (v, late) =>
    s1.send e (.close c.handle c.index c.kind v.outcome v.value v.cause c.attempt late)
  | _, _ => s1

/-- R118, R119: an engine in ACQUIRE with no request standing releases its reservation and goes to
CLOSE. -/
def acquireExit (s : State) (e : EngineIx) : State := (s.feedRelease e).engineClose e

/-- R115: the second and third stages of UNLOAD. When every SET 0 has been answered the reservation
is released and RELEASE is asked for every bank still held, in grant order (log 39, DESIGN CHOICE); when
the grant is empty the engine goes to CLOSE. -/
def unloadAdvance (s : State) (e : EngineIx) : State :=
  let en := s.engine e
  if en.phase ≠ .unload then s
  else if en.releasing then if en.grant = [] then s.engineClose e else s
  else if en.zerosDone then
    let s1 := s.feedRelease e
    if en.grant = [] then s1.engineClose e
    else
      (en.grant.foldl (fun t g => t.askRelease g.bank) s1).modEngine e fun en =>
        { en with releasing := true }
  else s

/-- R115: UNLOAD is entered: the watch closes, the timers stop, and SET 0 is asked for every held
bank whose commanded level is not 0, in grant order (log 39, DESIGN CHOICE). -/
def enterUnload (s : State) (e : EngineIx) : State :=
  let en := s.engine e
  let loaded := fun g : GrantBank => (s.bank g.bank).level ≠ 0
  let s1 := (en.grant.filter fun g => loaded g).foldl (fun t g => t.askSet g.bank 0 false) s
  let s2 := s1.modEngine e fun en =>
    { en.quiet with
      phase := .unload
      watch := false
      releasing := false
      grant := en.grant.map fun g =>
        { g with rezero := false, zeros := if loaded g then g.zeros + 1 else g.zeros } }
  s2.unloadAdvance e

/-! ### Stop causes (R117, R118) -/

/-- R119: the SETs that a grant complete at this tick has asked, none of them sent, are taken back: the
grant is held with every level 0. -/
def recallSets (s : State) (e : EngineIx) : State :=
  ((s.engine e).grant.foldl
    (fun t g => (t.modBank g.bank fun k => { k with level := 0 }).dropAsked g.bank) s).modEngine e
    fun en => { en with grant := en.grant.map fun g => { g with load := false, zeros := 0 } }

/-- R166: the withdrawal of an engine's request in service is reported complete: the engine releases
its reservation and goes to CLOSE, and the list is tested, ahead of the supervisor's test of its own
list (`feedRetest`, log 19). -/
def withdrawComplete (s : State) (e : EngineIx) : State := (s.acquireExit e).bankTest

/-- R166: an engine withdraws its request in service. A withdrawal that finds no request is reported
complete at once. -/
def withdraw (s : State) (e : EngineIx) : State :=
  match s.arb.service with
  | some v =>
    if v.engine = e ∧ v.status = .active then
      let s1 := s.endService v .withdrawn
      if s1.arb.service = none then s1.withdrawComplete e else s1
    else s.acquireExit e
  | none => s.acquireExit e

/-- R117, R118: an interruption reaches an engine. The engine takes it when it holds neither a stop
cause nor a verdict, keeps ABORTED beside a verdict, and drops it otherwise. A stop cause taken
before any verdict ends the step by its phase; one that comes together with the completion of the grant
finds no SET sent (R119). -/
def takeStop (s : State) (e : EngineIx) (c : StopCause) : State :=
  let en := s.engine e
  match en.phase with
  | .free => s
  | .close => s
  | ph =>
    match en.stop, en.verdict with
    | some _, _ => s
    | none, some _ =>
      if c = .aborted then s.modEngine e fun en => { en with stop := some c } else s
    | none, none =>
      let s1 := s.modEngine e fun en => { en.quiet with stop := some c }
      match ph with
      | .reserve => (s1.feedWithdraw e).engineClose e
      | .acquire =>
        match en.bankReq with
        | .connecting => s1.withdraw e
        | .waiting => (s1.bankWithdraw e).acquireExit e
        | _ => s1.acquireExit e
      | .load => (if en.justGranted s.now then s1.recallSets e else s1).enterUnload e
      | .watch => s1.enterUnload e
      | _ => s1

/-! ### Verdicts, detection and the passage (R99, R113, R114) -/

/-- R113: the engine stores a verdict and enters UNLOAD. -/
def reachVerdict (s : State) (e : EngineIx) (v : Verdict) : State :=
  (s.modEngine e fun en => { en with verdict := some v }).enterUnload e

/-- R114: the reservation is released once every SET 0 of the passage has been answered. -/
def passageAdvance (s : State) (e : EngineIx) : State :=
  let en := s.engine e
  if en.phase = .watch ∧ (en.copy.map (·.kind)) = some .restart ∧ en.zerosDone then
    match en.reservation with
    | .held _ => s.feedRelease e
    | _ => s
  else s

/-- R114, R134, R135 to R137: the passage from a TRIP step that passed into its RESTART step: the
passage write is sent, SET 0 is asked for every bank of the grant, in grant order (log 39, DESIGN CHOICE;
for a bank whose SET is not yet answered, when its reply arrives), and the restart observation begins. -/
def passage (s : State) (e : EngineIx) (c : WorkingCopy) (r : RestartParams) (t : Nat)
    (cause : DetectCause) : State :=
  let en := s.engine e
  let s1 := s.send e (.passage c.handle c.index t cause c.attempt)
  let s2 := (en.grant.filter fun g => !g.load).foldl (fun t g => t.askSet g.bank 0 false) s1
  let s3 := s2.modEngine e fun en =>
    { en.quiet with
      phase := .watch
      copy := some { c with index := c.index + 1, kind := .restart }
      verdict := none
      takeTick := s.now
      grant := en.grant.map fun g =>
        if g.load then { g with rezero := true } else { g with zeros := g.zeros + 1 }
      goodLevel := r.goodLevel
      lowSeen := cause = .collapse
      restartFrom := if r.mode = .hiccup then some s.now else none
      latchFrom := if r.mode = .latch then some s.now else none }
  s3.passageAdvance e

/-- R99, R128, R131, R132, R149: a trip detection at an engine. With detection armed, it ends a HOLD
step with HOLD_TRIPPED and a DERATE step with DERATE_TRIPPED; in a TRIP step the elapsed time decides,
and a detection past the window is not taken. -/
def detect (s : State) (e : EngineIx) (cause : DetectCause) (tick : Nat) : State :=
  let en := s.engine e
  match en.detection, en.copy with
  | .armed, some c =>
    let s1 := s.modEngine e fun en => { en with detection := .made cause tick }
    match c.params with
    | .hold _ => s1.reachVerdict e ⟨.holdTripped, none, some cause⟩
    | .derate _ => s1.reachVerdict e ⟨.derateTripped, none, some cause⟩
    | .trip p r =>
      match en.tripFrom with
      | none => s
      | some z =>
        if p.tMax < tick - z then s
        else if tick - z < p.tMin then s1.reachVerdict e ⟨.tripEarly, some (tick - z), some cause⟩
        else s1.passage e c r (tick - z) cause
  | _, _ => s

/-- R112, R128, R131, R149: the first SET of the load step is sent, or the grant is empty: detection
is armed, a TRIP step starts its window, and the indicator level is read. -/
def arm (s : State) (e : EngineIx) : State :=
  match (s.engine e).copy with
  | none => s
  | some c =>
    let s1 := s.modEngine e fun en =>
      { en with
        setSent := true
        detection := .armed
        tripFrom := if c.kind = .trip then some s.now else none }
    if (s.bay c.bay).indicator then s1.detect e .indicator s.now else s1

/-- R112, R129, R133, R149: every LEVEL reply is in: the engine enters WATCH, a HOLD step starts its
duration timer and a DERATE step its settle timer. -/
def enterWatch (s : State) (e : EngineIx) : State :=
  s.modEngine e fun en =>
    { en with
      phase := .watch
      holdFrom := if (en.copy.map (·.kind)) = some .hold then some s.now else en.holdFrom
      settleFrom := if (en.copy.map (·.kind)) = some .derate then some s.now else en.settleFrom }

/-! ### Grants and loading (R111, R112) -/

/-- R167: the shares of a grant: need × c / C truncated, the remainder one count each to the first
banks in grant order. -/
def sharesOf (need : Nat) (caps : List Nat) : List Nat :=
  let total := caps.sum
  let base := caps.map fun c => need * c / total
  let r := need - base.sum
  base.zipIdx.map fun p => if p.2 < r then p.1 + 1 else p.1

/-- R98, R112: LOAD is entered with a grant: the watch opens and a bay that is STALE or NONE gives a
bay-stale event at once; otherwise one SET is asked for each bank in grant order. An empty grant
counts as the sending of the first SET and as the last LEVEL reply (R111). With an empty grant the
bay-stale event and a detection at arming (R128, R149: the indicator is active) come together, and R100
allows either order; the model takes the bay-stale event first, so that SENSE_LOST ends the step and
detection is never armed (log 38, DESIGN CHOICE). -/
def enterLoad (s : State) (e : EngineIx) (grant : List GrantBank) : State :=
  match (s.engine e).copy with
  | none => s
  | some c =>
    let s1 := s.modEngine e fun en =>
      { en with
        phase := .load
        watch := true
        bankReq := if grant = [] then .notMade else .granted
        grant := grant
        granted := some s.now }
    if (s.sense c.bay).sense ≠ .fresh then s1.takeStop e .senseLost
    else if grant = [] then
      let s2 := s1.arm e
      if (s2.engine e).phase = .load then s2.enterWatch e else s2
    else
      (grant.foldl (fun t g => t.askSet g.bank g.share true) s1).modEngine e fun en =>
        { en with grant := en.grant.map fun g =>
            { g with load := true, zeros := if g.share = 0 then 1 else 0 } }

/-- R162: a bank request reaches the arbiter: a need above the total online capability is answered
NO_CAPACITY, another joins the wait list, and the list is tested. -/
def bankRequest (s : State) (e : EngineIx) (c : WorkingCopy) (need : Nat) : State :=
  if s.totalOnline < need then s.takeStop e .noCapacity
  else
    let s1 := s.joinBankWaits ⟨e, need, c.priority, c.bay, s.arb.nextJoin⟩
    let s2 := s1.setArb { s1.arb with nextJoin := s1.arb.nextJoin + 1 }
    (s2.modEngine e fun en => { en with bankReq := .waiting }).bankTest

/-- R111: an engine in ACQUIRE asks for banks by its step level; a step level of 0 needs none and goes to
LOAD. -/
def askBanks (s : State) (e : EngineIx) : State :=
  match (s.engine e).copy with
  | none => s
  | some c =>
    if (s.engine e).stepLevel = 0 then s.enterLoad e []
    else s.bankRequest e c (s.engine e).stepLevel

/-! ### Admission (R176) -/

/-- R176: the head of the feed wait list is admitted and its engine enters ACQUIRE. Its bank request is
the engine's own next step (`askBanks`): a stop cause together with the admission is taken in ACQUIRE
before a request is made (R119; log 37, DEDUCED). -/
def admitHead (s : State) (w : FeedWait) : State :=
  (s.setFeed (s.feed.admitted w)).modEngine w.engine fun en =>
    { en with reservation := .held w.amount, phase := .acquire }

/-- R176: the test of the feed wait list, at most `n` admissions. -/
def feedTestUpTo : Nat → State → State
  | 0, s => s
  | n + 1, s =>
    match s.feed.waits with
    | [] => s
    | w :: _ => if s.feed.fits w then feedTestUpTo n (s.admitHead w) else s

/-- R176: the supervisor tests its wait list: it admits heads until one does not fit or the list is
empty. Each admission takes one submission out, so the list's length bounds them. -/
def feedTest (s : State) : State := feedTestUpTo s.feed.waits.length s

/-- R176, R177: the list is tested when a reservation was released or a submission left it since
`before`. -/
def feedRetest (before s : State) : State :=
  if s.feed.reservations = before.feed.reservations ∧ s.feed.waits = before.feed.waits then s
  else s.feedTest

/-- R117, R176: a stop cause reaches an engine, and the supervisor tests its list when that released
a reservation or withdrew a submission. -/
def stopEngine (s : State) (e : EngineIx) (c : StopCause) : State := feedRetest s (s.takeStop e c)

/-- R110, R176: a submission joins the feed wait list. -/
def joinFeedWaits (s : State) (e : EngineIx) (c : WorkingCopy) (amount : Nat) : State :=
  (s.setFeed (s.feed.join e amount c.priority c.bay)).modEngine e fun en =>
    { en with reservation := .waiting amount }

/-- R110, R176: a reservation is submitted and the list is tested. -/
def submit (s : State) (e : EngineIx) (c : WorkingCopy) (amount : Nat) : State :=
  (s.joinFeedWaits e c amount).feedTest

end State

end Sys2Proof.Machine
end

