-- ==== Sys2Proof/Machine/OwnWork.lean ====
section
/-! DEFINITION. The work that the engines do by themselves with the feed supervisor and the bank arbiter, and when it is done (R110, R111, R162, R176; log 37). -/

namespace Sys2Proof.Machine

/-- R127: the nominal voltage and the efficiency from which a HOLD or TRIP step's reservation is computed.
A DERATE step's comes from the evaluator (R148). -/
def StepParams.loadTerms : StepParams → Option (Nat × Nat)
  | .hold p => some (p.vNom, p.effPpt)
  | .trip p _ => some (p.vNom, p.effPpt)
  | .derate _ => none

/-- R110: what an engine in RESERVE that has prepared its load and has not yet submitted submits: its copy
and the reservation of its step level. -/
def Engine.submission (en : Engine) : Option (WorkingCopy × Nat) :=
  match en.phase, en.reservation, en.copy with
  | .reserve, .none, some c =>
    c.params.loadTerms.map fun p => (c, reservationOf (stepPower en.stepLevel p.1) p.2)
  | _, _, _ => none

namespace State

/-- R110: the engine that submits its reservation next, the lowest-numbered of those that have not. -/
def submitter (s : State) : Option EngineIx :=
  (List.finRange 6).find? fun e => (s.engine e).submission.isSome

/-- R111, R162: an engine in ACQUIRE that has not yet asked for banks. -/
def asksBanks (s : State) (e : EngineIx) : Bool :=
  (s.engine e).phase = .acquire && (s.engine e).bankReq = .notMade && (s.engine e).copy.isSome

/-- R111: the engine that asks for banks next: of those that have not, the one admitted first. -/
def bankAsker (s : State) : Option EngineIx :=
  (s.feed.reservations.map (·.engine)).find? s.asksBanks

/-- What an engine does next by itself at the present tick, if anything: the bank request of the engine
admitted first, else a submission, which joins the feed wait list and is tested at once (R176). Each is a
step of its own, so that the pairs of R107 and R119 can come in both orders (log 37, DEDUCED). -/
def ownWork (s : State) : Option State :=
  match s.bankAsker with
  | some e => some (s.feedRetest (s.askBanks e))
  | none => s.submitter.bind fun e => (s.engine e).submission.map fun p => s.submit e p.1 p.2

/-- At most `n` pieces of own work. -/
def settleUpTo : Nat → State → State
  | 0, s => s
  | n + 1, s =>
    match s.ownWork with
    | some t => settleUpTo n t
    | none => s

/-- The own work that waits, all done. Each of the six engines submits once and asks once. -/
def settled (s : State) : State := settleUpTo 12 s

/-- The time base passes to tick `t`, or stays when `t` is not ahead. What waits to be done at the
present tick is done before the tick passes (log 37). -/
def atTick (s : State) (t : Nat) : State := if s.now < t then s.settled.passTo t else s

end State

end Sys2Proof.Machine
end

