-- ==== Sys2Proof/Machine/StoreOps.lean ====
section
/-! DEFINITION. Integrity faults of records and models, and the validation of handles (sections 1.3, 1.5, 2.5). -/

namespace Sys2Proof.Machine

namespace State

/-! ### Integrity (R17, R24, R36, R46) -/

/-- R24: the record is already DOUBTFUL: its state reads so and it is withdrawn, that is, out of the
start queue and with no engine that has neither a stop cause nor a verdict. The state field of a record
with a mismatch may itself be damaged; that one which reads DOUBTFUL and still stands in the queue, or has
such an engine, is not already DOUBTFUL is the model's choice (log 32, DESIGN CHOICE). -/
def alreadyDoubtful (s : State) (i : SlotIx) (r : ShelfRecord) : Bool :=
  r.state = .doubtful && i ∉ s.store.queue &&
    match s.holder (s.handleOf i) with
    | some e => (s.engine e).stop.isSome || (s.engine e).verdict.isSome
    | none => true

/-- R24: a mismatch found on the record of slot `i`. One already DOUBTFUL is not changed. Another goes
DOUBTFUL: it leaves the start queue; the engine that holds it receives DOUBT; the record joins the
attention list with reason DOUBT; and a waiting LOOKUP completes (R54). What it leaves is read from the
start queue, the engines and the bays' bindings, not from its fields, which are not trusted (log 32). -/
def doubtRecord (s : State) (i : SlotIx) : State :=
  match s.record i with
  | none => s
  | some r =>
    if s.alreadyDoubtful i r then s
    else
    let h := s.handleOf i
    let s1 := s.writeRecord i { r with state := .doubtful, hold := none, engaged := none }
    let s2 := (s1.leaveQueue i).clearBound h
    let s3 := s2.attend i Reasons.onlyDoubt
    let s4 := match s3.holder h with
      | some e => s3.stopEngine e .doubt
      | none => s3
    s4.completeLookups i

/-- R17, R23: the store reads the record of slot `i` and compares its integrity code. -/
def readRecord (s : State) (i : SlotIx) : State :=
  match s.record i with
  | some r => if r.intact then s else s.doubtRecord i
  | none => s

/-- R46: the record in slot `i` is QUEUED and names the model. -/
def queuedOn (s : State) (m : ModelIx) (i : SlotIx) : Bool :=
  match s.record i with
  | some r => r.model = s.modelHandleOf m && r.state = .queued
  | none => false

/-- R46: the in-use records whose model handle equals the model's handle are counted. -/
def namingCount (s : State) (m : ModelIx) : Nat :=
  ((List.finRange 32).filter fun i =>
    ((s.record i).map (·.model)) = some (s.modelHandleOf m)).length

/-- R46: a QUEUED record that names the model goes HELD with hold reason MODEL_DOUBT. -/
def holdForModel (m : ModelIx) (s : State) (i : SlotIx) : State :=
  match s.record i with
  | some r => if s.queuedOn m i then s.holdQueued i r .modelDoubt else s
  | none => s

/-- R46: the model is already DOUBTFUL: its state reads so and no QUEUED record names it. That one which
reads DOUBTFUL while a QUEUED record names it has a damaged state field, and is not already DOUBTFUL, is
the model's choice (log 32, DESIGN CHOICE). -/
def modelAlreadyDoubtful (s : State) (m : ModelIx) (x : Model) : Bool :=
  x.state = .doubtful && (List.finRange 32).all fun i => !s.queuedOn m i

/-- R46: a mismatch found on a descriptor. One already DOUBTFUL is not changed. Another goes DOUBTFUL: its
reference count is rebuilt and its QUEUED records are held, in ascending slot order (R191). -/
def doubtModel (s : State) (m : ModelIx) : State :=
  match s.model m with
  | none => s
  | some x =>
    if s.modelAlreadyDoubtful m x then s
    else (List.finRange 32).foldl (holdForModel m)
      (s.writeModel m { x with state := .doubtful, refCount := s.namingCount m })

/-- R36, R44: the model table reads the descriptor and compares its integrity code. -/
def readModel (s : State) (m : ModelIx) : State :=
  match s.model m with
  | some x => if x.intact then s else s.doubtModel m
  | none => s

end State

/-! ### Validation of handles (R16 to R19, R36) -/

/-- The result of a validation: what it resolved to, or the outcome of the first failing check. -/
inductive Check (α : Type) where
  | pass (a : α)
  | fail (c : Code)
  deriving DecidableEq, Repr

namespace State

/-- R16, R17: the seven checks of a shelf handle. `skip` leaves out check 6; `needed` is the tier
needed (R21). The integrity read is made at check 5 with an in-use slot, and stands whatever the
outcome. -/
def validate (s : State) (h : Handle) (skip : Bool) (tier : Nat) (needed : ShelfRecord → Nat) :
    State × Check (SlotIx × ShelfRecord) :=
  if h = Handle.null then (s, .fail .nullHandle)
  else if h.table ≠ .shelf then (s, .fail .wrongTable)
  else if s.straps.table ≤ h.index.val then (s, .fail .outOfRange)
  else match s.record h.index with
    | none => (s, .fail (if h.gen = (s.slot h.index).gen then .absent else .stale))
    | some _ =>
      let s1 := s.readRecord h.index
      if h.gen ≠ (s.slot h.index).gen then (s1, .fail .stale)
      else match s1.record h.index with
        | none => (s1, .fail .absent)
        | some r =>
          if !skip && r.state = .doubtful then (s1, .fail .doubtful)
          else if needed r < tier then (s1, .fail .guarded)
          else (s1, .pass (h.index, r))

/-- R21: any tier will do. -/
def anyTier : ShelfRecord → Nat := fun _ => 3

/-- R21: the record's guard level or less. -/
def guardTier : ShelfRecord → Nat := fun r => r.guardLevel

/-- R16 checks 1 to 5 of a model handle, without an integrity read; R19: the checks of a carried
model handle. -/
def resolveModel (s : State) (h : Handle) : Check ModelIx :=
  if h = Handle.null then .fail .nullHandle
  else if h.table ≠ .model then .fail .wrongTable
  else match h.modelIx with
    | none => .fail .outOfRange
    | some m =>
      if (s.model m).isNone ∧ h.gen = (s.modelSlot m).gen then .fail .absent
      else if h.gen ≠ (s.modelSlot m).gen then .fail .stale
      else .pass m

/-- R36: the checks of a model request's handle: R16 with designator 1, limit 16 and tier 0. The
integrity read is made at check 5 with an in-use slot. -/
def validateModel (s : State) (h : Handle) (skip : Bool) (tier : Nat) :
    State × Check (ModelIx × Model) :=
  if h = Handle.null then (s, .fail .nullHandle)
  else if h.table ≠ .model then (s, .fail .wrongTable)
  else match h.modelIx with
    | none => (s, .fail .outOfRange)
    | some m =>
      match s.model m with
      | none => (s, .fail (if h.gen = (s.modelSlot m).gen then .absent else .stale))
      | some _ =>
        let s1 := s.readModel m
        if h.gen ≠ (s.modelSlot m).gen then (s1, .fail .stale)
        else match s1.model m with
          | none => (s1, .fail .absent)
          | some x =>
            if !skip && x.state = .doubtful then (s1, .fail .doubtful)
            else if 0 < tier then (s1, .fail .guarded)
            else (s1, .pass (m, x))

/-- R19, R44, R50, R61: a carried model handle: checks 1 to 5, then the integrity read, then the
model must be ACTIVE. -/
def carriedModel (s : State) (h : Handle) : State × Check (ModelIx × Model) :=
  match s.resolveModel h with
  | .fail c => (s, .fail c)
  | .pass m =>
    let s1 := s.readModel m
    match s1.model m with
    | some x => if x.state = .active then (s1, .pass (m, x)) else (s1, .fail .modelNotActive)
    | none => (s1, .fail .modelNotActive)

/-- R65, R66, R44: the model state check of START and RESUME, with its integrity read: the record's
model is ACTIVE. -/
def modelActive (s : State) (r : ShelfRecord) : State × Bool :=
  match r.model.modelIx with
  | some m =>
    let s1 := s.readModel m
    (s1, ((s1.model m).map (·.state)) = some .active)
  | none => (s, false)

/-- R42: the reference count of the model a handle names changes by `f`, and the code is
recomputed. A damaged handle that names no in-use model changes no count (log 32). -/
def adjustRef (s : State) (h : Handle) (f : Nat → Nat) : State :=
  match h.modelIx with
  | some m =>
    match s.model m with
    | some x =>
      if h = s.modelHandleOf m then s.writeModel m { x with refCount := f x.refCount } else s
    | none => s
  | none => s

end State

end Sys2Proof.Machine
end

