-- ==== Sys2Proof/Machine/RecordRequests.lean ====
section
/-! DEFINITION. The record requests of chapter 3 but for AMEND: ADMIT, LOOKUP, PROBE, FIND, START, RESUME, ABORT, RELEASE and TAKE. -/

namespace Sys2Proof.Machine

/-- Every command of the SX-412 answers a next state. -/
abbrev Result := Host.Outcome State Fault Refusal

/-! ### ADMIT (R50, R51) -/

/-- R7: a module list in ascending slot order, by insertion. -/
def insertModule (m : ModuleEntry) : List ModuleEntry → List ModuleEntry
  | [] => [m]
  | x :: xs => if m.slot < x.slot then m :: x :: xs else x :: insertModule m xs

/-- R51: the entries given, sorted into ascending slot order. -/
def sortModules (l : List ModuleEntry) : List ModuleEntry :=
  l.foldl (fun acc m => insertModule m acc) []

/-- R50 check 5: two entries carry one slot. -/
def hasDuplicateSlot : List ModuleEntry → Bool
  | [] => false
  | m :: ms => ms.any (·.slot = m.slot) || hasDuplicateSlot ms

/-- R50 check 1. -/
def AdmitBody.inRange (b : AdmitBody) : Bool :=
  b.serial.all isSerialChar && b.modules.all ModuleEntry.inRange && b.priority ≤ 7
    && b.guardLevel ≤ 3

/-- R50 check 6: the serial is that of an in-use record. -/
def State.serialTaken (s : State) (serial : List Byte) : Bool :=
  (List.finRange 32).any fun i => ((s.record i).map (·.serial)) = some serial

/-- R1: the lowest-numbered FREE slot below the table limit. -/
def State.freeSlot (s : State) : Option SlotIx :=
  (List.finRange 32).find? fun i => i.val < s.straps.table && (s.record i).isNone

/-- R51: the record that ADMIT writes. -/
def AdmitBody.record (b : AdmitBody) (tier : Nat) : ShelfRecord :=
  { serial := b.serial, model := b.model, bay := none, state := .staged, hold := none,
    priority := b.priority, guardLevel := max b.guardLevel tier, note := 0,
    modules := sortModules b.modules, cursor := 0, results := [], retry := 0, engaged := none,
    code := 0x00#8 }

/-- R50, R51: ADMIT with a body that fits. -/
def admitWith (l : Link) (tier : Nat) (b : AdmitBody) (s : State) : State :=
  if !b.inRange then s.refuse l .badField
  else match s.carriedModel b.model with
    | (s1, .fail c) => s1.refuse l c
    | (s1, .pass (m, x)) =>
      if x.params.mRated.getD 0 < b.modules.length then s1.refuse l .badField
      else if hasDuplicateSlot b.modules then s1.refuse l .duplicate
      else if s1.serialTaken b.serial then s1.refuse l .duplicate
      else match s1.freeSlot with
        | none => s1.refuse l .tableFull
        | some i =>
          if 2 < tier then s1.refuse l .guarded
          else
            let s2 := s1.writeRecord i (b.record tier)
            let s3 := s2.writeModel m { x with refCount := x.refCount + 1 }
            s3.answer l .ok ((s3.handleOf i).bytes ++ [byteOf (max b.guardLevel tier)])

/-- ADMIT. -/
def execAdmit (l : Link) (s : State) : Result :=
  .next <| s.serve l .admitShelf fun q s =>
    match readAll readAdmitBody q.body with
    | none => s.refuse l .badField
    | some b => admitWith l q.tier b s

/-! ### LOOKUP (R52 to R55) -/

/-- R53: what an engine reports. The sample is absent when the bay is NONE, and the stale mark is set
when it is not FRESH (R95). -/
def State.extractOf (s : State) (e : EngineIx) (c : WorkingCopy) : Extract :=
  let en := s.engine e
  let k := s.sense c.bay
  { phase := en.phase, index := c.index, kind := c.kind, elapsed := s.now - en.takeTick,
    stale := k.sense ≠ .fresh, vOut := k.sample.map (·.vOut), iOut := k.sample.map (·.iOut),
    temp := k.sample.map (·.temp), stop := en.stop }

/-- R53: an extract request reaches the engine, which returns an extract while it holds the record
named and drops the request otherwise. Its work that waited comes first (log 37). -/
def State.requestExtract (s : State) (e : EngineIx) (h : Handle) (l : Link) : State :=
  match (s.engine e).copy with
  | some c => if s.holds e h then s.send e (.extract h l (s.extractOf e c)) else s
  | none => s

/-- R53: the LOOKUP of a link waits for the extract of an engine. -/
def State.waitLookup (s : State) (l : Link) (q : Request) (w : Waiting) : State :=
  s.setLink l { s.link l with request := some { q with waiting := some w } }

/-- LOOKUP. -/
def execLookup (l : Link) (s : State) : Result :=
  .next <| s.serve l .lookup fun q s =>
    match readAll readHandle q.body with
    | none => s.refuse l .badField
    | some h =>
      match s.validate h true q.tier State.anyTier with
      | (s1, .fail c) => s1.refuse l c
      | (s1, .pass (i, r)) =>
        match r.state, r.engaged with
        | .running, some e =>
          let s2 := s1.waitLookup l q ⟨e, s1.handleOf i⟩
          s2.settled.requestExtract e (s1.handleOf i) l
        | _, _ => s1.answer l .ok (s1.lookupBody i r none)

/-! ### PROBE and FIND (R56, R57) -/

/-- R10: the results entry with the highest step index is the last of the list. -/
def ShelfRecord.lastOutcome (r : ShelfRecord) : Option StepOutcome :=
  r.results.getLast?.map (·.outcome)

/-- R56, R203: the value of the field selected. -/
def Selector.value (r : ShelfRecord) : Selector → List Byte
  | .state => [byteOf r.state.code]
  | .bay => optBytes (fun b => [byteOf b.val]) r.bay
  | .cursor => [byteOf r.cursor]
  | .lastOutcome => optBytes (fun o => [byteOf o.code]) r.lastOutcome
  | .model => r.model.bytes
  | .priority => [byteOf r.priority]
  | .present => [byteOf r.mPresent]
  | .hold => optBytes (fun h => [byteOf h.code]) r.hold

/-- PROBE. R18: never refused on a handle. -/
def execProbe (l : Link) (s : State) : Result :=
  .next <| s.serve l .probe fun q s =>
    match readAll readProbeBody q.body with
    | none => s.refuse l .badField
    | some (h, sel) =>
      match s.validate h true q.tier State.anyTier with
      | (s1, .fail c) => s1.answer l .ok [flagByte false, byteOf c.code]
      | (s1, .pass (_, r)) => s1.answer l .ok (flagByte true :: sel.value r)

/-- R57: the two tests of a scan. -/
def FindBody.hits (f : FindBody) (r : ShelfRecord) : Bool :=
  maskedAll (fun a b => a = b) f.mask 0 f.pattern r.serial && f.filter.testBit r.state.code

/-- R57: the first in-use slot at or above the start index and below the table limit that passes both
tests. -/
def State.findSlot (s : State) (f : FindBody) : Option (SlotIx × ShelfRecord) :=
  (List.finRange 32).findSome? fun i =>
    if f.start ≤ i.val && i.val < s.straps.table then
      match s.record i with
      | some r => if f.hits r then some (i, r) else none
      | none => none
    else none

/-- FIND. -/
def execFind (l : Link) (s : State) : Result :=
  .next <| s.serve l .find fun q s =>
    match readAll readFindBody q.body with
    | none => s.refuse l .badField
    | some f =>
      match s.findSlot f with
      | some (i, r) =>
        s.answer l .ok (flagByte true :: ((s.handleOf i).bytes ++ [byteOf r.state.code]))
      | none => s.answer l .ok [flagByte false]

/-! ### START and RESUME (R65, R66) -/

/-- START's write, R65: QUEUED with cursor 0, an empty results list and retry count 0, in the start
queue at its place. -/
def State.startRecord (s : State) (i : SlotIx) (r : ShelfRecord) : State :=
  (s.writeRecord i { r with state := .queued, cursor := 0, results := [], retry := 0 }).joinQueue i

/-- START. -/
def execStart (l : Link) (s : State) : Result :=
  .next <| s.serve l .start fun q s =>
    match readAll readHandle q.body with
    | none => s.refuse l .badField
    | some h =>
      match s.validate h false q.tier State.guardTier with
      | (s1, .fail c) => s1.refuse l c
      | (s1, .pass (i, r)) =>
        if r.state ≠ .ready ∧ r.state ≠ .passed ∧ r.state ≠ .failed then s1.refuse l .wrongState
        else if r.state ≠ .ready ∧ s1.seatUp r = false then s1.refuse l .wrongState
        else
          let a := s1.modelActive r
          if a.2 = false then a.1.refuse l .modelNotActive
          else if r.mPresent = 0 then a.1.refuse l .badField
          else (a.1.startRecord i r).answer l .ok []

/-- RESUME's write, R66: QUEUED with retry count 0, the cursor moved back from a RESTART step. -/
def State.resumeRecord (s : State) (i : SlotIx) (r : ShelfRecord) : State :=
  (s.writeRecord i
    { r with state := .queued, hold := none, retry := 0, cursor := s.queuedCursor r }).joinQueue i

/-- RESUME. -/
def execResume (l : Link) (s : State) : Result :=
  .next <| s.serve l .resume fun q s =>
    match readAll readHandle q.body with
    | none => s.refuse l .badField
    | some h =>
      match s.validate h false q.tier State.guardTier with
      | (s1, .fail c) => s1.refuse l c
      | (s1, .pass (i, r)) =>
        if r.state ≠ .held then s1.refuse l .wrongState
        else if s1.seatUp r = false then s1.refuse l .wrongState
        else
          let a := s1.modelActive r
          if a.2 = false then a.1.refuse l .modelNotActive
          else if r.mPresent = 0 then a.1.refuse l .badField
          else (a.1.resumeRecord i r).answer l .ok []

/-! ### ABORT and RELEASE (R67, R69) -/

/-- R67: a stop cause that finds the engine no longer holding the record is dropped. -/
def State.stopHolder (s : State) (i : SlotIx) (r : ShelfRecord) (c : StopCause) : State :=
  match r.engaged with
  | some e => if s.holds e (s.handleOf i) then s.stopEngine e c else s
  | none => s

/-- ABORT. -/
def execAbort (l : Link) (s : State) : Result :=
  .next <| s.serve l .abort fun q s =>
    match readAll readHandle q.body with
    | none => s.refuse l .badField
    | some h =>
      match s.validate h false q.tier State.guardTier with
      | (s1, .fail c) => s1.refuse l c
      | (s1, .pass (i, r)) =>
        match r.state with
        | .queued => (s1.holdQueued i r .host).answer l .ok []
        | .running => (s1.stopHolder i r .aborted).answer l .ok []
        | _ => s1.refuse l .wrongState

/-- R69: the release of a record that is not RUNNING. The bay unbound is the one whose binding names
the record, since a DOUBTFUL record's bay field is not trusted (R24, log 32). -/
def State.releaseRecord (s : State) (i : SlotIx) (r : ShelfRecord) : State :=
  let s2 := (s.leaveQueue i).freeBound (s.handleOf i)
  let s3 := (s2.unattend i).adjustRef r.model fun n => n - 1
  s3.setSlot i ⟨State.nextGen (s.slot i).gen, none⟩

/-- RELEASE. -/
def execRelease (l : Link) (s : State) : Result :=
  .next <| s.serve l .release fun q s =>
    match readAll readHandle q.body with
    | none => s.refuse l .badField
    | some h =>
      match s.validate h true q.tier State.guardTier with
      | (s1, .fail c) => s1.refuse l c
      | (s1, .pass (i, r)) =>
        if r.state = .running then s1.refuse l .engaged
        else (s1.releaseRecord i r).answer l .ok h.bytes

/-! ### TAKE (R71) -/

/-- R71: the fields of the entry taken. -/
def State.takeBody (s : State) (x : AttnEntry) : List Byte :=
  match s.record x.handle.index with
  | some r =>
    flagByte true :: (x.handle.bytes ++ [byteOf r.state.code, x.reasons.byte, byteOf r.cursor])
  | none => [flagByte false]

/-- TAKE. -/
def execTake (l : Link) (s : State) : Result :=
  .next <| s.serve l .take fun q s =>
    if q.body ≠ [] then s.refuse l .badField
    else match s.store.attention with
      | [] => s.answer l .ok [flagByte false]
      | x :: xs =>
        let s1 := { s with store := { s.store with attention := xs } }
        s1.answer l .ok (s1.takeBody x)

end Sys2Proof.Machine
end

