-- ==== Sys2Proof/Machine/AmendRequests.lean ====
section
/-! DEFINITION. AMEND, one meaning for each item (R58 to R64). -/

namespace Sys2Proof.Machine

/-- R58, R203: an AMEND answered OK carries the item and the value as stored. -/
def State.amended (s : State) (l : Link) (item : AmendItem) (value : List Byte) : State :=
  s.answer l .ok (byteOf item.code :: value)

/-- R58: the AMEND of one item is served. The body check comes first; a body that names no item is
answered BAD_FIELD by whichever AMEND command serves it (log 11). Then all seven checks of R16 run
and `f` does the item's own part. -/
def State.serveAmend (s : State) (l : Link) (item : AmendItem)
    (f : Request → AmendValue → State → SlotIx → ShelfRecord → State) : State :=
  s.serve l .amend fun q s =>
    if amendItemOf q.body ≠ none ∧ amendItemOf q.body ≠ some item then s
    else match readAll readAmendBody q.body with
      | none => s.refuse l .badField
      | some (h, v) =>
        match s.validate h false q.tier State.guardTier with
        | (s1, .fail c) => s1.refuse l c
        | (s1, .pass (i, r)) => f q v s1 i r

/-- R58: the state group of the model handle, ADD_MODULE, DROP_MODULE and present flag items. -/
def amendStateCheck (r : ShelfRecord) : Option Code :=
  match r.state with
  | .running => some .engaged
  | .queued => some .wrongState
  | _ => none

/-! ### Priority (R59) -/

/-- R59: the start queue ranks a QUEUED record by its new priority. -/
def State.requeue (s : State) (i : SlotIx) (r : ShelfRecord) : State :=
  if r.state = .queued then s.joinQueue i else s

/-- R59, R109: the new priority reaches the engaged engine, the feed supervisor and the arbiter. The
supervisor tests its list when it has a new head (R176) and the arbiter when its list is reordered
(R163). -/
def State.passPriority (s : State) (e : EngineIx) (p : Nat) : State :=
  let s1 := s.modEngine e fun en =>
    { en with copy := en.copy.map fun c => { c with priority := p } }
  let s2 := s1.setFeed (s1.feed.reprioritise e p)
  let s3 := if (s2.feed.waits.head?.map (·.engine)) = (s.feed.waits.head?.map (·.engine)) then s2
    else s2.feedTest
  let s4 := s3.bankReprioritise e p
  if s4.arb.waits.map (·.engine) = s3.arb.waits.map (·.engine) then s4 else s4.bankTest

/-- R59: a priority change of a record that names an engine is passed on to it while it holds the record,
behind the engines' work that waited (R178; log 37). -/
def State.passToHolder (s : State) (i : SlotIx) (r : ShelfRecord) (p : Nat) : State :=
  match r.engaged with
  | some e =>
    if s.settled.holds e (s.handleOf i) then s.settled.passPriority e p else s.settled
  | none => s

/-- AMEND of the priority. -/
def execAmendPriority (l : Link) (s : State) : Result :=
  .next <| s.serveAmend l .priority fun _ v s i r =>
    match v with
    | .priority p =>
      if 7 < p then s.refuse l .badField
      else
        let s1 := s.writeRecord i { r with priority := p }
        ((s1.requeue i r).passToHolder i r p).amended l .priority [byteOf p]
    | _ => s

/-! ### Guard level and note (R60) -/

/-- AMEND of the guard level. R22: a level below the requester's tier is raised to it. -/
def execAmendGuardLevel (l : Link) (s : State) : Result :=
  .next <| s.serveAmend l .guardLevel fun q v s i r =>
    match v with
    | .guardLevel g =>
      if 3 < g then s.refuse l .badField
      else (s.writeRecord i { r with guardLevel := max g q.tier }).amended l .guardLevel
        [byteOf (max g q.tier)]
    | _ => s

/-- AMEND of the note. -/
def execAmendNote (l : Link) (s : State) : Result :=
  .next <| s.serveAmend l .note fun _ v s i r =>
    match v with
    | .note n => (s.writeRecord i { r with note := n }).amended l .note (be16 n)
    | _ => s

/-! ### Model handle (R61, R62) -/

/-- R62: the state of a PASSED or FAILED record after its model changes, from its bay and seat; any
other state is kept. -/
def State.stateAfterModel (s : State) (r : ShelfRecord) : RecState :=
  if r.state = .passed ∨ r.state = .failed then
    match r.bay with
    | none => .staged
    | some b => if (s.bay b).seated then .ready else .bound
  else r.state

/-- R61, R42: the model change. One reference moves from the old model to the new one, unless they are
the same. -/
def State.changeModel (s : State) (i : SlotIx) (r : ShelfRecord) (h : Handle) : State :=
  let s1 := s.writeRecord i
    { r with model := h, cursor := 0, results := [], state := s.stateAfterModel r }
  if h = r.model then s1 else (s1.adjustRef r.model fun n => n - 1).adjustRef h fun n => n + 1

/-- AMEND of the model handle. -/
def execAmendModelHandle (l : Link) (s : State) : Result :=
  .next <| s.serveAmend l .model fun _ v s i r =>
    match v with
    | .model h =>
      match amendStateCheck r with
      | some c => s.refuse l c
      | none =>
        match s.carriedModel h with
        | (s1, .fail c) => s1.refuse l c
        | (s1, .pass (_, x)) =>
          if x.params.mRated.getD 0 < r.modules.length then s1.refuse l .badField
          else (s1.changeModel i r h).amended l .model h.bytes
    | _ => s

/-! ### Module list (R63, R64) -/

/-- R7: m_rated of the record's model. -/
def State.mRatedOf (s : State) (r : ShelfRecord) : Nat :=
  ((s.modelOf r).bind fun m => m.params.mRated).getD 0

/-- ADD_MODULE. -/
def execAddModule (l : Link) (s : State) : Result :=
  .next <| s.serveAmend l .addModule fun _ v s i r =>
    match v with
    | .addModule m =>
      if !m.inRange then s.refuse l .badField
      else match amendStateCheck r with
        | some c => s.refuse l c
        | none =>
          if r.modules.any (·.slot = m.slot) then s.refuse l .duplicate
          else if s.mRatedOf r < r.modules.length + 1 then s.refuse l .badField
          else (s.writeRecord i { r with modules := insertModule m r.modules }).amended l .addModule
            m.bytes
    | _ => s

/-- DROP_MODULE. -/
def execDropModule (l : Link) (s : State) : Result :=
  .next <| s.serveAmend l .dropModule fun _ v s i r =>
    match v with
    | .dropModule k =>
      if k < 1 ∨ 6 < k then s.refuse l .badField
      else match amendStateCheck r with
        | some c => s.refuse l c
        | none =>
          if r.modules.any (·.slot = k) = false then s.refuse l .badField
          else if r.modules.length = 1 then s.refuse l .badField
          else (s.writeRecord i { r with modules := r.modules.filter (·.slot ≠ k) }).amended l
            .dropModule [byteOf k]
    | _ => s

/-- AMEND of a present flag (R64). A slot outside 1 to 6 is refused in the range group of R58, ahead of the
state group (log 34, DESIGN CHOICE). -/
def execAmendPresentFlag (l : Link) (s : State) : Result :=
  .next <| s.serveAmend l .present fun _ v s i r =>
    match v with
    | .present k p =>
      if k < 1 ∨ 6 < k then s.refuse l .badField
      else match amendStateCheck r with
        | some c => s.refuse l c
        | none =>
          if r.modules.any (·.slot = k) = false then s.refuse l .badField
          else
            (s.writeRecord i { r with modules := r.modules.map fun m =>
              if m.slot = k then { m with present := p } else m }).amended l .present
              [byteOf k, flagByte p]
    | _ => s

end Sys2Proof.Machine
end

