-- ==== Sys2Proof/Machine/BayRequests.lean ====
section
/-! DEFINITION. BIND with a record handle and with the null handle (R80, R81). -/

namespace Sys2Proof.Machine

/-- R203: the answer body of BIND: handle, bay and state of the record. -/
def State.bindBody (s : State) (i : SlotIx) (b : Option BayIx) (st : RecState) : List Byte :=
  (s.handleOf i).bytes ++ optBytes (fun x => [byteOf x.val]) b ++ [byteOf st.code]

/-- The bay that a bay byte names, when it is below the bay count (R80 check 3, R81 check 2). -/
def State.bayNamed (s : State) (n : Nat) : Option BayIx :=
  if lt : n < 24 then if n < s.straps.bays then some ⟨n, lt⟩ else none else none

/-- R80: the write of a BIND: the record's bay field and the bay's binding name each other, and the
state follows the debounced seat. -/
def State.bindRecord (s : State) (i : SlotIx) (r : ShelfRecord) (b : BayIx) : State :=
  (s.writeRecord i
    { r with bay := some b, state := if (s.bay b).seated then .ready else .bound }).setBay b
    { s.bay b with binding := some (s.handleOf i), seatLost := false }

/-- BIND with a handle that is not null. A body that does not fit is answered BAD_FIELD by BIND and
UNBIND alike (log 11). -/
def execBind (l : Link) (s : State) : Result :=
  .next <| s.serve l .bind fun q s =>
    match readAll readBindBody q.body with
    | none => s.refuse l .badField
    | some (h, n) =>
      if h = Handle.null then s
      else match s.validate h false q.tier State.guardTier with
        | (s1, .fail c) => s1.refuse l c
        | (s1, .pass (i, r)) =>
          match s1.bayNamed n with
          | none => s1.refuse l .outOfRange
          | some b =>
            if r.state ≠ .staged then s1.refuse l .wrongState
            else if (s1.bay b).binding ≠ none then s1.refuse l .bayOccupied
            else (s1.bindRecord i r b).answer l .ok
              (s1.bindBody i (some b) (if (s1.bay b).seated then .ready else .bound))

/-- R81: the state of the record after an unbind. -/
def unboundState (st : RecState) : RecState :=
  if st = .bound ∨ st = .ready then .staged else st

/-- R81: the write of an unbind. -/
def State.unbindRecord (s : State) (i : SlotIx) (r : ShelfRecord) (b : BayIx) : State :=
  (s.writeRecord i { r with bay := none, state := unboundState r.state }).freeBay b

/-- BIND with the null handle. -/
def execUnbind (l : Link) (s : State) : Result :=
  .next <| s.serve l .bind fun q s =>
    match readAll readBindBody q.body with
    | none => s.refuse l .badField
    | some (h, n) =>
      if h ≠ Handle.null then s
      else match s.bayNamed n with
        | none => s.refuse l .outOfRange
        | some b =>
          match s.boundSlot b with
          | none => s.refuse l .absent
          | some i =>
            let s1 := s.readRecord i
            match s1.record i with
            | none => s1.refuse l .absent
            | some r =>
              if r.state = .doubtful then s1.refuse l .doubtful
              else if r.guardLevel < q.tier then s1.refuse l .guarded
              else if r.state = .queued ∨ r.state = .running then s1.refuse l .wrongState
              else (s1.unbindRecord i r b).answer l .ok
                (s1.bindBody i none (unboundState r.state))

end Sys2Proof.Machine
end

