-- ==== Sys2Proof/Machine/ModelRequests.lean ====
section
/-! DEFINITION. The model requests: CREATE_MODEL, EDIT_MODEL, ACTIVATE, REVISE and DISCARD (R35 to R41). -/

namespace Sys2Proof.Machine

/-! ### Answers (R35, R203) -/

/-- R35, R203: the fields that a model answer carries: handle, state, code, revision, reference
count. -/
def modelFields (h : Handle) (state : Nat) (m : Model) (count : Nat) : List Byte :=
  h.bytes ++ [byteOf state] ++ m.name ++ [byteOf m.revision, byteOf count]

/-- R35: the fields of the model in slot `m` as they stand. -/
def State.modelBody (s : State) (m : ModelIx) : List Byte :=
  match s.model m with
  | some x => modelFields (s.modelHandleOf m) x.state.code x x.refCount
  | none => []

/-- R35: an answer to a model request whose handle resolved carries the model's fields. -/
def State.answerModel (s : State) (l : Link) (c : Code) (m : ModelIx) : State :=
  s.answer l c (s.modelBody m)

/-- R32: an in-use model in another slot than `but` carries the code and revision. -/
def State.nameTaken (s : State) (but : Option ModelIx) (name : List Byte) (revision : Nat) : Bool :=
  (List.finRange 16).any fun m =>
    some m ≠ but && match s.model m with
      | some x => x.name = name && x.revision = revision
      | none => false

/-! ### CREATE_MODEL (R37) -/

/-- R37: the lowest-numbered EMPTY slot. -/
def State.emptyModel (s : State) : Option ModelIx :=
  (List.finRange 16).find? fun m => (s.model m).isNone

/-- R37: the descriptor that CREATE_MODEL places. -/
def draftModel (name : List Byte) (revision : Nat) : Model :=
  { name := name, revision := revision, state := .draft, refCount := 0,
    params := ModelParams.unset, curve := [], plan := [], code := 0x00#8 }

/-- CREATE_MODEL. -/
def execCreateModel (l : Link) (s : State) : Result :=
  .next <| s.serve l .createModel fun q s =>
    match readAll readCreateBody q.body with
    | none => s.refuse l .badField
    | some (name, rev) =>
      if 0 < q.tier then s.refuse l .guarded
      else if !name.all isSerialChar || 255 < rev then s.refuse l .badField
      else if s.nameTaken none name rev then s.refuse l .duplicate
      else match s.emptyModel with
        | none => s.refuse l .tableFull
        | some m => (s.writeModel m (draftModel name rev)).answerModel l .ok m

/-- R36: a model request that names a model: the body check, the checks of R16, then `f`. -/
def State.serveModel {α : Type} (s : State) (l : Link) (code : ReqCode)
    (read : List Byte → Option α) (handle : α → Handle) (skip : Bool)
    (f : α → State → ModelIx → Model → State) : State :=
  s.serve l code fun q s =>
    match read q.body with
    | none => s.refuse l .badField
    | some a =>
      match s.validateModel (handle a) skip q.tier with
      | (s1, .fail c) => s1.refuse l c
      | (s1, .pass (m, x)) => f a s1 m x

/-! ### EDIT_MODEL (R38) -/

/-- Section 2.2: the range of a parameter field. -/
def ParamItem.inRange (p : ParamItem) (n : Nat) : Bool :=
  match p with
  | .mRated => 1 ≤ n && n ≤ 6
  | .vNom => 4000 ≤ n && n ≤ 6000
  | .iMod => 1 ≤ n && n ≤ 4000
  | .vCollapse => 1 ≤ n && n ≤ 6499
  | .vGood => 500 ≤ n && n ≤ 1000
  | .tMin => 1 ≤ n && n ≤ 5000
  | .tMax => 1 ≤ n && n ≤ 5000
  | .restartWindow => 10 ≤ n && n ≤ 10000
  | .latchObserve => 100 ≤ n && n ≤ 10000
  | .pCap => 1 ≤ n && n ≤ 120000
  | .vKnee => n ≤ 3000
  | .vMin => n ≤ 3000
  | .tolAbs => n ≤ 10000
  | .tolPpt => n ≤ 200
  | .effPpt => 800 ≤ n && n ≤ 1000
  | .overPpt => n ≤ 300
  | .settleMs => n ≤ 10000
  | .window => n = 16 || n = 32 || n = 64 || n = 128
  | .drift => 1 ≤ n && n ≤ 100

/-- R33: a knot in range. -/
def Knot.inRange (k : Knot) : Bool := -400 ≤ k.temp && k.temp ≤ 1250 && k.power ≤ 120000

/-- R34: a plan step in range. -/
def PlanStep.inRange : PlanStep → Bool
  | .hold lv d => 100 ≤ lv && lv ≤ 1000 && 100 ≤ d && d ≤ 60000
  | .trip lv => 1000 ≤ lv && lv ≤ 2000
  | .restart => true
  | .derate => true

/-- R38: an item in range. -/
def EditItem.inRange : EditItem → Bool
  | .name c => c.all isSerialChar
  | .param p n => p.inRange n
  | .restartMode n => n ≤ 1
  | .curve ks => ks.length ≤ 6 && ks.all Knot.inRange
  | .plan (some ps) => ps.length ≤ 8 && ps.all PlanStep.inRange
  | .plan none => false

/-- R38: a parameter field is stored and becomes set. -/
def ModelParams.store (q : ModelParams) (p : ParamItem) (n : Nat) : ModelParams :=
  match p with
  | .mRated => { q with mRated := some n }
  | .vNom => { q with vNom := some n }
  | .iMod => { q with iMod := some n }
  | .vCollapse => { q with vCollapse := some n }
  | .vGood => { q with vGood := some n }
  | .tMin => { q with tMin := some n }
  | .tMax => { q with tMax := some n }
  | .restartWindow => { q with restartWindow := some n }
  | .latchObserve => { q with latchObserve := some n }
  | .pCap => { q with pCap := some n }
  | .vKnee => { q with vKnee := some n }
  | .vMin => { q with vMin := some n }
  | .tolAbs => { q with tolAbs := some n }
  | .tolPpt => { q with tolPpt := some n }
  | .effPpt => { q with effPpt := some n }
  | .overPpt => { q with overPpt := some n }
  | .settleMs => { q with settleMs := some n }
  | .window => { q with window := some n }
  | .drift => { q with drift := some n }

/-- R38: the item is stored. -/
def Model.edited (x : Model) : EditItem → Model
  | .name c => { x with name := c }
  | .param p n => { x with params := x.params.store p n }
  | .restartMode n =>
    { x with params :=
      { x.params with restartMode := some (if n = 0 then .hiccup else .latch) } }
  | .curve ks => { x with curve := ks }
  | .plan (some ps) => { x with plan := ps }
  | .plan none => x

/-- R32: a new code that another in-use model carries with the same revision. -/
def State.editDuplicate (s : State) (m : ModelIx) (x : Model) : EditItem → Bool
  | .name c => s.nameTaken (some m) c x.revision
  | _ => false

/-- EDIT_MODEL. -/
def execEditModel (l : Link) (s : State) : Result :=
  .next <| s.serveModel l .editModel (readAll readEditBody) (·.1) false fun a s m x =>
    if x.state ≠ .draft then s.answerModel l .wrongState m
    else if !a.2.inRange then s.answerModel l .badField m
    else if s.editDuplicate m x a.2 then s.answerModel l .duplicate m
    else (s.writeModel m (x.edited a.2)).answerModel l .ok m

/-! ### ACTIVATE (R39) -/

/-- R39 items 14 and 15: the number, from 1, of the first knot that fails `bad`, which sees the knot
before it (log 14). -/
def firstBadKnot (bad : Option Knot → Knot → Bool) : Nat → Option Knot → List Knot → Option Nat
  | _, _, [] => none
  | n, prev, k :: ks => if bad prev k then some n else firstBadKnot bad (n + 1) (some k) ks

/-- R39 item 14: a knot whose T is not above that of the knot before it. -/
def notAbove (prev : Option Knot) (k : Knot) : Bool :=
  match prev with
  | some p => k.temp ≤ p.temp
  | none => false

/-- R39 item 25: the index of the first step that breaks the pairing of TRIP and RESTART. -/
def firstUnpaired : Nat → List PlanStep → Option Nat
  | _, [] => none
  | n, .trip _ :: .restart :: ps => firstUnpaired (n + 2) ps
  | n, .trip _ :: _ => some n
  | n, .restart :: _ => some n
  | n, _ :: ps => firstUnpaired (n + 1) ps

/-- R39: the items of ACTIVATE in order, each with the index it carries; the first that fails. -/
def Model.firstFault (x : Model) : Option (Nat × Option Nat) :=
  let p := x.params
  let fail (n : Nat) (bad : Bool) : Option (Nat × Option Nat) :=
    if bad then some (n, none) else none
  let failAt (n : Nat) (at? : Option Nat) : Option (Nat × Option Nat) :=
    at?.map fun k => (n, some k)
  (fail 1 p.mRated.isNone)
  <|> (fail 2 p.vNom.isNone)
  <|> (fail 3 p.iMod.isNone)
  <|> (fail 4 p.vCollapse.isNone)
  <|> (fail 5 (p.vNom.getD 0 ≤ p.vCollapse.getD 0))
  <|> (fail 6 p.vGood.isNone)
  <|> (fail 7 (p.tMin.isNone || p.tMax.isNone))
  <|> (fail 8 (p.tMax.getD 0 ≤ p.tMin.getD 0))
  <|> (fail 9 p.restartMode.isNone)
  <|> (fail 10 p.restartWindow.isNone)
  <|> (fail 11 (p.latchObserve.isNone && p.restartMode ≠ some .hiccup))
  <|> (fail 12 p.pCap.isNone)
  <|> (failAt 13 (if x.curve.length < 2 ∨ 6 < x.curve.length then some x.curve.length else none))
  <|> (failAt 14 (firstBadKnot notAbove 1 none x.curve))
  <|> (failAt 15 (firstBadKnot (fun _ k => p.pCap.getD 0 < k.power) 1 none x.curve))
  <|> (fail 16 (p.vKnee.isNone || p.vMin.isNone))
  <|> (fail 17 (p.vKnee.getD 0 ≤ p.vMin.getD 0))
  <|> (fail 18 (p.tolAbs.isNone || p.tolPpt.isNone))
  <|> (fail 19 p.effPpt.isNone)
  <|> (fail 20 p.overPpt.isNone)
  <|> (fail 21 p.settleMs.isNone)
  <|> (fail 22 p.window.isNone)
  <|> (fail 23 p.drift.isNone)
  <|> (failAt 24 (if x.plan = [] then some 0 else none))
  <|> (failAt 25 (firstUnpaired 0 x.plan))

/-- ACTIVATE. R203: an INVALID_MODEL answer carries the model's fields, the item number and the
index. -/
def execActivate (l : Link) (s : State) : Result :=
  .next <| s.serveModel l .activate (readAll readHandle) id false fun _ s m x =>
    if x.state ≠ .draft then s.answerModel l .wrongState m
    else match x.firstFault with
      | some (item, at?) =>
        s.answer l .invalidModel
          (s.modelBody m ++ [byteOf item] ++ optBytes (fun k => [byteOf k]) at?)
      | none => (s.writeModel m { x with state := .active }).answerModel l .ok m

/-! ### REVISE and DISCARD (R40, R41) -/

/-- REVISE. -/
def execRevise (l : Link) (s : State) : Result :=
  .next <| s.serveModel l .revise (readAll readHandle) id false fun _ s m x =>
    if x.state ≠ .active then s.answerModel l .wrongState m
    else if 0 < x.refCount then s.answerModel l .modelInUse m
    else if x.revision = 255 then s.answerModel l .badField m
    else if s.nameTaken (some m) x.name (x.revision + 1) then s.answerModel l .duplicate m
    else (s.writeModel m { x with state := .draft, revision := x.revision + 1 }).answerModel l .ok m

/-- R41: the slot becomes EMPTY and its generation rises by one. -/
def State.discardModel (s : State) (m : ModelIx) : State :=
  s.setModelSlot m ⟨State.nextGen (s.modelSlot m).gen, none⟩

/-- DISCARD. R41: the answer carries the handle as it was, with state EMPTY and reference count
0. -/
def execDiscard (l : Link) (s : State) : Result :=
  .next <| s.serveModel l .discard (readAll readHandle) id true fun _ s m x =>
    if 0 < x.refCount then s.answerModel l .modelInUse m
    else (s.discardModel m).answer l .ok (modelFields (s.modelHandleOf m) emptyModelCode x 0)

end Sys2Proof.Machine
end

