-- ==== Sys2Proof/Machine/StationRequests.lean ====
section
/-! DEFINITION. The station requests: SET_BUDGET, SET_FEED_WINDOW, BANK_STATUS, STATION_STATUS and RESET (R170, R173, R174, R195, R196). -/

namespace Sys2Proof.Machine

/-! ### Settings of the feed (R173, R174) -/

/-- R173: B is stored as given and G as the smaller of the guard given and the new B. -/
def Feed.setBudget (f : Feed) (b g : Nat) : Feed := { f with budget := b, guard := min g b }

/-- R174: both limits are stored and the out-of-window count is set to 0. -/
def Feed.setWindow (f : Feed) (lo hi : Nat) : Feed := { f with low := lo, high := hi, outCount := 0 }

/-- R173: the budget and the guard are stored, and the list is tested at once. -/
def State.storeBudget (s : State) (b g : Nat) : State := (s.setFeed (s.feed.setBudget b g)).feedTest

/-- SET_BUDGET. The answer carries the values stored. A submission made before it has been tested against
the old budget (R178; log 37). -/
def execSetBudget (l : Link) (s : State) : Result :=
  .next <| s.serve l .setBudget fun q s =>
    match readAll readBudgetBody q.body with
    | none => s.refuse l .badField
    | some (b, g) =>
      if 0 < q.tier then s.refuse l .guarded
      else (s.settled.storeBudget b g).answer l .ok (be16 b ++ be16 (min g b))

/-- SET_FEED_WINDOW. -/
def execSetFeedWindow (l : Link) (s : State) : Result :=
  .next <| s.serve l .setFeedWindow fun q s =>
    match readAll readWindowBody q.body with
    | none => s.refuse l .badField
    | some (lo, hi) =>
      if 0 < q.tier then s.refuse l .guarded
      else (s.setFeed (s.feed.setWindow lo hi)).answer l .ok (be16 lo ++ be16 hi)

/-! ### Snapshots (R170, R196, R203) -/

/-- A station request with no body: the body check, then tier 0, then `f`. -/
def State.serveStation (s : State) (l : Link) (code : ReqCode) (f : State → State) : State :=
  s.serve l code fun q s =>
    if q.body ≠ [] then s.refuse l .badField
    else if 0 < q.tier then s.refuse l .guarded
    else f s

/-- R203: one roster entry in the answer to BANK_STATUS. -/
def bankBytes (b : BankIx) (k : Bank) : List Byte :=
  [byteOf b.val, byteOf k.state.code] ++ be16 k.cap ++ optBytes (fun x => [byteOf x.val]) k.bay
    ++ optBytes (fun e => [byteOf e.val]) k.engine ++ be16 k.level
    ++ optBytes (fun c => [byteOf c]) k.fault

/-- R163, R165, R166, R170: the engine whose request is in service. A request withdrawn with a CONNECT
open stays in service until that CONNECT is over; a failed one has left for the wait list. -/
def State.engineInService (s : State) : Option EngineIx :=
  s.arb.service.bind fun v => if v.status = .failed then none else some v.engine

/-- R170, R203: the body of the answer to BANK_STATUS. -/
def State.bankStatusBody (s : State) : List Byte :=
  byteOf s.straps.banks :: (be32 s.totalOnline ++ s.addresses.flatMap (fun b => bankBytes b (s.bank b))
    ++ optBytes (fun e => [byteOf e.val]) s.engineInService
    ++ listBytes (fun w => byteOf w.engine.val :: be16 w.need) s.arb.waits)

/-- BANK_STATUS. It reports the engines' work that waited as done (log 37). -/
def execBankStatus (l : Link) (s : State) : Result :=
  .next <| s.serveStation l .bankStatus fun s =>
    s.settled.answer l .ok s.settled.bankStatusBody

/-- R196, R203: one engine in the answer to STATION_STATUS. -/
def engineBytes (en : Engine) : List Byte :=
  byteOf en.phase.code :: match en.phase, en.copy with
    | .free, _ => []
    | _, some c => c.handle.bytes ++ [byteOf c.index, byteOf c.kind.code]
    | _, none => []

/-- R196, R203: the body of the answer to STATION_STATUS. -/
def State.stationStatusBody (s : State) : List Byte :=
  [byteOf s.straps.table, byteOf s.straps.bays, byteOf s.straps.banks, flagByte s.straps.pulse,
      flagByte s.straps.console, byteOf s.feed.window.code]
    ++ be16 s.feed.budget ++ be16 s.feed.guard ++ be32 s.feed.total
    ++ (List.finRange 6).flatMap (fun e => engineBytes (s.engine e))
    ++ [byteOf s.store.attention.length]

/-- STATION_STATUS. It reports the engines' work that waited as done (log 37). -/
def execStationStatus (l : Link) (s : State) : Result :=
  .next <| s.serveStation l .stationStatus fun s =>
    s.settled.answer l .ok s.settled.stationStatusBody

/-! ### RESET (R195) -/

/-- The other request link. -/
def otherLink : Link → Link
  | .executive => .console
  | .console => .executive

/-- R54, R195: a LOOKUP waiting on a link is answered from its record as it stands, with extract
flag 0. -/
def State.completeWaiting (s : State) (l : Link) : State :=
  match (s.link l).request.bind (·.waiting) with
  | some w =>
    match s.record w.handle.index with
    | some r => s.answer l .ok (s.lookupBody w.handle.index r none)
    | none => s
  | none => s

/-- R29: one record at a soft reset: QUEUED and RUNNING go HELD with reason RESET and join the
attention list. -/
def softHold (s : State) (i : SlotIx) : State :=
  match s.record i with
  | some r =>
    if r.state = .queued ∨ r.state = .running then
      (s.writeRecord i { r with state := .held, hold := some .reset, engaged := none }).attend i
        Reasons.onlyHeld
    else s
  | none => s

/-- R90: a bay at a soft reset: the re-arm timer stops without a report and the seat-lost mark
clears. -/
def Bay.softReset (b : Bay) : Bay := { b with rearm := none, seatLost := false }

/-- R172: an exchange at a soft reset: all but an IDENTIFY are closed without their reply. -/
def softExchange (x : Option Exchange) : Option Exchange :=
  x.bind fun x => if x.request = .identify then some x else none

/-- R172: the arbiter at a soft reset. -/
def State.softArbiter (s : State) : State :=
  let s1 := s.setArb
    { s.arb with waits := [], service := none, asked := [],
                 exchanges := s.arb.exchanges.map softExchange }
  (s.addresses.filter fun b => (s.bank b).state ≠ .offline).foldl State.askOwnRelease s1

/-- R186: the feed supervisor at a soft reset. -/
def Feed.softReset (f : Feed) : Feed := { f with reservations := [], total := 0, waits := [] }

/-- R195 item 3: the soft reset. Messages that an engine sent and the store has not served are
dropped (R125). -/
def State.softReset (s : State) : State :=
  let s1 := ((List.finRange 32).foldl softHold s).setQueue []
  let s2 := { s1 with
    bays := s1.bays.map Bay.softReset
    engines := Tab.fill 6 Engine.free
    outbox := Tab.fill 6 [] }
  (s2.setFeed s2.feed.softReset).softArbiter

/-- RESET. -/
def execReset (l : Link) (s : State) : Result :=
  .next <| s.serveStation l .reset fun s =>
    ((s.answer l .ok []).completeWaiting (otherLink l)).softReset

end Sys2Proof.Machine
end

