-- ==== Sys2Proof/Machine/LinkEvents.lean ====
section
/-! DEFINITION. Request frames, read transactions and the other events of the two request links (R187 to R190). -/

namespace Sys2Proof.Machine

/-! ### A complete request frame (R188) -/

/-- R200: the tag of a frame; a frame shorter than three bytes carries tag 0. -/
def frameTag (bytes : List Byte) : Byte := (bytes[2]?).getD 0x00#8

/-- R188 check 1, R200: the byte count agrees with the body length field, which is at most 120. -/
def frameLengthOk (bytes : List Byte) : Bool :=
  match bytes[3]? with
  | some n => n.toNat ≤ 120 && bytes.length = n.toNat + 6
  | none => false

/-- R188 check 2, R206: the last two bytes are the CRC-16 of the bytes before them. -/
def frameCrcOk (bytes : List Byte) : Bool :=
  withCrc16 (bytes.take (bytes.length - 2)) = bytes

/-- R188: the checks of a request frame, in order. -/
def checkFrame (bytes : List Byte) : Except Code ReqCode :=
  if !frameLengthOk bytes then .error .frameError
  else if !frameCrcOk bytes then .error .frameError
  else match (bytes[0]?).bind ReqCode.ofByte with
    | some c => .ok c
    | none => .error .unknownRequest

/-- R20, R200: the effective tier: the larger of the claimed tier in bits 1 to 0 and the link
floor. -/
def effectiveTier (l : Link) (bytes : List Byte) : Nat :=
  max ((((bytes[1]?).getD 0x00#8).toNat) % 4) (linkFloor l)

/-- R200: the body of a frame that passed its checks. -/
def frameBody (bytes : List Byte) : List Byte := (bytes.drop 4).take (bytes.length - 6)

/-- R188: the link delivers a request to its owner. -/
def State.deliver (s : State) (l : Link) (code : ReqCode) (bytes : List Byte) : State :=
  s.setLink l { s.link l with
    request := some
      { code := code, tier := effectiveTier l bytes, tag := frameTag bytes,
        body := frameBody bytes, waiting := none } }

/-- R188: a request frame is complete. A link that is not free discards it and sets its OVERRUN flag;
a free link checks it. -/
def State.frameComplete (s : State) (l : Link) (bytes : List Byte) : State :=
  if s.linkFree l then
    match checkFrame bytes with
    | .ok code => s.deliver l code bytes
    | .error c => s.formAnswer l (frameTag bytes) c []
  else s.setLink l { s.link l with overrun := true }

/-! ### The console receiver (R190, R200) -/

/-- R200: the length that a frame's body length field gives, when that byte is there. -/
def expectedLength (bytes : List Byte) : Option Nat := (bytes[3]?).map fun n => n.toNat + 6

/-- R190: one byte reaches the console receiver. Outside a frame only the start byte counts; inside
one the byte that completes the length ends it. -/
def State.consoleByte (s : State) (b : Byte) : State :=
  match s.rx with
  | none => if b = 0x7E#8 then { s with rx := some ⟨[], s.now⟩ } else s
  | some x =>
    let bytes := x.bytes ++ [b]
    if expectedLength bytes = some bytes.length then
      State.frameComplete { s with rx := none } .console bytes
    else { s with rx := some ⟨bytes, s.now⟩ }

/-- REQUEST_FRAME. In an executive write transaction the controller shifts out 0x00 for every byte
(R188). A transaction with no byte after its command byte completes an empty frame (log 35, DESIGN
CHOICE). A console that the strap disables ignores its input (R190). -/
def execRequestFrame (l : Link) (bytes : List Byte) (s : State) : Result :=
  .next <| s.live fun s =>
    match l with
    | .executive =>
      State.frameComplete { s with spiOut := List.replicate (bytes.length + 1) 0x00#8 } .executive
        bytes
    | .console => if s.straps.console then bytes.foldl State.consoleByte s else s

/-! ### Reading answers (R189) -/

/-- R189: at the start of a delivery a set OVERRUN flag moves into the answer. -/
def LinkState.startDelivery (k : LinkState) (a : Answer) : LinkState :=
  { k with unread := some { a with overrun := a.overrun || k.overrun }, overrun := false }

/-- R188: what the controller shifts out in a read transaction: 0x00 for the command byte, then the
frame, then 0x00. -/
def shiftedOut (frame : List Byte) (clocked : Nat) : List Byte :=
  0x00#8 :: (frame.take clocked ++ List.replicate (clocked - frame.length) 0x00#8)

/-- READ_TRANSACTION. The answer becomes read when its last byte has been clocked out; with no
unread answer the no-answer frame is returned. -/
def execReadTransaction (clocked : Nat) (s : State) : Result :=
  .next <| s.live fun s =>
    match s.execLink.unread with
    | none => { s with spiOut := shiftedOut noAnswerFrame clocked }
    | some a =>
      let a' : Answer := { a with overrun := a.overrun || s.execLink.overrun }
      let k := s.execLink.startDelivery a
      { s with
        spiOut := shiftedOut a'.frame clocked
        execLink := if a'.frame.length ≤ clocked then { k with unread := none } else k }

/-- ANSWER_SENT. -/
def execAnswerSent (s : State) : Result :=
  .next <| s.live fun s => { s with consoleLink := { s.consoleLink with unread := none } }

/-- TRANSACTION_IGNORED. R188: a transaction whose command byte is neither 0x01 nor 0x02 delivers no
request, reads no answer and sets no flag. -/
def execTransactionIgnored (_command : Byte) (_bytes : List Byte) (s : State) : Result := .next s

/-- CONSOLE_FRAME_TIMEOUT. R190: a frame whose bytes stop for more than 10 ms is dropped; no answer is
formed and OVERRUN is not set. -/
def execConsoleFrameTimeout (s : State) : Result :=
  .next <| s.live fun s =>
    match s.rx with
    | some x => { s.atTick (x.last + Config.consoleGapMs + 1) with rx := none }
    | none => s

end Sys2Proof.Machine
end

