-- ==== Sys2Proof/Machine/Resets.lean ====
section
/-! DEFINITION. Power-on reset, pin reset, their release, and the two scrubs (R27, R45, R193, R194). -/

namespace Sys2Proof.Machine

/-! ### Resets (R193, R194) -/

/-- R194: a power-on or pin reset is held. No output is active, no input is sampled and no command
but the release has an effect; the blocks already hold their reset values (log 10). The straps keep
the values of the latest release (R193). -/
def State.underReset (s : State) : State :=
  let t := State.atRelease s.now Config.resetPins 0#24 0#24
  { t with pending := s.pending, held := true, straps := s.straps, arb := { t.arb with asked := [] } }

/-- POWER_ON_RESET. -/
def execPowerOnReset (s : State) : Result := .next s.underReset

/-- PIN_RESET, of the same effect as the power-on reset. -/
def execPinReset (s : State) : Result := .next s.underReset

/-- RESET_RELEASE. The straps are sampled and every block takes its reset value, whatever stood before
(log 28). Where a power-on reset and a pin reset are held at once, the command stands for the release of the
last of them (R194; log 42, DESIGN CHOICE). -/
def execResetRelease (pins : StrapPins) (seats indicators : BitVec 24) (s : State) : Result :=
  .next { State.atRelease s.now pins seats indicators with pending := s.pending }

/-! ### Scrubs (R27, R45) -/

/-- R27: the slot after a slot, from the table limit minus one back to 0. -/
def nextSlot (limit : Nat) (i : SlotIx) : SlotIx :=
  if lt : i.val + 1 < 32 then if i.val + 1 < limit then ⟨i.val + 1, lt⟩ else 0 else 0

/-- SHELF_SCRUB. -/
def execShelfScrub (s : State) : Result :=
  .next <| s.live fun s =>
    let s0 := s.atTick (s.store.scrubFrom + Config.scrubMs)
    let s1 := s0.readRecord s0.store.cursor
    { s1 with store :=
      { s1.store with cursor := nextSlot s1.straps.table s1.store.cursor, scrubFrom := s1.now } }

/-- R45: the model slot after a slot, from 15 back to 0. -/
def nextModel (m : ModelIx) : ModelIx := m + 1

/-- MODEL_SCRUB. -/
def execModelScrub (s : State) : Result :=
  .next <| s.live fun s =>
    let s0 := s.atTick (s.models.scrubFrom + Config.scrubMs)
    let s1 := s0.readModel s0.models.cursor
    { s1 with models :=
      { s1.models with cursor := nextModel s1.models.cursor, scrubFrom := s1.now } }

end Sys2Proof.Machine
end

