-- ==== Sys2Proof/Machine/BayEvents.lean ====
section
/-! DEFINITION. The events of the bay lines: seat, debounce, trip indicator and re-arm pulse (R74 to R78). -/

namespace Sys2Proof.Machine

/-- SEAT_INPUT_CHANGE. R74: a change of the raw seat restarts the debounce timer; R73: a bay at or
above the bay count is not sampled. -/
def execSeatInputChange (b : BayIx) (up : Bool) (s : State) : Result :=
  .next <| s.live fun s =>
    if s.bayInService b = false ∨ (s.bay b).raw = up then s
    else s.setBay b { s.bay b with raw := up, debounce := some s.now }

/-- R75: the record store serves a seat event of a bay against the bound record, by its state. -/
def State.seatEvent (s : State) (b : BayIx) (up : Bool) : State :=
  match s.boundSlot b with
  | none => s
  | some i =>
    match s.record i with
    | none => s
    | some r =>
      match r.state, up with
      | .bound, true => s.writeRecord i { r with state := .ready }
      | .ready, false => s.writeRecord i { r with state := .bound }
      | .queued, false => s.holdQueued i r .unseated
      | .running, false => (s.setBay b { s.bay b with seatLost := true }).stopHolder i r .unseated
      | _, _ => s

/-- DEBOUNCE_EXPIRY. R74: at 50 ms the timer stops; a raw seat that differs is taken and gives a seat
event. -/
def execDebounceExpiry (b : BayIx) (s : State) : Result :=
  .next <| s.live fun s =>
    match (s.bay b).debounce with
    | none => s
    | some t =>
      let s0 := s.atTick (t + Config.debounceMs)
      let k := s0.bay b
      if k.raw = k.seated then s0.setBay b { k with debounce := none }
      else (s0.setBay b { k with debounce := none, seated := k.raw }).seatEvent b k.raw

/-- R78: the engine that the indicator events of a bay go to: the one engaged on the bound RUNNING
record. -/
def State.engagedAt (s : State) (b : BayIx) : Option EngineIx :=
  match s.boundSlot b with
  | none => none
  | some i =>
    match s.record i with
    | none => none
    | some r =>
      if r.state = .running then r.engaged.filter fun e => s.holds e (s.handleOf i) else none

/-- TRIP_INDICATOR_CHANGE. R78: the level is stored; a change from inactive to active is an indicator
event stamped with the present tick. R99: the engine takes it as a detection when detection is
armed. -/
def execTripIndicatorChange (b : BayIx) (active : Bool) (s : State) : Result :=
  .next <| s.live fun s =>
    if s.bayInService b = false then s
    else
      let s1 := s.setBay b { s.bay b with indicator := active }
      if active && !(s.bay b).indicator then
        match s1.engagedAt b with
        | some e => s1.feedRetest (s1.detect e .indicator s.now)
        | none => s1
      else s1

/-- R138: the report of a pulse's end reaches an engine. One that waits for it starts the restart
timer; another drops it. -/
def State.rearmReport (s : State) (e : EngineIx) (b : BayIx) : State :=
  let en := s.engine e
  if en.awaitRearm = true ∧ en.copy.map (·.bay) = some b then
    s.setEngine e { en with awaitRearm := false, restartFrom := some s.now }
  else s

/-- REARM_PULSE_END. R77: at 500 ms the timer stops and the engine that asked is told. -/
def execRearmPulseEnd (b : BayIx) (s : State) : Result :=
  .next <| s.live fun s =>
    match (s.bay b).rearm with
    | none => s
    | some (t, e) =>
      let s0 := s.atTick (t + Config.rearmMs)
      (s0.setBay b { s0.bay b with rearm := none }).rearmReport e b

end Sys2Proof.Machine
end

