-- ==== Sys2Proof/Machine/SenseEvents.lean ====
section
/-! DEFINITION. The sense link: bay and feed frames, staleness, the feed window and the attention pulse (chapters 5, 8, 10; R192). -/

namespace Sys2Proof.Machine

/-! ### A forwarded sample at an engine (R99, R101, R135 to R138, R151 to R153) -/

/-- R99: with detection armed, a V_out below V_collapse is a trip detection; the sample's arrival tick
is the present tick. -/
def State.collapseSample (s : State) (e : EngineIx) (vCollapse : Nat) (x : Sample) : State :=
  if x.vOut < vCollapse then s.detect e .collapse s.now else s

/-- R135 to R138: a sample below the good threshold sets the low-seen mark; a sample at or above it is
a good sample when the mark is set and the step compares for good. -/
def State.restartSample (s : State) (e : EngineIx) (r : RestartParams) (x : Sample) : State :=
  let en := s.engine e
  if x.vOut < en.goodLevel then s.setEngine e { en with lowSeen := true }
  else if en.lowSeen then
    match en.restartFrom, en.latchFrom with
    | some t, _ =>
      if s.now - t ≤ r.window then s.reachVerdict e ⟨.pass, some (s.now - t), none⟩ else s
    | none, some t =>
      match r.latchObserve with
      | some w =>
        if s.now - t ≤ w then s.reachVerdict e ⟨.unlatched, some (s.now - t), none⟩ else s
      | none => s
    | none, none => s
  else s

/-- R152: the measured power, from the truncated averages of R102. -/
def measuredPower (k : Collection) (w : Nat) : Nat := k.sumV / w * (k.sumI / w) / 1000

/-- R153: the tolerance. -/
def derateTol (p : DerateParams) (pExp : Nat) : Nat := max p.tolAbs (pExp * p.tolPpt / 1000)

/-- R153: the verdict of a DERATE step. -/
def derateVerdict (tol pExp pMeas : Nat) : Verdict :=
  if pExp + tol < pMeas then ⟨.derateHigh, some pMeas, none⟩
  else if pMeas + tol < pExp then ⟨.derateLow, some pMeas, none⟩
  else ⟨.pass, some pMeas, none⟩

/-- R151 check 1: the conditions of a sample hold. -/
def conditionsHold (p : DerateParams) (captured : Int) (x : Sample) : Bool :=
  !x.overT && !x.overVin && (x.temp - captured).natAbs ≤ p.drift

/-- R101: a sample is counted. -/
def Collection.count1 (k : Collection) (x : Sample) : Collection :=
  ⟨k.count + 1, k.sumV + x.vOut, k.sumI + x.iOut⟩

/-- R151 check 3, R101, R102: a sample is counted when a collection is in progress, and one that
brings the count to W ends it with the verdict of R153. -/
def State.countSample (s : State) (e : EngineIx) (p : DerateParams) (x : Sample) : State :=
  match (s.engine e).collection with
  | none => s
  | some k =>
    if x.overV || x.overI then s.takeStop e .outOfConditions
    else
      let k' := k.count1 x
      let s1 := s.modEngine e fun en => { en with collection := some k' }
      if p.window ≤ k'.count then
        let pExp := (s.engine e).pExp
        s1.reachVerdict e (derateVerdict (derateTol p pExp) pExp (measuredPower k' p.window))
      else s1

/-- R151: the checks of a sample in WATCH, in order. -/
def State.derateSample (s : State) (e : EngineIx) (p : DerateParams) (x : Sample) : State :=
  if conditionsHold p (s.engine e).captured x = false then s.takeStop e .outOfConditions
  else if (s.engine e).detection = .armed ∧ x.vOut < p.vCollapse then
    s.detect e .collapse s.now
  else s.countSample e p x

/-- R98, R151: what the watching engine does with a forwarded sample, by its step. -/
def State.forward (s : State) (e : EngineIx) (x : Sample) : State :=
  match (s.engine e).copy with
  | none => s
  | some c =>
    match c.kind, c.params with
    | .restart, .trip _ r => s.restartSample e r x
    | _, .derate p =>
      if (s.engine e).phase = .watch then s.derateSample e p x
      else s.collapseSample e p.vCollapse x
    | _, p => s.collapseSample e p.vCollapse x

/-! ### Bay frames (R92, R94, R98) -/

/-- R92: a bay frame that passes all four checks, with its bay. -/
def State.acceptBay (s : State) (bytes : List Byte) : Option (BayIx × BayFields) :=
  match readBayFields bytes with
  | none => none
  | some f =>
    if lt : f.bay < 24 then
      let b : BayIx := ⟨f.bay, lt⟩
      if crc8Ok bytes ∧ s.bayInService b ∧ (s.sense b).seq ≠ some f.seq then some (b, f) else none
    else none

/-- R94: an accepted frame replaces the bay's sample. -/
def State.storeBay (s : State) (b : BayIx) (f : BayFields) : State :=
  s.setSense b { sense := .fresh, sample := some f.stored, seq := some f.seq, arrival := s.now }

/-- BAY_FRAME. R92: a frame that fails a check changes nothing. -/
def execBayFrame (bytes : List Byte) (s : State) : Result :=
  .next <| s.live fun s =>
    match s.acceptBay bytes with
    | none => s
    | some (b, f) =>
      let s1 := s.storeBay b f
      match s1.watcher b with
      | some e => s1.feedRetest (s1.forward e f.stored)
      | none => s1

/-- BAY_STALE. R94, R98: at an age of 21 the bay goes STALE, and a watching engine receives
SENSE_LOST. -/
def execBayStale (b : BayIx) (s : State) : Result :=
  .next <| s.live fun s =>
    if (s.sense b).sense ≠ .fresh then s
    else
      let s0 := s.atTick ((s.sense b).arrival + Config.bayStaleMs + 1)
      let s1 := s0.setSense b { s0.sense b with sense := .stale }
      match s1.watcher b with
      | some e => s1.stopEngine e .senseLost
      | none => s1

/-! ### The feed supervisor (R179 to R183) -/

/-- R180: a shed at the third over-draw frame. The victim's mark is set, the counts are written and
SHED is sent; with no candidate only the over-draw count changes. -/
def State.shed (s : State) : State :=
  match s.feed.victim with
  | none => s.setFeed { s.feed with overCount := 0 }
  | some r =>
    (s.setFeed
      { s.feed.markSent r.engine with overCount := 0, pause := Config.shedPause }).stopEngine
      r.engine .shed

/-- R179: the over-draw comparison of an accepted feed frame. -/
def State.overDraw (s : State) (d : Nat) : State :=
  if 0 < s.feed.pause then s.setFeed { s.feed with pause := s.feed.pause - 1 }
  else if s.feed.budget < d then
    if s.feed.overCount + 1 < 3 then s.setFeed { s.feed with overCount := s.feed.overCount + 1 }
    else s.shed
  else s.setFeed { s.feed with overCount := 0 }

/-- R183: the phases in which FEED_LOST reaches an engine. -/
def Phase.pastReserve : Phase → Bool
  | .acquire => true
  | .load => true
  | .watch => true
  | .unload => true
  | _ => false

/-- R183: FEED_LOST is sent to one engine past RESERVE and its reservation marked. -/
def sendFeedLost (s : State) (e : EngineIx) : State :=
  if (s.engine e).phase.pastReserve then
    (s.setFeed (s.feed.markSent e)).takeStop e .feedLost
  else s

/-- R181, R183: the entry into FAULT. FEED_LOST reaches the engines in ascending order (log 31). -/
def State.feedFault (s : State) : State :=
  (List.finRange 6).foldl sendFeedLost
    (s.setFeed { s.feed with window := .fault, recoverFrom := none, outCount := 0 })

/-- R181: the window judgement of an accepted feed frame, by its voltage. -/
def State.judgeWindow (s : State) (volts : Nat) : State :=
  match s.feed.window with
  | .normal =>
    if s.feed.low ≤ volts ∧ volts ≤ s.feed.high then s.setFeed { s.feed with outCount := 0 }
    else if s.feed.outCount + 1 < 2 then
      s.setFeed { s.feed with outCount := s.feed.outCount + 1 }
    else s.feedFault
  | .fault =>
    if s.inBand volts then
      s.setFeed { s.feed with window := .recovering, recoverFrom := some s.now, outCount := 0 }
    else s
  | .recovering =>
    if s.inBand volts then
      s.setFeed { s.feed with recoverFrom := some (s.feed.recoverFrom.getD s.now) }
    else s.feedFault

/-- R92: a feed frame that passes its checks. -/
def State.acceptFeed (s : State) (bytes : List Byte) : Option FeedFields :=
  match readFeedFields bytes with
  | none => none
  | some f => if crc8Ok bytes ∧ s.feedSense.seq ≠ some f.seq then some f else none

/-- R94: an accepted frame replaces the feed sample. -/
def State.storeFeed (s : State) (f : FeedFields) : State :=
  { s with feedSense :=
    { sense := .fresh, sample := some f.stored, seq := some f.seq, arrival := s.now } }

/-- FEED_FRAME. R96: an accepted frame is handed to the supervisor as stored, which judges it for
over-draw and then against the window (log 21). -/
def execFeedFrame (bytes : List Byte) (s : State) : Result :=
  .next <| s.live fun s =>
    match s.acceptFeed bytes with
    | none => s
    | some f => ((s.storeFeed f).overDraw f.stored.draw).judgeWindow f.stored.volts

/-- R181: a feed-stale event at the supervisor. -/
def State.feedStaleEvent (s : State) : State :=
  let s1 := s.setFeed { s.feed with overCount := 0 }
  if s1.feed.window = .fault then s1 else s1.feedFault

/-- FEED_STALE. R94, R179, R181: at an age of 101 the feed goes STALE. -/
def execFeedStale (s : State) : Result :=
  .next <| s.live fun s =>
    if s.feedSense.sense ≠ .fresh then s
    else
      let s0 := s.atTick (s.feedSense.arrival + Config.feedStaleMs + 1)
      State.feedStaleEvent { s0 with feedSense := { s0.feedSense with sense := .stale } }

/-- RECOVERY_EXPIRY. R182: at 1000 ms the state becomes NORMAL, the timer stops and the list is
tested. -/
def execRecoveryExpiry (s : State) : Result :=
  .next <| s.live fun s =>
    match s.feed.recoverFrom with
    | none => s
    | some t =>
      let s0 := s.atTick (t + Config.recoveryMs)
      (s0.setFeed { s0.feed with window := .normal, recoverFrom := none }).feedTest

/-- ATTENTION_PULSE_END. R192: the line is active from the join until 1 ms has passed. -/
def execAttentionPulseEnd (s : State) : Result :=
  .next <| s.live fun s =>
    match s.store.pulse with
    | none => s
    | some t =>
      let s0 := s.atTick (t + Config.pulseMs)
      { s0 with store := { s0.store with pulse := none } }

end Sys2Proof.Machine
end

