-- ==== Sys2Proof/Machine/EngineEvents.lean ====
section
/-! DEFINITION. The take of a record, the derate evaluation and the step timers of an engine (chapters 6, 7 and 8). -/

namespace Sys2Proof.Machine

/-! ### The working copy (R43, R109) -/

/-- R43: the parameters of a HOLD step. -/
def Model.holdParams (x : Model) (levelPpt duration : Nat) : HoldParams :=
  { levelPpt := levelPpt, duration := duration, iMod := x.params.iMod.getD 0,
    vNom := x.params.vNom.getD 0, vCollapse := x.params.vCollapse.getD 0,
    effPpt := x.params.effPpt.getD 0 }

/-- R43: the parameters of a TRIP step. -/
def Model.tripParams (x : Model) (levelPpt : Nat) : TripParams :=
  { levelPpt := levelPpt, iMod := x.params.iMod.getD 0, vNom := x.params.vNom.getD 0,
    vCollapse := x.params.vCollapse.getD 0, tMin := x.params.tMin.getD 0,
    tMax := x.params.tMax.getD 0, effPpt := x.params.effPpt.getD 0 }

/-- R43: the parameters of a RESTART step; the latch observe time in LATCH mode only. -/
def Model.restartParams (x : Model) : RestartParams :=
  { vGood := x.params.vGood.getD 0, vNom := x.params.vNom.getD 0,
    mode := x.params.restartMode.getD .hiccup, window := x.params.restartWindow.getD 0,
    latchObserve := if x.params.restartMode = some .latch then x.params.latchObserve else none }

/-- R43: the parameters of a DERATE step. -/
def Model.derateParams (x : Model) : DerateParams :=
  { curve := x.curve, pCap := x.params.pCap.getD 0, mRated := x.params.mRated.getD 0,
    vNom := x.params.vNom.getD 0, vKnee := x.params.vKnee.getD 0, vMin := x.params.vMin.getD 0,
    tolAbs := x.params.tolAbs.getD 0, tolPpt := x.params.tolPpt.getD 0,
    effPpt := x.params.effPpt.getD 0, overPpt := x.params.overPpt.getD 0,
    settleMs := x.params.settleMs.getD 0, window := x.params.window.getD 0,
    drift := x.params.drift.getD 0, vCollapse := x.params.vCollapse.getD 0 }

/-- R43: the step at a cursor with its parameters; a TRIP step comes with the RESTART step after it. -/
def Model.stepAt (x : Model) (cursor : Nat) : Option (StepKind × StepParams) :=
  match x.plan[cursor]? with
  | some (.hold lv d) => some (.hold, .hold (x.holdParams lv d))
  | some (.trip lv) =>
    if x.plan[cursor + 1]? = some .restart then
      some (.trip, .trip (x.tripParams lv) x.restartParams)
    else none
  | some .derate => some (.derate, .derate x.derateParams)
  | some .restart => none
  | none => none

/-- R109: the working copy made at the take. -/
def State.supplyCopy (s : State) (i : SlotIx) (r : ShelfRecord) (x : Model) : Option WorkingCopy :=
  match r.bay, x.stepAt r.cursor with
  | some b, some (k, p) =>
    some
      { handle := s.handleOf i, bay := b, priority := r.priority, index := r.cursor, kind := k,
        params := p, mPresent := r.mPresent, attempt := r.retry + 1 }
  | _, _ => none

/-! ### The take (R105, R106, R110) -/

/-- R105: the lowest-numbered FREE engine. -/
def State.freeEngine (s : State) : Option EngineIx :=
  (List.finRange 6).find? fun e => (s.engine e).phase = .free

/-- R126: the step level of a HOLD or TRIP step is stored. -/
def State.prepareLoad (s : State) (e : EngineIx) (level : Nat) : State :=
  s.modEngine e fun en => { en with stepLevel := level }

/-- R110: the engine in RESERVE prepares its load: a DERATE step asks the evaluator, and another computes
its step level. The submission is not part of the take, which ends in RESERVE (R106, R107): it is the
engine's own next step (`Engine.submission`; log 37, DEDUCED). -/
def State.prepare (s : State) (e : EngineIx) (c : WorkingCopy) : State :=
  match c.params with
  | .hold p => s.prepareLoad e (stepLevelOf p.iMod c.mPresent p.levelPpt)
  | .trip p _ => s.prepareLoad e (stepLevelOf p.iMod c.mPresent p.levelPpt)
  | .derate _ => s.modEngine e fun en => { en with evalAsked := true }

/-- R106 item 3: the record is written RUNNING with its engine and leaves the queue; the engine
records the tick and enters RESERVE. -/
def State.takeRecord (s : State) (e : EngineIx) (i : SlotIx) (r : ShelfRecord) (c : WorkingCopy) :
    State :=
  ((s.writeRecord i { r with state := .running, engaged := some e }).leaveQueue i).setEngine e
    { Engine.free with phase := .reserve, copy := some c, takeTick := s.now }

/-- R106: the take of the head by a FREE engine. On a mismatch of the record, or of its model, the take
does not happen: the record goes DOUBTFUL and leaves the queue, or the model goes DOUBTFUL and its
QUEUED records are held. -/
def State.takeHead (s : State) (e : EngineIx) (i : SlotIx) : State :=
  match s.record i with
  | none => s
  | some r =>
    if r.intact = false then s.doubtRecord i
    else match r.model.modelIx with
      | none => s
      | some m =>
        match s.model m with
        | none => s
        | some x =>
          if x.intact = false then s.doubtModel m
          else match s.supplyCopy i r x with
            | none => s
            | some c => (s.takeRecord e i r c).prepare e c

/-- ENGINE_TAKE. R105: it happens when the queue holds a record, an engine is FREE and the window state
is not FAULT. The work of the engines that took before it comes first (log 37). -/
def execEngineTake (s : State) : Result :=
  .next <| s.live fun s0 =>
    let s := s0.settled
    match s.store.queue, s.freeEngine with
    | i :: _, some e => if s.feed.window = .fault then s else s.takeHead e i
    | _, _ => s

/-! ### The derate evaluator (R142 to R148) -/

/-- R144: the power that a curve allows at a temperature. The knots before the segment have been
passed; the quotient truncates toward zero. -/
def curvePower : List Knot → Int → Int
  | [], _ => 0
  | [k], _ => k.power
  | k :: k' :: ks, t =>
    if t ≤ k.temp then k.power
    else if t < k'.temp then
      k.power + (((k'.power : Int) - k.power) * (t - k.temp)).tdiv (k'.temp - k.temp)
    else curvePower (k' :: ks) t

/-- R145: the line factor. -/
def linePower (pT vIn vKnee : Nat) : Nat := if vKnee ≤ vIn then pT else pT * vIn / vKnee

/-- R146: the expected derated power. -/
def expectedPower (pTV mPresent mRated pCap : Nat) : Nat := min (pTV * mPresent / mRated) pCap

/-- R147: the load setting. -/
def loadSetting (pExp overPpt vNom : Nat) : Nat :=
  min (pExp * (1000 + overPpt) / vNom) Config.maxLevel

/-- R142: the three answers of the evaluator. -/
inductive Evaluation where
  | evaluated (captured : Int) (pExp iSet pStep r : Nat)
  | outOfConditions (stage : Nat)
  | noCapacity
  deriving DecidableEq, Repr

/-- R143: the conditions at the step start. -/
def startConditions (p : DerateParams) (k : BaySense) : Option Sample :=
  match k.sense, k.sample with
  | .fresh, some x => if x.overT || x.overVin || x.vIn < p.vMin then none else some x
  | _, _ => none

/-- R143 to R148: the stages in order, stopping at the first that gives an outcome. -/
def evaluate (p : DerateParams) (mPresent : Nat) (k : BaySense) (online : Nat) : Evaluation :=
  match startConditions p k with
  | none => .outOfConditions 1
  | some x =>
    let pT := (curvePower p.curve x.temp).toNat
    let pExp := expectedPower (linePower pT x.vIn p.vKnee) mPresent p.mRated p.pCap
    if pExp = 0 then .outOfConditions 4
    else
      let iSet := loadSetting pExp p.overPpt p.vNom
      if online < iSet then .noCapacity
      else
        let pStep := stepPower iSet p.vNom
        .evaluated x.temp pExp iSet pStep (reservationOf pStep p.effPpt)

/-- R142: the engine takes the evaluator's answer. -/
def State.takeEvaluation (s : State) (e : EngineIx) (c : WorkingCopy) : Evaluation → State
  | .evaluated t pExp iSet _ r =>
    (s.modEngine e fun en =>
      { en with evalAsked := false, captured := t, pExp := pExp, stepLevel := iSet }).submit e c r
  | .outOfConditions _ => s.stopEngine e .outOfConditions
  | .noCapacity => s.stopEngine e .noCapacity

/-- DERATE_EVALUATION. R142: the evaluator reads the bay's sample and the total online capability, and
answers the engine that asked. The work of the other engines comes first (log 37). -/
def execDerateEvaluation (e : EngineIx) (s : State) : Result :=
  .next <| s.live fun s0 =>
    let s := s0.settled
    match (s.engine e).evalAsked, (s.engine e).copy with
    | true, some c =>
      match c.params with
      | .derate p =>
        s.takeEvaluation e c (evaluate p c.mPresent (s.sense c.bay) s.totalOnline)
      | _ => s
    | _, _ => s

/-! ### Step timers (R130, R131, R136 to R138, R150) -/

/-- R113, R177: a verdict is reached, and the supervisor tests its list when that released a
reservation. -/
def State.concludeStep (s : State) (e : EngineIx) (v : Verdict) : State :=
  s.feedRetest (s.reachVerdict e v)

/-- HOLD_DURATION_EXPIRY. -/
def execHoldDurationExpiry (e : EngineIx) (s : State) : Result :=
  .next <| s.live fun s =>
    match (s.engine e).holdFrom, (s.engine e).copy with
    | some t, some c =>
      match c.params with
      | .hold p => (s.atTick (t + p.duration)).concludeStep e ⟨.pass, none, none⟩
      | _ => s
    | _, _ => s

/-- TRIP_WINDOW_CLOSE. R131: at t_max + 1. -/
def execTripWindowClose (e : EngineIx) (s : State) : Result :=
  .next <| s.live fun s =>
    match (s.engine e).tripFrom, (s.engine e).copy with
    | some z, some c =>
      match c.params with
      | .trip p _ => (s.atTick (z + p.tMax + 1)).concludeStep e ⟨.noTrip, none, none⟩
      | _ => s
    | _, _ => s

/-- SETTLE_EXPIRY. R101, R150: the collection begins with its count and sums at 0. -/
def execSettleExpiry (e : EngineIx) (s : State) : Result :=
  .next <| s.live fun s =>
    match (s.engine e).settleFrom, (s.engine e).copy with
    | some t, some c =>
      match c.params with
      | .derate p =>
        (s.atTick (t + p.settleMs)).modEngine e fun en =>
          { en with settleFrom := none, collection := some ⟨0, 0, 0⟩ }
      | _ => s
    | _, _ => s

/-- R77: the re-arm pulse asked for by an engine: the timer starts from 0 when the engine is engaged
on the bound record, and the request is dropped otherwise. -/
def State.askRearm (s : State) (e : EngineIx) (b : BayIx) : State :=
  if s.engagedAt b = some e then s.setBay b { s.bay b with rearm := some (s.now, e) } else s

/-- LATCH_OBSERVE_EXPIRY. R137: at the latch observe time + 1. -/
def execLatchObserveExpiry (e : EngineIx) (s : State) : Result :=
  .next <| s.live fun s =>
    match (s.engine e).latchFrom, (s.engine e).copy with
    | some t, some c =>
      match c.params with
      | .trip _ r =>
        match r.latchObserve with
        | some w =>
          ((s.atTick (t + w + 1)).modEngine e fun en =>
            { en with latchFrom := none, awaitRearm := true }).askRearm e c.bay
        | none => s
      | _ => s
    | _, _ => s

/-- RESTART_WINDOW_CLOSE. R136, R138: at the restart window + 1. -/
def execRestartWindowClose (e : EngineIx) (s : State) : Result :=
  .next <| s.live fun s =>
    match (s.engine e).restartFrom, (s.engine e).copy with
    | some t, some c =>
      match c.params with
      | .trip _ r => (s.atTick (t + r.window + 1)).concludeStep e ⟨.noRestart, none, none⟩
      | _ => s
    | _, _ => s

end Sys2Proof.Machine
end

