-- ==== Sys2Proof/Machine/EngineMessages.lean ====
section
/-! DEFINITION. The messages of an engine at the record store: extract, passage write and close (R26, R54, R114, R122, R123). -/

namespace Sys2Proof.Machine

/-- R53: the oldest message of an engine is served. -/
def State.popMessage (s : State) (e : EngineIx) : State :=
  { s with outbox := s.outbox.put e (s.outbox.get e).tail }

/-- R25, R26: the record that a message of an engine may write: the handle validates, the record still
names the engine as engaged, and it is not DOUBTFUL. -/
def State.engagedRecord (s : State) (e : EngineIx) (h : Handle) : Option ShelfRecord :=
  match s.record h.index with
  | some r =>
    if h = s.handleOf h.index ∧ r.engaged = some e ∧ r.state ≠ .doubtful then some r else none
  | none => none

/-! ### EXTRACT (R54) -/

/-- R54: an extract completes the LOOKUP that waits for it, with the record as it stands; with none
waiting it is dropped. -/
def State.serveExtract (s : State) (e : EngineIx) (h : Handle) (l : Link) (ex : Extract) : State :=
  if (s.link l).request.bind (·.waiting) = some ⟨e, h⟩ then
    match s.record h.index with
    | some r => s.answer l .ok (s.lookupBody h.index r (some ex))
    | none => s
  else s

/-- EXTRACT. An engine whose oldest message is another kind is not served by it (log 4). -/
def execExtract (e : EngineIx) (s : State) : Result :=
  .next <| s.live fun s =>
    match (s.outbox.get e).head? with
    | some (.extract h l ex) => (s.popMessage e).serveExtract e h l ex
    | _ => s

/-! ### PASSAGE_WRITE (R10, R114) -/

/-- R10: an entry is inserted at the place its index gives, or replaces the entry of that index. -/
def putResult (x : ResultEntry) : List ResultEntry → List ResultEntry
  | [] => [x]
  | y :: ys =>
    if x.index < y.index then x :: y :: ys
    else if x.index = y.index then x :: ys
    else y :: putResult x ys

/-- R114 item 1: the TRIP entry is written and the cursor moves to the RESTART step. -/
def State.writePassage (s : State) (e : EngineIx) (h : Handle) (index value : Nat)
    (cause : DetectCause) (attempt : Nat) : State :=
  match s.engagedRecord e h with
  | none => s
  | some r =>
    s.writeRecord h.index
      { r with
        results := putResult
          { index := index, kind := .trip, outcome := .pass, value := some value,
            cause := some cause, attempt := attempt } r.results
        cursor := index + 1 }

/-- PASSAGE_WRITE. -/
def execPassageWrite (e : EngineIx) (s : State) : Result :=
  .next <| s.live fun s =>
    match (s.outbox.get e).head? with
    | some (.passage h index value cause attempt) =>
      (s.popMessage e).writePassage e h index value cause attempt
    | _ => s

/-! ### STEP_CLOSE (R87, R121 to R123) -/

/-- R121: the classes of outcomes that govern the close. -/
inductive OutcomeClass where
  | pass
  | fail
  | charged
  | uncharged
  | holding (why : HoldReason)
  | withdrawal
  deriving DecidableEq, Repr

/-- R121: the class of an outcome. -/
def StepOutcome.class : StepOutcome → OutcomeClass
  | .pass => .pass
  | .holdTripped => .fail
  | .holdLimited => .fail
  | .tripEarly => .fail
  | .noTrip => .fail
  | .noRestart => .fail
  | .unlatched => .fail
  | .derateHigh => .fail
  | .derateLow => .fail
  | .derateTripped => .fail
  | .shed => .charged
  | .bankFault => .charged
  | .senseLost => .charged
  | .feedLost => .uncharged
  | .aborted => .holding .host
  | .unseated => .holding .unseated
  | .noCapacity => .holding .noCapacity
  | .outOfConditions => .holding .conditions
  | .doubt => .withdrawal

/-- R123: what a close writes beside its entry. -/
structure CloseWrite where
  cursor : Nat
  retry : Nat
  state : RecState
  hold : Option HoldReason
  deriving DecidableEq, Repr

/-- R87, R47: a close that would make the record QUEUED is checked first against the debounced seat
and then against the model's state. R9: a cursor on a RESTART step is moved back when the record enters
QUEUED, and R123: a record that goes HELD keeps it. A model mismatch together with such a close of a retried
RESTART step therefore leaves the cursor on the TRIP step when the close is served first and on the RESTART
step when the mismatch is, although R47 says that the record ends the same in either order; the model
follows R9 and R123 (log 40, DESIGN CHOICE). -/
def State.requeueWrite (s : State) (r : ShelfRecord) (cursor retry : Nat) : CloseWrite :=
  if s.seatUp r = false then ⟨cursor, retry, .held, some .unseated⟩
  else if (s.modelOf r).map (·.state) = some .doubtful then ⟨cursor, retry, .held, some .modelDoubt⟩
  else ⟨s.queuedCursor { r with cursor := cursor }, retry, .queued, none⟩

/-- R123: the cursor, retry count and state that follow from the outcome; a DOUBT writes nothing. -/
def State.closeWrite (s : State) (r : ShelfRecord) (index : Nat) (outcome : StepOutcome)
    (late : Bool) : Option CloseWrite :=
  match outcome.class with
  | .pass =>
    if index + 1 < s.planLength r then
      if late then some ⟨index + 1, 0, .held, some .host⟩
      else some (s.requeueWrite r (index + 1) 0)
    else some ⟨s.planLength r, 0, .passed, none⟩
  | .fail => some ⟨r.cursor, r.retry, .failed, none⟩
  | .charged =>
    if r.retry < 3 then some (s.requeueWrite r r.cursor (r.retry + 1))
    else some ⟨r.cursor, r.retry, .held, some .retryLimit⟩
  | .uncharged => some (s.requeueWrite r r.cursor r.retry)
  | .holding why => some ⟨r.cursor, r.retry, .held, some why⟩
  | .withdrawal => none

/-- R122: the outcomes that are verdicts. -/
def StepOutcome.isVerdict (o : StepOutcome) : Bool := o.class = .pass || o.class = .fail

/-- R191: the reasons that a close adds. -/
def closeReasons (o : StepOutcome) (st : RecState) : Reasons :=
  { verdict := o.isVerdict, passed := st = .passed, failed := st = .failed, held := st = .held,
    doubt := false }

/-- R191: a close that brings a reason puts the record on the attention list. -/
def State.attendClose (s : State) (i : SlotIx) (o : StepOutcome) (st : RecState) : State :=
  if closeReasons o st = Reasons.none then s else s.attend i (closeReasons o st)

/-- R104: a record that the close made QUEUED joins the start queue. -/
def State.requeueAfter (s : State) (i : SlotIx) (st : RecState) : State :=
  if st = .queued then s.joinQueue i else s

/-- R122: the write of a close: entry, cursor, retry count and state in one service, the engaged
engine absent; then the bay (R77, R87), the start queue and the attention list follow. -/
def State.writeClose (s : State) (i : SlotIx) (r : ShelfRecord) (x : ResultEntry) (w : CloseWrite) :
    State :=
  let s1 := s.writeRecord i
    { r with results := putResult x r.results, cursor := w.cursor, retry := w.retry,
             state := w.state, hold := w.hold, engaged := none }
  ((s1.clearRun r.bay).requeueAfter i w.state).attendClose i x.outcome w.state

/-- R26, R122: the store serves a close against the record it names. The record that the handle
resolves to is read for integrity first (R23). A close whose record no longer names the engine, or is
DOUBTFUL (R25), writes nothing. A LOOKUP waiting for the engine is completed by the record as the close
left it (R54). -/
def State.serveClose (s : State) (e : EngineIx) (h : Handle) (x : ResultEntry) (late : Bool) :
    State :=
  let s1 := if h = s.handleOf h.index then s.readRecord h.index else s
  match s1.engagedRecord e h with
  | none => s1
  | some r =>
    match s1.closeWrite r x.index x.outcome late with
    | none => s1
    | some w => (s1.writeClose h.index r x w).completeLookups h.index

/-- STEP_CLOSE. -/
def execStepClose (e : EngineIx) (s : State) : Result :=
  .next <| s.live fun s =>
    match (s.outbox.get e).head? with
    | some (.close h index kind outcome value cause attempt late) =>
      (s.popMessage e).serveClose e h
        { index := index, kind := kind, outcome := outcome, value := value, cause := cause,
          attempt := attempt } late
    | _ => s

end Sys2Proof.Machine
end

