-- ==== Sys2Proof/Machine/LoadLink.lean ====
section
/-! DEFINITION. The turns of the load link, the replies of the banks, and the loss and rediscovery of a bank (chapter 9). -/

namespace Sys2Proof.Machine

/-! ### Turns (R158, R159) -/

/-- R159: SET with level 0 and RELEASE are in the unload class. -/
def LinkRequest.unload : LinkRequest → Bool
  | .set l => l = 0
  | .release => true
  | _ => false

/-- R159: the oldest request of a class whose bank has no open exchange and no older request
queued. -/
def State.firstEligible (s : State) (unload : Bool) : List BankIx → List Asked → Option Asked
  | _, [] => none
  | seen, a :: as =>
    if a.request.unload = unload ∧ s.exchange a.bank = none ∧ a.bank ∉ seen then some a
    else firstEligible s unload (a.bank :: seen) as

/-- R159 items 1 and 2: the request of the next turn. -/
def State.nextRequest (s : State) : Option Asked :=
  s.firstEligible true [] s.arb.asked <|> s.firstEligible false [] s.arb.asked

/-- R159 item 3: of two open exchanges, the one polled least recently; ties go to the one held, which
has the lower address. -/
def lessRecent (best : Option (BankIx × Exchange)) (b : BankIx) (x : Exchange) :
    Option (BankIx × Exchange) :=
  match best with
  | none => some (b, x)
  | some (c, y) => if x.polled < y.polled then some (b, x) else some (c, y)

/-- R159 item 3: the open exchange polled least recently. -/
def State.nextPoll (s : State) : Option (BankIx × Exchange) :=
  s.addresses.foldl
    (fun best b => match s.exchange b with
      | some x => lessRecent best b x
      | none => best) none

def State.setTurn (s : State) (t : Option Turn) : State :=
  { s with arb := { s.arb with turn := t } }

/-- R158: a request turn: the request leaves the queue and opens an exchange. -/
def State.sendRequest (s : State) (a : Asked) : State :=
  let s1 := { s with arb := { s.arb with asked := s.arb.asked.eraseP (·.bank = a.bank) } }
  (s1.setExchange a.bank (some ⟨a.request, s.now, s.now⟩)).setTurn
    (some ⟨a.bank, false, requestFrameOf a.bank a.request⟩)

/-- R112, R159: the tick of the first SET of a load step is reported to the engine in LOAD that holds
the bank, which arms detection. -/
def State.reportSent (s : State) (a : Asked) : State :=
  match a.load, (s.bank a.bank).engine with
  | true, some e =>
    if (s.engine e).phase = .load ∧ (s.engine e).setSent = false then s.feedRetest (s.arm e) else s
  | _, _ => s

/-- R158: a poll turn. -/
def State.poll (s : State) (b : BankIx) (x : Exchange) : State :=
  (s.setExchange b (some { x with polled := s.now })).setTurn (some ⟨b, true, pollFrame b⟩)

/-- R159: the next turn. With nothing to send and nothing open the link stays idle. -/
def State.takeTurn (s : State) : State :=
  match s.nextRequest with
  | some a => (s.sendRequest a).reportSent a
  | none =>
    match s.nextPoll with
    | some (b, x) => s.poll b x
    | none => s

/-- LINK_TURN. R158: a turn lasts to the next tick, so the turn after it begins there. -/
def execLinkTurn (s : State) : Result :=
  .next <| s.live fun s =>
    match s.arb.turn with
    | some _ => (s.atTick (s.now + 1)).takeTurn
    | none => s.settled.takeTurn

/-! ### Taking a reply (R160, R205, R206) -/

/-- A reply taken from a POLL: the bank, its open exchange, the value at offsets 2 and 3, and byte
4. -/
structure Reply where
  bank : BankIx
  exchange : Exchange
  value : Nat
  byte4 : Byte
  deriving DecidableEq, Repr

/-- R158: a POLL of a bank awaits its answer in the present turn. -/
def State.awaits (s : State) (b : BankIx) : Bool :=
  match s.arb.turn with
  | some t => t.awaiting && t.bank = b
  | none => false

/-- R160, R206: a reply frame of a kind is taken when its check code holds, it carries the address
polled, and its kind and byte 4 answer the open exchange; another is discarded. That a reply with any of
bits 7 to 3 of its address byte set is discarded, whatever bank bits 2 to 0 name, is the model's choice
(R205; log 41, DESIGN CHOICE). -/
def State.acceptReply (s : State) (k : ReplyKind) (bytes : List Byte) : Option Reply :=
  match bytes with
  | [a, kind, v1, v0, m, _crc] =>
    if lt : a.toNat < 8 then
      let b : BankIx := ⟨a.toNat, lt⟩
      match s.exchange b with
      | some x =>
        if crc8Ok bytes ∧ kind = k.byte ∧ s.awaits b ∧ k.answers x.request ∧ k.byte4Ok m then
          some ⟨b, x, v1.toNat * 256 + v0.toNat, m⟩
        else none
      | none => none
    else none
  | _ => none

/-- R158: a POLL of a bank in the present turn has been answered. -/
def Turn.answered (t : Turn) (b : BankIx) : Turn :=
  if t.bank = b then { t with awaiting := false } else t

/-- R158: the POLL of a bank in the present turn, if there is one, is over. -/
def State.pollAnswered (s : State) (b : BankIx) : State :=
  s.setTurn (s.arb.turn.map fun t => t.answered b)

/-- R159: a reply taken from a POLL closes the exchange. -/
def State.closeExchange (s : State) (b : BankIx) : State := (s.setExchange b none).pollAnswered b

/-- A reply frame reaches the controller: discarded, or taken and handed to `f` with its exchange
closed. The bank requests that waited to be made come before a reply taken (log 37). -/
def State.onReply (s : State) (k : ReplyKind) (bytes : List Byte) (f : Reply → State → State) :
    State :=
  s.live fun s =>
    match s.acceptReply k bytes with
    | none => s
    | some y => f y (s.settled.closeExchange y.bank)

/-! ### IDENT (R157, R161) -/

/-- R157, R161: the roster entry of an identified bank. -/
def Bank.identified (n : Nat) : Bank :=
  { state := .idle, cap := min n Config.maxLevel, bay := none, engine := none, level := 0,
    fault := none }

/-- IDENT_REPLY. -/
def execIdentReply (bytes : List Byte) (s : State) : Result :=
  .next <| s.onReply .ident bytes fun y s =>
    if (s.bank y.bank).state = .offline then (s.setBank y.bank (Bank.identified y.value)).bankTest
    else s

/-! ### READY (R163 to R166) -/

/-- R164: the next chosen bank still to be connected, in grant order. -/
def State.nextConnect (s : State) (v : Service) : Option BankIx :=
  v.chosen.find? fun b => (s.bank b).state = .connecting

/-- R164, R167: the grant of a complete service. -/
def State.grantOf (s : State) (v : Service) : List GrantBank :=
  let caps := v.chosen.map fun b => (s.bank b).cap
  ((v.chosen.zip caps).zip (sharesOf v.need caps)).map fun p =>
    ⟨p.1.1, p.1.2, p.2, false, 0, false⟩

/-- R164: a READY of the request in service: its bank is CONNECTED; the next CONNECT is asked, or the
grant is complete. The arbiter's test comes before the engine's SETs are asked (log 19). -/
def State.readyActive (s : State) (v : Service) (b : BankIx) : State :=
  let s1 := s.modBank b fun k =>
    { k with state := .connected, bay := some v.bay, engine := some v.engine, level := 0 }
  match s1.nextConnect v with
  | some c => s1.ask ⟨c, .connect v.bay, false⟩
  | none => s1.feedRetest (((s1.setService none).bankTest).enterLoad v.engine (s1.grantOf v))

/-- R165, R166: the last open CONNECT of a service that has failed or been withdrawn is over. The arbiter
tests its list before the supervisor tests its own (log 19, DESIGN CHOICE). -/
def State.serviceDrained (s : State) (v : Service) : State :=
  let s1 := s.setService none
  match v.status with
  | .withdrawn => s1.feedRetest (s1.withdrawComplete v.engine)
  | _ => s1.bankTest

/-- R165, R166: a READY of a service that has failed or been withdrawn: its bank is CONNECTED and goes
RELEASING at once. -/
def State.readyLate (s : State) (v : Service) (b : BankIx) : State :=
  ((s.modBank b fun k => { k with state := .connected, bay := some v.bay, level := 0 }).askOwnRelease
    b).serviceDrained v

/-- READY_REPLY. -/
def execReadyReply (bytes : List Byte) (s : State) : Result :=
  .next <| s.onReply .ready bytes fun y s =>
    match s.arb.service with
    | some v =>
      if (s.bank y.bank).state = .connecting ∧ y.bank ∈ v.chosen then
        if v.status = .active then s.readyActive v y.bank else s.readyLate v y.bank
      else s
    | none => s

/-! ### LEVEL (R112, R114, R115, R129, R133, R134, R149, R168) -/

/-- A LEVEL reply at the grant: the load reply is in, and a SET 0 has been answered. -/
def GrantBank.replied (g : GrantBank) (level : Nat) : GrantBank :=
  { g with load := false, zeros := if level = 0 then g.zeros - 1 else g.zeros }

/-- R112, R129: a LEVEL reply in LOAD: "limited" ends a HOLD step; the last one enters WATCH. -/
def State.levelInLoad (s : State) (e : EngineIx) (limited : Bool) : State :=
  if limited ∧ (s.engine e).copy.map (·.kind) = some .hold then
    s.reachVerdict e ⟨.holdLimited, none, none⟩
  else if (s.engine e).loadsDone then s.enterWatch e
  else s

/-- R134: the engine asks the SET 0 that waited for the reply of the bank's load SET. -/
def State.rezero (s : State) (e : EngineIx) (b : BankIx) : State :=
  if (s.engine e).grant.any fun g => g.bank = b && g.rezero then
    (s.askSet b 0 false).modEngine e fun en =>
      en.modGrant b fun g => { g with rezero := false, zeros := g.zeros + 1 }
  else s

/-- R168: a LEVEL reply is reported to the engine that holds the bank, which goes on by its phase. -/
def State.levelTaken (s : State) (e : EngineIx) (b : BankIx) (level : Nat) (limited : Bool) :
    State :=
  let s1 := s.modEngine e fun en => en.modGrant b fun g => g.replied level
  match (s.engine e).phase with
  | .load => s1.levelInLoad e limited
  | .watch => (s1.rezero e b).passageAdvance e
  | .unload => s1.unloadAdvance e
  | _ => s1

/-- The level of a SET. -/
def LinkRequest.level : LinkRequest → Nat
  | .set l => l
  | _ => 0

/-- LEVEL_REPLY. -/
def execLevelReply (bytes : List Byte) (s : State) : Result :=
  .next <| s.onReply .level bytes fun y s =>
    match (s.bank y.bank).engine with
    | some e =>
      s.feedRetest (s.levelTaken e y.bank y.exchange.request.level (y.byte4 = 0x01#8))
    | none => s

/-! ### RELEASED and WAIT (R158, R169) -/

/-- R169: a released bank. -/
def Bank.released (k : Bank) : Bank :=
  { k with state := .idle, bay := none, engine := none, level := 0 }

/-- R115, R160, R169: a bank is released or lost, and the engine that held it goes on without it. -/
def State.bankGone (s : State) (e : EngineIx) (b : BankIx) : State :=
  (s.modEngine e fun en => en.dropBank b).unloadAdvance e

/-- R169: the reply is reported to the engine that asked the release. -/
def State.releasedReport (s : State) (holder : Option EngineIx) (b : BankIx) : State :=
  match holder with
  | some e => s.bankGone e b
  | none => s

/-- RELEASED_REPLY. -/
def execReleasedReply (bytes : List Byte) (s : State) : Result :=
  .next <| s.onReply .released bytes fun y s =>
    if (s.bank y.bank).state = .releasing then
      ((s.modBank y.bank Bank.released).releasedReport (s.bank y.bank).engine y.bank).bankTest
    else s

/-- WAIT_REPLY. R158: the exchange stays open. -/
def execWaitReply (bytes : List Byte) (s : State) : Result :=
  .next <| s.live fun s =>
    match s.acceptReply .wait bytes with
    | some y => s.pollAnswered y.bank
    | none => s

/-! ### The loss of a bank (R160, R165) -/

/-- R160: the roster entry of a lost bank; a FAULT code is stored. -/
def Bank.lost (k : Bank) (code : Option Nat) : Bank :=
  { k with state := .offline, bay := none, engine := none, level := 0, fault := code <|> k.fault }

/-- R111: the engine's bank request is answered NO_CAPACITY. -/
def State.answerNoCapacity (s : State) (e : EngineIx) : State :=
  (s.modEngine e fun en => { en with bankReq := .notMade }).takeStop e .noCapacity

/-- R165: a connect of the request in service failed: the service ends, and the request returns to the
wait list unless its need exceeds the total online capability. -/
def State.connectFailed (s : State) (v : Service) : State :=
  let s1 := s.endService v .failed
  if s1.totalOnline < v.need then s1.answerNoCapacity v.engine else s1.returnRequest v

/-- R160, R165, R166: a chosen bank was lost. -/
def State.chosenLost (s : State) (v : Service) : State :=
  match v.status with
  | .active => s.connectFailed v
  | .failed => s.setService none
  | .withdrawn => (s.setService none).acquireExit v.engine

/-- R160: a bank in an engine's grant was lost: it leaves the grant, and the engine takes or drops
BANK_FAULT. -/
def State.grantLost (s : State) (e : EngineIx) (b : BankIx) : State :=
  ((s.modEngine e fun en => en.dropBank b).takeStop e .bankFault).unloadAdvance e

/-- R160: the effect of the state that a lost bank left. -/
def State.afterLoss (s : State) (b : BankIx) (former : Bank) : State :=
  match former.state, s.arb.service, former.engine with
  | .connecting, some v, _ => if b ∈ v.chosen then s.chosenLost v else s
  | .connected, some v, some e => if b ∈ v.chosen then s.chosenLost v else s.grantLost e b
  | .connected, none, some e => s.grantLost e b
  | .releasing, _, some e => s.bankGone e b
  | _, _, _ => s

/-- R160: a waiting request whose need now exceeds the total leaves the list and is answered
NO_CAPACITY. -/
def testWaiting (s : State) (w : BankWait) : State :=
  if s.totalOnline < w.need then
    (s.bankWithdraw w.engine).answerNoCapacity w.engine
  else s

/-- R165: the list is tested once the service has ended. -/
def State.testAfter (s before : State) : State :=
  if before.arb.service ≠ none ∧ s.arb.service = none then s.bankTest else s

/-- R160: an exchange ended badly, in one service of the arbiter. -/
def State.loseBank (s : State) (b : BankIx) (code : Option Nat) : State :=
  let s1 := (s.closeExchange b).dropAsked b
  let s2 := (s1.setBank b ((s.bank b).lost code)).afterLoss b (s.bank b)
  s.feedRetest ((s2.arb.waits.foldl testWaiting s2).testAfter s)

/-- FAULT_REPLY. -/
def execFaultReply (bytes : List Byte) (s : State) : Result :=
  .next <| s.live fun s =>
    match s.acceptReply .fault bytes with
    | some y => s.settled.loseBank y.bank (some y.byte4.toNat)
    | none => s

/-- EXCHANGE_TIMEOUT. R160: no reply was taken at or before the tick of sending plus 250. -/
def execExchangeTimeout (b : BankIx) (s : State) : Result :=
  .next <| s.live fun s =>
    match s.exchange b with
    | some x => (s.atTick (x.sent + Config.exchangeMs + 1)).loseBank b none
    | none => s

/-! ### Rediscovery (R161) -/

/-- R161: an IDENTIFY of a bank is queued or open. -/
def State.identifying (s : State) (b : BankIx) : Bool :=
  (s.exchange b).map (·.request) = some .identify
    || s.arb.asked.any fun a => a.bank = b && a.request = .identify

/-- R161: the banks that a sweep asks IDENTIFY of. -/
def State.sweepBanks (s : State) : List BankIx :=
  s.addresses.filter fun b => (s.bank b).state = .offline && !s.identifying b

/-- REDISCOVERY_TIMER. -/
def execRediscoveryTimer (s : State) : Result :=
  .next <| s.live fun s =>
    let s0 := s.atTick (s.arb.sweepFrom + Config.rediscoveryMs)
    let s1 := { s0 with arb := { s0.arb with sweepFrom := s0.now } }
    s1.sweepBanks.foldl (fun t b => t.ask ⟨b, .identify, false⟩) s1

end Sys2Proof.Machine
end

