-- ==== Sys2Proof/Machine/Dispatch.lean ====
section
/-! DEFINITION. The dispatch of every command to its meaning. -/

namespace Sys2Proof.Machine

/-- The effect of a command on everything but the queue. -/
def exec (i : Instr) (s : State) : Host.Outcome State Fault Refusal :=
  match i with
  | .admitShelf l => Sys2Proof.Machine.execAdmit l s
  | .lookup l => Sys2Proof.Machine.execLookup l s
  | .extract e => Sys2Proof.Machine.execExtract e s
  | .probe l => Sys2Proof.Machine.execProbe l s
  | .find l => Sys2Proof.Machine.execFind l s
  | .amendPriority l => Sys2Proof.Machine.execAmendPriority l s
  | .amendGuardLevel l => Sys2Proof.Machine.execAmendGuardLevel l s
  | .amendNote l => Sys2Proof.Machine.execAmendNote l s
  | .amendModelHandle l => Sys2Proof.Machine.execAmendModelHandle l s
  | .addModule l => Sys2Proof.Machine.execAddModule l s
  | .dropModule l => Sys2Proof.Machine.execDropModule l s
  | .amendPresentFlag l => Sys2Proof.Machine.execAmendPresentFlag l s
  | .bindBay l => Sys2Proof.Machine.execBind l s
  | .unbindBay l => Sys2Proof.Machine.execUnbind l s
  | .start l => Sys2Proof.Machine.execStart l s
  | .resume l => Sys2Proof.Machine.execResume l s
  | .abort l => Sys2Proof.Machine.execAbort l s
  | .release l => Sys2Proof.Machine.execRelease l s
  | .take l => Sys2Proof.Machine.execTake l s
  | .createModel l => Sys2Proof.Machine.execCreateModel l s
  | .editModel l => Sys2Proof.Machine.execEditModel l s
  | .activate l => Sys2Proof.Machine.execActivate l s
  | .revise l => Sys2Proof.Machine.execRevise l s
  | .discard l => Sys2Proof.Machine.execDiscard l s
  | .setBudget l => Sys2Proof.Machine.execSetBudget l s
  | .setFeedWindow l => Sys2Proof.Machine.execSetFeedWindow l s
  | .bankStatus l => Sys2Proof.Machine.execBankStatus l s
  | .stationStatus l => Sys2Proof.Machine.execStationStatus l s
  | .reset l => Sys2Proof.Machine.execReset l s
  | .requestFrame l bytes => Sys2Proof.Machine.execRequestFrame l bytes s
  | .readTransaction clocked => Sys2Proof.Machine.execReadTransaction clocked s
  | .answerSent => Sys2Proof.Machine.execAnswerSent s
  | .transactionIgnored command bytes => Sys2Proof.Machine.execTransactionIgnored command bytes s
  | .consoleFrameTimeout => Sys2Proof.Machine.execConsoleFrameTimeout s
  | .powerOnReset => Sys2Proof.Machine.execPowerOnReset s
  | .pinReset => Sys2Proof.Machine.execPinReset s
  | .resetRelease pins seats indicators => Sys2Proof.Machine.execResetRelease pins seats indicators s
  | .shelfScrub => Sys2Proof.Machine.execShelfScrub s
  | .modelScrub => Sys2Proof.Machine.execModelScrub s
  | .seatInputChange bay up => Sys2Proof.Machine.execSeatInputChange bay up s
  | .debounceExpiry bay => Sys2Proof.Machine.execDebounceExpiry bay s
  | .tripIndicatorChange bay active => Sys2Proof.Machine.execTripIndicatorChange bay active s
  | .rearmPulseEnd bay => Sys2Proof.Machine.execRearmPulseEnd bay s
  | .bayFrame bytes => Sys2Proof.Machine.execBayFrame bytes s
  | .bayStale bay => Sys2Proof.Machine.execBayStale bay s
  | .feedFrame bytes => Sys2Proof.Machine.execFeedFrame bytes s
  | .feedStale => Sys2Proof.Machine.execFeedStale s
  | .recoveryExpiry => Sys2Proof.Machine.execRecoveryExpiry s
  | .attentionPulseEnd => Sys2Proof.Machine.execAttentionPulseEnd s
  | .engineTake => Sys2Proof.Machine.execEngineTake s
  | .derateEvaluation e => Sys2Proof.Machine.execDerateEvaluation e s
  | .linkTurn => Sys2Proof.Machine.execLinkTurn s
  | .identReply bytes => Sys2Proof.Machine.execIdentReply bytes s
  | .readyReply bytes => Sys2Proof.Machine.execReadyReply bytes s
  | .levelReply bytes => Sys2Proof.Machine.execLevelReply bytes s
  | .releasedReply bytes => Sys2Proof.Machine.execReleasedReply bytes s
  | .waitReply bytes => Sys2Proof.Machine.execWaitReply bytes s
  | .faultReply bytes => Sys2Proof.Machine.execFaultReply bytes s
  | .exchangeTimeout bank => Sys2Proof.Machine.execExchangeTimeout bank s
  | .rediscoveryTimer => Sys2Proof.Machine.execRediscoveryTimer s
  | .holdDurationExpiry e => Sys2Proof.Machine.execHoldDurationExpiry e s
  | .tripWindowClose e => Sys2Proof.Machine.execTripWindowClose e s
  | .settleExpiry e => Sys2Proof.Machine.execSettleExpiry e s
  | .latchObserveExpiry e => Sys2Proof.Machine.execLatchObserveExpiry e s
  | .restartWindowClose e => Sys2Proof.Machine.execRestartWindowClose e s
  | .passageWrite e => Sys2Proof.Machine.execPassageWrite e s
  | .stepClose e => Sys2Proof.Machine.execStepClose e s

end Sys2Proof.Machine
end

