-- ==== Sys2Proof/Machine/Idle.lean ====
section
/-! DEFINITION. What the block does by itself when no command waits: the internal step that is due, or the passing of 1 ms (logs 1, 2 and 25). -/

namespace Sys2Proof.Machine

namespace State

/-! ### Internal steps that are due (log 2) -/

/-- R53: the oldest message of an engine, as the command that serves it. -/
def messageDue (s : State) (e : EngineIx) : Option Instr :=
  match (s.outbox.get e).head? with
  | some (.passage _ _ _ _ _) => some (.passageWrite e)
  | some (.extract _ _ _) => some (.extract e)
  | some (.close _ _ _ _ _ _ _ _) => some (.stepClose e)
  | none => none

/-- R106: a take of the record in slot `i` finds a mismatch or makes a working copy. A head that gives
neither stands in no run (log 27). -/
def takeActs (s : State) (i : SlotIx) : Bool :=
  match s.record i with
  | none => false
  | some r =>
    !r.intact ||
      match s.modelOf r with
      | none => false
      | some x => !x.intact || (s.supplyCopy i r x).isSome

/-- R105: a take can happen. -/
def takeDue (s : State) : Option Instr :=
  match s.store.queue, s.freeEngine with
  | i :: _, some _ =>
    if s.feed.window = .fault ∨ s.takeActs i = false then none else some .engineTake
  | _, _ => none

/-- R142: an evaluation is asked for. -/
def evaluationDue (s : State) (e : EngineIx) : Option Instr :=
  match (s.engine e).evalAsked, (s.engine e).copy with
  | true, some c =>
    match c.params with
    | .derate _ => some (.derateEvaluation e)
    | _ => none
  | _, _ => none

/-- The time limit of a running timer has been reached. -/
def reached (s : State) (from? : Option Nat) (limit : Nat) : Bool :=
  match from? with
  | some t => t + limit ≤ s.now
  | none => false

/-- A command, when a condition holds. -/
def onlyIf (b : Bool) (c : Instr) : Option Instr := if b then some c else none

/-- R73, R74, R77, R94: the timers of a bay. -/
def bayDue (s : State) (b : BayIx) : Option Instr :=
  onlyIf (s.reached (s.bay b).debounce Config.debounceMs) (.debounceExpiry b)
  <|> onlyIf (s.reached ((s.bay b).rearm.map (·.1)) Config.rearmMs) (.rearmPulseEnd b)
  <|> onlyIf ((s.sense b).sense = .fresh && (s.sense b).arrival + Config.bayStaleMs + 1 ≤ s.now)
    (.bayStale b)

/-- R130, R131, R136 to R138, R150: the step timers of an engine. -/
def stepTimerDue (s : State) (e : EngineIx) : Option Instr :=
  match (s.engine e).copy with
  | none => none
  | some c =>
    match c.params with
    | .hold p => onlyIf (s.reached (s.engine e).holdFrom p.duration) (.holdDurationExpiry e)
    | .trip p r =>
      onlyIf (s.reached (s.engine e).tripFrom (p.tMax + 1)) (.tripWindowClose e)
      <|> onlyIf (match r.latchObserve with
          | some w => s.reached (s.engine e).latchFrom (w + 1)
          | none => false) (.latchObserveExpiry e)
      <|> onlyIf (s.reached (s.engine e).restartFrom (r.window + 1)) (.restartWindowClose e)
    | .derate p => onlyIf (s.reached (s.engine e).settleFrom p.settleMs) (.settleExpiry e)

/-- R160: an exchange has been open past its limit. -/
def exchangeDue (s : State) (b : BankIx) : Option Instr :=
  onlyIf (s.reached ((s.exchange b).map (·.sent)) (Config.exchangeMs + 1)) (.exchangeTimeout b)

/-- R27, R45, R94, R161, R182, R190, R192: the timers of the station. -/
def stationDue (s : State) : Option Instr :=
  onlyIf (s.reached (s.rx.map (·.last)) (Config.consoleGapMs + 1)) .consoleFrameTimeout
  <|> onlyIf (s.feedSense.sense = .fresh && s.feedSense.arrival + Config.feedStaleMs + 1 ≤ s.now)
    .feedStale
  <|> onlyIf (s.reached s.feed.recoverFrom Config.recoveryMs) .recoveryExpiry
  <|> onlyIf (s.reached s.store.pulse Config.pulseMs) .attentionPulseEnd
  <|> onlyIf (s.arb.sweepFrom + Config.rediscoveryMs ≤ s.now) .rediscoveryTimer
  <|> onlyIf (s.store.scrubFrom + Config.scrubMs ≤ s.now) .shelfScrub
  <|> onlyIf (s.models.scrubFrom + Config.scrubMs ≤ s.now) .modelScrub

/-- The command that serves a pending request (log 11: an AMEND that names no item is served as
AMEND_PRIORITY, a BIND whose body does not fit as BIND). -/
def requestCommand (q : Request) (l : Link) : Instr :=
  match q.code with
  | .admitShelf => .admitShelf l
  | .lookup => .lookup l
  | .probe => .probe l
  | .find => .find l
  | .amend =>
    match amendItemOf q.body with
    | some .priority => .amendPriority l
    | some .guardLevel => .amendGuardLevel l
    | some .note => .amendNote l
    | some .model => .amendModelHandle l
    | some .addModule => .addModule l
    | some .dropModule => .dropModule l
    | some .present => .amendPresentFlag l
    | none => .amendPriority l
  | .bind =>
    match readAll readBindBody q.body with
    | some (h, _) => if h = Handle.null then .unbindBay l else .bindBay l
    | none => .bindBay l
  | .start => .start l
  | .resume => .resume l
  | .abort => .abort l
  | .release => .release l
  | .take => .take l
  | .createModel => .createModel l
  | .editModel => .editModel l
  | .activate => .activate l
  | .revise => .revise l
  | .discard => .discard l
  | .setBudget => .setBudget l
  | .setFeedWindow => .setFeedWindow l
  | .bankStatus => .bankStatus l
  | .stationStatus => .stationStatus l
  | .reset => .reset l

/-- R188: the pending request of a link that does not wait. -/
def requestDue (s : State) (l : Link) : Option Instr :=
  match (s.link l).request with
  | some q => onlyIf (q.waiting = none) (requestCommand q l)
  | none => none

/-- R159: the load link is free and has a turn to take. -/
def turnDue (s : State) : Option Instr :=
  onlyIf (s.arb.turn = none && (s.nextRequest.isSome || s.nextPoll.isSome)) .linkTurn

/-- R189, section 11.7: the last byte of the console answer has left at 11.52 bytes a ms, its start
byte included (log 25). -/
def answerSentDue (s : State) : Option Instr :=
  match s.consoleLink.unread with
  | some a => onlyIf (a.consoleFrame.length * 100 ≤ (s.now - a.formed) * 1152) .answerSent
  | none => none

/-- The internal step that the block takes next at the present tick, if one is due (log 2). -/
def due (s : State) : Option Instr :=
  (List.finRange 6).findSome? s.messageDue
  <|> s.takeDue
  <|> (List.finRange 6).findSome? s.evaluationDue
  <|> (List.finRange 24).findSome? s.bayDue
  <|> (List.finRange 6).findSome? s.stepTimerDue
  <|> (List.finRange 8).findSome? s.exchangeDue
  <|> s.stationDue
  <|> s.requestDue .executive
  <|> s.requestDue .console
  <|> s.turnDue
  <|> s.answerSentDue

/-- 1 ms passes (log 1). -/
def tick (s : State) : State := s.passTo (s.now + 1)

end State

/-- What the block does when no command waits. -/
def idle (s : State) : Result :=
  if s.held then .next s.tick
  else match s.ownWork with
    | some t => .next t
    | none =>
      match s.due with
      | some c => exec c s
      | none => .next s.tick

end Sys2Proof.Machine
end

