-- ==== Sys2Proof/Machine/Step.lean ====
section
/-! DEFINITION. One step of the SX-412: the command at the front of the queue, or the block's own activity. -/

namespace Sys2Proof.Machine

/-- The command at the front of the queue is executed with the rest of the queue; on an empty queue
the block goes on by itself (log 1). -/
def step (s : State) : Host.Outcome State Fault Refusal :=
  match s.pending with
  | c :: rest => exec c { s with pending := rest }
  | [] => idle s

/-- The command that a word spells is put at the front of the queue. The table gives no bits, so no
word spells one (log 8). -/
def State.withFetchWord (s : State) (nbits w : Nat) : State :=
  match decodeTableWord nbits w with
  | some c => { s with pending := c :: s.pending }
  | none => s

end Sys2Proof.Machine
end

