-- ==== Sys2Proof/Safety.lean ====
section
/-! DEFINITION. What a safe run keeps, and the words in which the statements speak of requests, handles and links. -/

namespace Sys2Proof.Machine

/-! ### Requests, handles and answers -/

/-- R188: the owner may serve the pending request `q` of link `l`: no reset is held, its code is the
one named, and it does not already wait. -/
def State.Serving (s : State) (l : Link) (code : ReqCode) (q : Request) : Prop :=
  s.held = false ∧ (s.link l).request = some q ∧ q.code = code ∧ q.waiting = none

/-- R16: checks 1 to 5 pass for a shelf handle, and the record it names matches its integrity code
(R17). -/
def State.Resolves (s : State) (h : Handle) (i : SlotIx) (r : ShelfRecord) : Prop :=
  h ≠ Handle.null ∧ h = s.handleOf i ∧ i.val < s.straps.table ∧ s.record i = some r ∧
    r.intact = true

/-- R16, R21: all seven checks pass for a request that needs the record's guard level. -/
def State.Permitted (s : State) (q : Request) (h : Handle) (i : SlotIx) (r : ShelfRecord) : Prop :=
  s.Resolves h i r ∧ r.state ≠ .doubtful ∧ q.tier ≤ r.guardLevel

/-- R36: a model handle resolves to an in-use descriptor that matches its integrity code. -/
def State.ResolvesModel (s : State) (h : Handle) (m : ModelIx) (x : Model) : Prop :=
  h = s.modelHandleOf m ∧ s.model m = some x ∧ x.intact = true

/-- R188, R189: the link after the pending request `q` has been answered. -/
def State.answeredLink (s : State) (l : Link) (q : Request) (c : Code) (body : List Byte) :
    LinkState :=
  match l with
  | .executive =>
    { s.execLink with request := none, unread := some ⟨q.tag, c, false, body, s.now⟩ }
  | .console =>
    { request := none, unread := some ⟨q.tag, c, s.consoleLink.overrun, body, s.now⟩,
      overrun := false }

/-- The pending request `q` of link `l` is answered with a code and a body, and the other link does
not change. -/
def State.Answers (s t : State) (l : Link) (q : Request) (c : Code) (body : List Byte) : Prop :=
  t.link l = s.answeredLink l q c body ∧ t.link (otherLink l) = s.link (otherLink l)

/-- Every slot but one keeps its record and generation. -/
def State.OtherSlotsKept (s t : State) (i : SlotIx) : Prop := ∀ j, j ≠ i → t.slot j = s.slot j

/-- The state after a refusal: only the link that asked has changed. -/
def State.Refused (s t : State) (l : Link) (q : Request) (c : Code) : Prop :=
  s.Answers t l q c [] ∧ t = { s with execLink := t.execLink, consoleLink := t.consoleLink }

/-- The pending request `q` of link `l` is refused by the command `c` that serves it, and nothing else
changes. -/
def State.Refuses (s : State) (c : Instr) (l : Link) (q : Request) (o : Code) : Prop :=
  ∃ t, exec c s = .next t ∧ s.Refused t l q o

/-- R35: the model request `q` of link `l` is refused by the command `c` that serves it with an answer that
carries the fields of the model `x` named by handle `h`, and nothing else changes. -/
def State.RefusesModel (s : State) (c : Instr) (l : Link) (q : Request) (h : Handle) (x : Model)
    (o : Code) : Prop :=
  ∃ t, exec c s = .next t ∧
    s.Answers t l q o (h.bytes ++ [byteOf x.state.code] ++ x.name ++
      [byteOf x.revision, byteOf x.refCount]) ∧
    t = { s with execLink := t.execLink, consoleLink := t.consoleLink }

/-- R24: from `s` the record `r` of slot `i` has been found to mismatch its code: it is DOUBTFUL, out of the
start queue and listed for attention, and no other record and no model has changed. -/
def State.RecordDoubted (s t : State) (i : SlotIx) (r : ShelfRecord) : Prop :=
  ∃ r', t.slot i = ⟨(s.slot i).gen, some r'⟩ ∧ r'.intact = true ∧
    r' = { r with state := .doubtful, hold := none, engaged := none, code := r'.code } ∧
    s.OtherSlotsKept t i ∧ t.store.queue = s.store.queue.filter (· ≠ i) ∧
    (∃ y ∈ t.store.attention, y.handle = s.handleOf i ∧ y.reasons.doubt = true) ∧
    t.models = s.models

/-- R46: from `s` the model `x` of slot `m` has been found to mismatch its code: it is DOUBTFUL with its
reference count rebuilt, and its QUEUED records are HELD with reason MODEL_DOUBT. -/
def State.ModelDoubted (s t : State) (m : ModelIx) (x : Model) : Prop :=
  (∃ y, t.modelSlot m = ⟨(s.modelSlot m).gen, some y⟩ ∧ y.intact = true ∧
    y = { x with state := .doubtful, refCount := s.namingCount m, code := y.code }) ∧
  (∀ n, n ≠ m → t.modelSlot n = s.modelSlot n) ∧
  ∀ i r, s.record i = some r →
    (r.model = s.modelHandleOf m → r.state = .queued →
      (t.record i).map (·.state) = some .held ∧
      (t.record i).bind (·.hold) = some .modelDoubt) ∧
    (r.model ≠ s.modelHandleOf m ∨ r.state ≠ .queued → t.slot i = s.slot i)

/-- R44: the command `c` needs the model `x` of slot `m` to be ACTIVE. It is refused with MODEL_NOT_ACTIVE when
the model is not, a model already DOUBTFUL whatever its code among them (log 32), and when the read here
finds a mismatch, which makes the model DOUBTFUL. -/
def State.NeedsActive (s : State) (c : Instr) (l : Link) (q : Request) (m : ModelIx) (x : Model) :
    Prop :=
  (x.intact = true → x.state ≠ .active → s.Refuses c l q .modelNotActive) ∧
  (x.intact = false → x.state = .doubtful →
    (∀ i r, s.record i = some r → r.model = s.modelHandleOf m → r.state ≠ .queued) →
    s.Refuses c l q .modelNotActive) ∧
  (x.intact = false → x.state ≠ .doubtful →
    ∃ t, exec c s = .next t ∧ s.Answers t l q .modelNotActive [] ∧ s.ModelDoubted t m x)

/-- R19: a carried model handle that fails one of checks 1 to 5 of R16 refuses the command `c` with the code of
the first that fails. -/
def State.NeedsModel (s : State) (c : Instr) (l : Link) (q : Request) (k : Handle) : Prop :=
  (k = Handle.null → s.Refuses c l q .nullHandle) ∧
  (k ≠ Handle.null → k.table = .shelf → s.Refuses c l q .wrongTable) ∧
  (k.table = .model → 16 ≤ k.index.val → s.Refuses c l q .outOfRange) ∧
  ∀ m : ModelIx, k.table = .model → m.val = k.index.val →
    (s.model m = none → k.gen = (s.modelSlot m).gen → s.Refuses c l q .absent) ∧
    (k.gen ≠ (s.modelSlot m).gen → s.Refuses c l q .stale)

/-- The command that a step runs: the one at the front of the queue, or on an empty queue the internal step
that is due (log 2). -/
def State.Runs (s : State) (c : Instr) : Prop :=
  s.pending.head? = some c ∨
    (s.pending = [] ∧ s.held = false ∧ s.ownWork = none ∧ s.due = some c)

/-! ### Time, engines and banks in what a command does -/

/-- The time base has passed to tick `n`, or stayed when `n` was not ahead (log 5); a turn of the load
link does not outlast its tick (R158). -/
def State.PassedTo (s t : State) (n : Nat) : Prop :=
  t.now = max s.now n ∧ (n ≤ s.now → t.arb.turn = s.arb.turn) ∧ (s.now < n → t.arb.turn = none)

/-- R112, R117: an engine works on a load step with the copy `c` and at least one bank, and holds
neither a verdict nor a stop cause. -/
def State.OnLoad (s : State) (e : EngineIx) (c : WorkingCopy) : Prop :=
  (s.engine e).copy = some c ∧ ((s.engine e).phase = .load ∨ (s.engine e).phase = .watch) ∧
    (s.engine e).verdict = none ∧ (s.engine e).stop = none ∧ (s.engine e).grant ≠ []

/-- R112, R117: an engine works on a load step with the copy `c`, with banks or with the empty grant of a step
level of 0, and holds neither a verdict nor a stop cause. -/
def State.OnStep (s : State) (e : EngineIx) (c : WorkingCopy) : Prop :=
  (s.engine e).copy = some c ∧ ((s.engine e).phase = .load ∨ (s.engine e).phase = .watch) ∧
    (s.engine e).verdict = none ∧ (s.engine e).stop = none

/-- R115: from `s` the engine has entered UNLOAD: its watch is closed, it keeps its copy and its banks,
every bank is at level 0, SET 0 is asked for every bank whose commanded level was not 0, and no other
engine has changed. An engine whose grant was complete at this tick with no SET sent has its SETs taken
back instead (R119, log 17). -/
def State.Unloads (s t : State) (e : EngineIx) : Prop :=
  (t.engine e).phase = .unload ∧ (t.engine e).watch = false ∧
    (t.engine e).copy = (s.engine e).copy ∧
    (t.engine e).grant.map (·.bank) = (s.engine e).grant.map (·.bank) ∧
    (∀ g ∈ (s.engine e).grant, (t.bank g.bank).level = 0 ∧
      ((s.bank g.bank).level ≠ 0 → (s.engine e).justGranted t.now = false →
        ⟨g.bank, .set 0, false⟩ ∈ t.arb.asked)) ∧
    ∀ f, f ≠ e → t.engine f = s.engine f

/-- R115, R116: from `s` the engine has closed its step with an outcome: it is FREE, its close is sent to the
record store and its reservation is released. -/
def State.Closes (s t : State) (e : EngineIx) (c : WorkingCopy) (o : StepOutcome)
    (value : Option Nat) (cause : Option DetectCause) : Prop :=
  t.engines = s.engines.put e Engine.free ∧
    t.outbox = s.outbox.put e (s.outbox.get e ++
      [.close c.handle c.index c.kind o value cause c.attempt false]) ∧
    t.feed.reservations = s.feed.reservations.filter (·.engine ≠ e)

/-- R113: from `s` the engine has reached a verdict: it unloads its banks with it, or, holding none, closes. -/
def State.Reaches (s t : State) (e : EngineIx) (c : WorkingCopy) (v : Verdict) : Prop :=
  ((s.engine e).grant ≠ [] →
    s.Unloads t e ∧ (t.engine e).verdict = some v ∧ t.outbox = s.outbox) ∧
  ((s.engine e).grant = [] → s.Closes t e c v.outcome v.value v.cause)

/-- R118: from `s` the engine has taken a stop cause: it unloads its banks with it, or, holding none, closes. -/
def State.StopsWith (s t : State) (e : EngineIx) (c : WorkingCopy) (why : StopCause) : Prop :=
  ((s.engine e).grant ≠ [] →
    s.Unloads t e ∧ (t.engine e).stop = some why ∧ t.outbox = s.outbox) ∧
  ((s.engine e).grant = [] → s.Closes t e c why.outcome none none)

/-- R76: a bay in service that is bound to a record by its handle, with its seat up, the seat-lost mark clear
and the re-arm timer stopped. -/
def State.SeatedAt (s : State) (b : BayIx) (h : Handle) : Prop :=
  b.val < s.straps.bays ∧ (s.bay b).binding = some h ∧ (s.bay b).seated = true ∧
    (s.bay b).seatLost = false ∧ (s.bay b).rearm = none

/-- R54: a LOOKUP that waits on a link for the record with handle `h` has been answered, at the tick now
reached, with the record `r` as it stands and extract flag 0. -/
def State.LookupsCompleted (s t : State) (h : Handle) (r : ShelfRecord) : Prop :=
  ∀ l q w, (s.link l).request = some q → q.waiting = some w → w.handle = h →
    t.link l = ({ s with now := t.now } : State).answeredLink l q .ok
      (h.bytes ++ [flagByte (r.state = .doubtful)] ++ r.bytes ++ [r.code] ++ [0x00#8])

/-- R84, R109: engine `e` is engaged on the RUNNING record `r` of slot `i`, bound to bay `b`. -/
def State.EngagedOn (s : State) (e : EngineIx) (i : SlotIx) (r : ShelfRecord) (b : BayIx) : Prop :=
  (s.bay b).binding = some (s.handleOf i) ∧ s.record i = some r ∧ r.state = .running ∧
    r.engaged = some e ∧ (s.engine e).phase ≠ .free ∧
    ((s.engine e).copy.map (·.handle)) = some (s.handleOf i)

/-- R158, R160: the POLL of bank `b` in the present turn awaits its answer, and the exchange `x` with
the bank is open. -/
def State.Polled (s : State) (b : BankIx) (x : Exchange) : Prop :=
  s.held = false ∧ s.awaits b = true ∧ s.exchange b = some x

/-- R158, R159: the exchange with a bank is closed and its poll is over; no other exchange has changed. -/
def State.ExchangeClosed (s t : State) (b : BankIx) : Prop :=
  t.exchange b = none ∧ (∀ c, c ≠ b → t.exchange c = s.exchange c) ∧
    t.arb.turn = s.arb.turn.map fun u => { u with awaiting := false }

/-- R159 items 1 and 2: a queued request `x`, behind the requests `pre`, may be sent: its bank has no open
exchange and no older request queued. -/
def State.Eligible (s : State) (pre : List Asked) (x : Asked) : Prop :=
  s.exchange x.bank = none ∧ ∀ y ∈ pre, y.bank ≠ x.bank

/-! ### The items of ACTIVATE (R39) -/

/-- R39 item 25: the step at index `k` breaks the pairing: a TRIP step with no RESTART step after it, or a
RESTART step with no TRIP step before it. -/
def PairingBreaks (plan : List PlanStep) (k : Nat) : Prop :=
  (∃ lv, plan[k]? = some (.trip lv) ∧ plan[k + 1]? ≠ some .restart) ∨
  (plan[k]? = some .restart ∧ ∀ n lv, k = n + 1 → plan[n]? ≠ some (.trip lv))

/-- R39: the descriptor passes an item of the table. An item that compares fields says nothing while one
of them is unset: an earlier item asks for the field. -/
def Model.Passes (x : Model) : Nat → Prop
  | 1 => x.params.mRated ≠ none
  | 2 => x.params.vNom ≠ none
  | 3 => x.params.iMod ≠ none
  | 4 => x.params.vCollapse ≠ none
  | 5 => ∀ a b, x.params.vCollapse = some a → x.params.vNom = some b → a < b
  | 6 => x.params.vGood ≠ none
  | 7 => x.params.tMin ≠ none ∧ x.params.tMax ≠ none
  | 8 => ∀ a b, x.params.tMin = some a → x.params.tMax = some b → a < b
  | 9 => x.params.restartMode ≠ none
  | 10 => x.params.restartWindow ≠ none
  | 11 => x.params.latchObserve ≠ none ∨ x.params.restartMode = some .hiccup
  | 12 => x.params.pCap ≠ none
  | 13 => 2 ≤ x.curve.length ∧ x.curve.length ≤ 6
  | 14 => ∀ (n : Nat) a b, x.curve[n]? = some a → x.curve[n + 1]? = some b → a.temp < b.temp
  | 15 => ∀ c, x.params.pCap = some c → ∀ k ∈ x.curve, k.power ≤ c
  | 16 => x.params.vKnee ≠ none ∧ x.params.vMin ≠ none
  | 17 => ∀ a b, x.params.vMin = some a → x.params.vKnee = some b → a < b
  | 18 => x.params.tolAbs ≠ none ∧ x.params.tolPpt ≠ none
  | 19 => x.params.effPpt ≠ none
  | 20 => x.params.overPpt ≠ none
  | 21 => x.params.settleMs ≠ none
  | 22 => x.params.window ≠ none
  | 23 => x.params.drift ≠ none
  | 24 => x.plan ≠ []
  | 25 => ∀ k, ¬PairingBreaks x.plan k
  | _ => True

/-- R39: the index that goes with an item that fails: the knot count for item 13, the number of the first
failing knot, from 1 (log 14), for items 14 and 15, 0 for item 24, the index of the first failing step
for item 25, and none for another item. -/
def Model.FailsAt (x : Model) (item : Nat) (index : Option Nat) : Prop :=
  match item with
  | 13 => index = some x.curve.length
  | 14 => ∃ n a b, index = some (n + 2) ∧ x.curve[n]? = some a ∧ x.curve[n + 1]? = some b ∧
      b.temp ≤ a.temp ∧ ∀ j c d, j < n → x.curve[j]? = some c → x.curve[j + 1]? = some d →
        c.temp < d.temp
  | 15 => ∃ n k c, index = some (n + 1) ∧ x.params.pCap = some c ∧ x.curve[n]? = some k ∧
      c < k.power ∧ ∀ (j : Nat) m, j < n → x.curve[j]? = some m → m.power ≤ c
  | 24 => index = some 0
  | 25 => ∃ k, index = some k ∧ PairingBreaks x.plan k ∧ ∀ j, j < k → ¬PairingBreaks x.plan j
  | _ => index = none

/-! ### What every step keeps -/

/-- R14: every generation lies in 1 to 1023. -/
def State.GenerationsInRange (s : State) : Prop :=
  (∀ i, 1 ≤ (s.slot i).gen ∧ (s.slot i).gen ≤ 1023) ∧
    ∀ m, 1 ≤ (s.modelSlot m).gen ∧ (s.modelSlot m).gen ≤ 1023

/-- R23, R44: every stored integrity code matches its contents. -/
def State.CodesMatch (s : State) : Prop :=
  (∀ i r, s.record i = some r → r.intact = true) ∧ ∀ m x, s.model m = some x → x.intact = true

/-- R3, R13, R84: the start queue holds exactly the QUEUED records, each once; a record names an
engaged engine exactly when it is RUNNING and a hold reason exactly when it is HELD. -/
def State.LifecycleHolds (s : State) : Prop :=
  s.store.queue.Nodup ∧
  (∀ i, i ∈ s.store.queue ↔ (s.record i).map (·.state) = some .queued) ∧
  (∀ i r, s.record i = some r →
    (r.engaged.isSome = true ↔ r.state = .running) ∧ (r.hold.isSome = true ↔ r.state = .held))

/-- R104: no record of the start queue ranks before one that stands ahead of it. -/
def State.QueueOrdered (s : State) : Prop :=
  s.store.queue.Pairwise fun i j => s.queueBefore j i = false

/-- R79, R83: a record's bay field names a bay exactly when the bay's binding names the record; a
binding names a record with its present handle; a STAGED record has no bay. -/
def State.BindingsAgree (s : State) : Prop :=
  (∀ i b, (s.record i).bind (·.bay) = some b ↔ (s.bay b).binding = some (s.handleOf i)) ∧
  (∀ b h, (s.bay b).binding = some h → h = s.handleOf h.index) ∧
  ∀ i r, s.record i = some r → r.state = .staged → r.bay = none

/-- R191: the attention list holds only in-use records, each at most once. -/
def State.AttentionSound (s : State) : Prop :=
  (s.store.attention.map (·.handle)).Nodup ∧
  ∀ x ∈ s.store.attention,
    x.handle = s.handleOf x.handle.index ∧ (s.record x.handle.index).isSome = true

/-- R5, R42: every record names an in-use model, and a model's reference count is the number of
records naming it. -/
def State.RefCountsAgree (s : State) : Prop :=
  (∀ i r, s.record i = some r → ∃ m, r.model = s.modelHandleOf m ∧ (s.model m).isSome = true) ∧
  ∀ m x, s.model m = some x → x.refCount = s.namingCount m

/-- R173, R174: the guard is at most the budget, the budget at most 60000, and the window holds a
recovery band. -/
def State.FeedSettingsInRange (s : State) : Prop :=
  s.feed.guard ≤ s.feed.budget ∧ s.feed.budget ≤ 60000 ∧ s.feed.low + 100 ≤ s.feed.high ∧
    s.feed.high ≤ 6000

/-- R4: no two in-use records carry one serial. -/
def State.SerialsDistinct (s : State) : Prop :=
  ∀ i j r q, s.record i = some r → s.record j = some q → r.serial = q.serial → i = j

/-- R10: the results of every record stand in ascending step index, one entry for an index. -/
def State.ResultsSorted (s : State) : Prop :=
  ∀ i r, s.record i = some r → r.results.Pairwise fun a b => a.index < b.index

/-- R9, R42: no record names a DRAFT model, and the cursor of a PASSED record is the plan length. -/
def State.PlansHold (s : State) : Prop :=
  ∀ i r m x, s.record i = some r → r.model = s.modelHandleOf m → s.model m = some x →
    x.state ≠ .draft ∧ (r.state = .passed → r.cursor = x.plan.length)

/-- R175: the total is the sum of the reservations held. -/
def State.TotalIsTheSum (s : State) : Prop :=
  s.feed.total = (s.feed.reservations.map (·.amount)).sum

/-- R162, R176: in neither wait list does an entry rank before one that stands ahead of it. -/
def State.WaitListsOrdered (s : State) : Prop :=
  (s.feed.waits.Pairwise fun x y => FeedWait.before y x = false) ∧
    s.arb.waits.Pairwise fun x y => BankWait.before y x = false

/-- R156: a bank that is OFFLINE, IDLE or CONNECTING names no bay and no engine, and a CONNECTED bank names
one of each. -/
def State.BanksSound (s : State) : Prop :=
  ∀ b, ((s.bank b).state = .offline ∨ (s.bank b).state = .idle ∨ (s.bank b).state = .connecting →
      (s.bank b).bay = none ∧ (s.bank b).engine = none) ∧
    ((s.bank b).state = .connected → (s.bank b).bay.isSome = true ∧ (s.bank b).engine.isSome = true)

/-- R108: an engine in FREE holds nothing, and another holds a working copy. One in UNLOAD has the verdict or
stop cause that its outcome comes from. Before LOAD no bank is held, no step timer runs and detection is
not armed, and only an engine in RESERVE with a DERATE step awaits the evaluator, with no submission made. -/
def Engine.Sound (en : Engine) (submitted : Prop) : Prop :=
  (en.phase = .free → en = Engine.free) ∧
  (en.phase ≠ .free → en.phase ≠ .close ∧ en.copy.isSome = true) ∧
  (en.phase = .unload → en.verdict.isSome = true ∨ en.stop.isSome = true) ∧
  (∀ v, en.verdict = some v → v.outcome ≠ .doubt) ∧
  (en.evalAsked = true → en.phase = .reserve ∧ ¬submitted ∧
    ∃ c p, en.copy = some c ∧ c.params = .derate p) ∧
  (en.phase = .reserve ∨ en.phase = .acquire → en.grant = [] ∧ en.detection ≠ .armed ∧
    en.tripFrom = none ∧ en.holdFrom = none ∧ en.settleFrom = none ∧ en.latchFrom = none ∧
    en.restartFrom = none ∧ en.awaitRearm = false)

/-- R108: the engines and the lists that name them agree. The feed wait list names engines in RESERVE, the
bank wait list engines in ACQUIRE that wait, each once, and the request in service, until it has failed,
an engine in ACQUIRE whose request is connecting, so that it stands in no bank wait. Every RUNNING
record names an engine that holds it, or one whose close of it is
still to be served (R116, R122). -/
def State.EnginesSound (s : State) : Prop :=
  (∀ e, (s.engine e).Sound (∃ w ∈ s.feed.waits, w.engine = e)) ∧
  (∀ w ∈ s.feed.waits, (s.engine w.engine).phase = .reserve) ∧
  (∀ w ∈ s.arb.waits, (s.engine w.engine).phase = .acquire ∧
    (s.engine w.engine).bankReq = .waiting) ∧
  (s.arb.waits.map (·.engine)).Nodup ∧
  (∀ v, s.arb.service = some v →
    (v.status = .active → (s.engine v.engine).phase = .acquire ∧
      (s.engine v.engine).bankReq = .connecting) ∧
    (v.status = .withdrawn → (s.engine v.engine).phase = .acquire ∧
      (s.engine v.engine).bankReq = .connecting ∧ (s.engine v.engine).stop.isSome = true)) ∧
  ∀ i r, s.record i = some r → r.state = .running → ∃ e, r.engaged = some e ∧
    (((s.engine e).phase ≠ .free ∧ ((s.engine e).copy.map (·.handle)) = some (s.handleOf i) ∧
        (s.engine e).stop ≠ some .doubt) ∨
      ∃ m ∈ s.outbox.get e, ∃ n k o v c a late,
        m = .close (s.handleOf i) n k o v c a late ∧ o ≠ .doubt)

/-- R156: the engine that a CONNECTED bank in service names holds the bank in its grant, or is the engine
whose request in service has chosen it. -/
def State.BanksHeld (s : State) : Prop :=
  ∀ b e, b.val < s.straps.banks → (s.bank b).state = .connected → (s.bank b).engine = some e →
    (∃ g ∈ (s.engine e).grant, g.bank = b) ∨
      ∃ v, s.arb.service = some v ∧ v.status = .active ∧ v.engine = e ∧ b ∈ v.chosen

/-- A safe state: the invariants of the tables and of the settings hold in it. A safe run starts in one and
goes from safe state to safe state; `State.reset` is one. -/
def State.Safe (s : State) : Prop :=
  s.GenerationsInRange ∧ s.CodesMatch ∧ s.LifecycleHolds ∧ s.BindingsAgree ∧ s.AttentionSound ∧
    s.RefCountsAgree ∧ s.FeedSettingsInRange

end Sys2Proof.Machine
end

