-- ==== Sys2Proof/Certificates/Slice0/Obligations.lean ====
section
/-! DEFINITION. The statements for the provers. -/

open Sys2Proof Sys2Proof.Machine

/-! ### The queue, the time base and resets -/

/-- The command at the front of the queue is executed on the state with the rest of the queue. On an empty
queue, by the model's choice (logs 1, 2 and 37), an engine or the supervisor does its own next work, or
the block takes the internal step that is due, and 1 ms passes when there is neither or when a reset is
held. -/
def Obligations.StepRunsFrontCommand : Prop :=
  (∀ (c : Instr) (s : State) (rest : List Instr), s.pending = c :: rest →
    step s = exec c { s with pending := rest }) ∧
  ∀ s : State, s.pending = [] →
    (s.held = true →
      step s = .next { s with now := s.now + 1, arb := { s.arb with turn := none } }) ∧
    (∀ t, s.held = false → s.ownWork = some t → step s = .next t) ∧
    (s.held = false → s.ownWork = none → s.due = none →
      step s = .next { s with now := s.now + 1, arb := { s.arb with turn := none } }) ∧
    (∀ c, s.held = false → s.ownWork = none → s.due = some c → step s = exec c s)

/-- No command touches the queue or turns the time base back, and only a release of reset samples the
straps. The work that the engines and the supervisor have to do at the present tick comes before a command
that lets time pass, and before a take, an evaluation and a turn of the load link; that it is a step of its
own, behind a window fault or a stop cause of the same tick, is the model's reading (log 37). -/
def Obligations.QueueTimeAndStrapsAreKept : Prop :=
  (∀ (c : Instr) (s t : State), exec c s = .next t →
    t.pending = s.pending ∧ s.now ≤ t.now ∧
    (t.straps = s.straps ∨
      ∃ pins seats indicators, c = .resetRelease pins seats indicators ∧ t.straps = pins.sample)) ∧
  ∀ s : State, s.held = false → s.settled.ownWork = none →
    (∀ c ∈ [Instr.engineTake, .linkTurn], exec c s = exec c s.settled) ∧
    (∀ e, exec (.derateEvaluation e) s = exec (.derateEvaluation e) s.settled) ∧
    ∀ c t, s.EnginesSound → exec c s = .next t → s.now < t.now → exec c s.settled = .next t

/-- POWER_ON_RESET and PIN_RESET have the same effect: every output is inactive, the links are idle and
the straps keep their values. By the model's reading (log 10) the record and model slots are already
empty then, and while the reset is held no command but a reset or its release changes anything. -/
def Obligations.ResetHoldsEverythingOff : Prop :=
  (∀ s : State, ∃ t, exec .powerOnReset s = .next t ∧ exec .pinReset s = .next t ∧
    t.held = true ∧ t.now = s.now ∧ t.straps = s.straps ∧ (∀ b, t.enableOutput b = false) ∧
    t.attentionActive = false ∧ t.answerReady = false ∧ t.arb.turn = none ∧ t.arb.asked = [] ∧
    t.consoleLink.unread = none ∧ (∀ i, t.record i = none) ∧ (∀ m, t.model m = none)) ∧
  ∀ (c : Instr) (s : State), s.held = true → c ≠ .powerOnReset → c ≠ .pinReset →
    (∀ pins seats indicators, c ≠ .resetRelease pins seats indicators) → exec c s = .next s

/-- RESET_RELEASE: the straps are sampled and every block takes its reset value. That the first sweep
stands in the exchange queue at the release is the model's reading (log 7), and so is that a release takes
effect also when no reset is held (log 28). That one release ends a power-on and a pin reset held at once is
its choice (log 42). -/
def Obligations.ReleaseGivesResetValues : Prop :=
  ∀ (pins : StrapPins) (seats indicators : BitVec 24) (s : State), ∃ t,
    exec (.resetRelease pins seats indicators) s = .next t ∧ t.held = false ∧ t.now = s.now ∧
    t.straps = pins.sample ∧ (∀ i, t.slot i = ⟨1, none⟩) ∧ (∀ m, t.modelSlot m = ⟨1, none⟩) ∧
    t.store.queue = [] ∧ t.store.attention = [] ∧ t.attentionActive = false ∧
    t.store.cursor = 0 ∧ t.store.scrubFrom = s.now ∧ t.models.cursor = 0 ∧
    t.models.scrubFrom = s.now ∧ (∀ e, t.engine e = Engine.free) ∧ (∀ e, t.outbox.get e = []) ∧
    (∀ b, b.val < pins.sample.bays →
      (t.bay b).binding = none ∧ (t.bay b).raw = seats.getLsbD b.val ∧
      (t.bay b).seated = false ∧ (t.bay b).seatLost = false ∧ (t.bay b).rearm = none ∧
      (t.bay b).debounce = (if seats.getLsbD b.val then some s.now else none) ∧
      (t.bay b).indicator = indicators.getLsbD b.val ∧ t.enableOutput b = false) ∧
    (∀ b, (t.sense b).sense = .none ∧ (t.sense b).sample = none ∧ (t.sense b).seq = none) ∧
    t.feedSense.sense = .none ∧ t.feedSense.sample = none ∧ t.feedSense.seq = none ∧
    t.execLink = ⟨none, none, false⟩ ∧ t.consoleLink = ⟨none, none, false⟩ ∧
    t.answerReady = false ∧ t.rx = none ∧
    t.feed.budget = 0 ∧ t.feed.guard = 0 ∧ t.feed.low = 3400 ∧ t.feed.high = 4600 ∧
    t.feed.window = .recovering ∧ t.feed.recoverFrom = none ∧ t.feed.outCount = 0 ∧
    t.feed.reservations = [] ∧ t.feed.total = 0 ∧ t.feed.waits = [] ∧ t.feed.overCount = 0 ∧
    t.feed.pause = 0 ∧
    (∀ w, (t.feed.admitted w).reservations = [⟨w.engine, w.amount, w.priority, 1, false⟩]) ∧
    (∀ b, t.bank b = ⟨.offline, 0, none, none, 0, none⟩) ∧ t.totalOnline = 0 ∧
    t.arb.waits = [] ∧ t.arb.service = none ∧ (∀ b, t.exchange b = none) ∧
    t.arb.asked = (t.addresses.map fun b => ⟨b, .identify, false⟩) ∧ t.arb.sweepFrom = s.now

/-! ### Invariants kept by every step -/

/-- The generations of both tables stay in 1 to 1023, and the budget, the guard and the window limits
in their ranges. -/
def Obligations.GenerationsAndSettingsStayInRange : Prop :=
  ∀ s s' : State, step s = .next s' →
    (s.GenerationsInRange → s'.GenerationsInRange) ∧ (s.FeedSettingsInRange → s'.FeedSettingsInRange)

/-- Every write recomputes the integrity code of what it wrote. -/
def Obligations.IntegrityCodesStayRight : Prop :=
  ∀ s s' : State, s.CodesMatch → step s = .next s' → s'.CodesMatch

/-- The start queue stays exactly the QUEUED records, ordered by priority and bay; engaged engine and
hold reason stay with RUNNING and HELD; serials stay distinct, and results in ascending step index. -/
def Obligations.LifecycleStays : Prop :=
  ∀ s s' : State, s.LifecycleHolds → step s = .next s' →
    s'.LifecycleHolds ∧ (s.QueueOrdered → s'.QueueOrdered) ∧
    (s.SerialsDistinct → s'.SerialsDistinct) ∧ (s.ResultsSorted → s'.ResultsSorted)

/-- Records and bays stay bound to each other. A bank that is OFFLINE, IDLE or CONNECTING stays without bay
and engine, and a CONNECTED one names both. -/
def Obligations.BindingsStayAgreed : Prop :=
  (∀ s s' : State, s.BindingsAgree → step s = .next s' → s'.BindingsAgree) ∧
  ∀ s s' : State, s.BanksSound → step s = .next s' → s'.BanksSound

/-- The attention list stays a list of in-use records, each at most once. -/
def Obligations.AttentionListStaysSound : Prop :=
  ∀ s s' : State, s.AttentionSound → step s = .next s' → s'.AttentionSound

/-- Reference counts stay equal to the number of records naming each model. With the lifecycle kept, no
record comes to name a DRAFT model, and the cursor of a PASSED record stays the plan length. -/
def Obligations.ReferenceCountsStayRight : Prop :=
  ∀ s s' : State, s.RefCountsAgree → step s = .next s' →
    s'.RefCountsAgree ∧ (s.LifecycleHolds → s.PlansHold → s'.PlansHold)

/-- `State.reset` is safe, and in it the start queue is ordered and every other invariant of the
statements holds. -/
def Obligations.ResetIsSafe : Prop :=
  State.reset.Safe ∧ State.reset.QueueOrdered ∧ State.reset.SerialsDistinct ∧
    State.reset.ResultsSorted ∧ State.reset.PlansHold ∧ State.reset.BanksSound ∧
    State.reset.TotalIsTheSum ∧ State.reset.WaitListsOrdered ∧ State.reset.EnginesSound ∧
    State.reset.BanksHeld

/-- In every step, the block's own work on an empty queue among them, the reservation total rises only
within B − G. Only a step that runs SET_BUDGET for a pending request, or a release of reset, or a power-on
or pin reset, which by the model's reading gives the reset values at once (log 10), changes B or G; in a
step that changes them the submissions that come before the change are held to B − G as it stood (log 37).
Every step keeps the total the sum of the reservations held, both wait lists in their order, the engines in
agreement with the records, the lists and the service that name them, and every CONNECTED bank held by the
engine it names. -/
def Obligations.AdmissionsStayWithinTheBudget : Prop :=
  (∀ s t : State, step s = .next t →
    (t.feed.budget = s.feed.budget ∧ t.feed.guard = s.feed.guard ∨
      (∃ l q, s.Runs (.setBudget l) ∧ s.Serving l .setBudget q) ∨
      s.Runs .powerOnReset ∨ s.Runs .pinReset ∨
      ∃ pins seats indicators, s.Runs (.resetRelease pins seats indicators)) ∧
    t.feed.total ≤ max s.feed.total
      (max (s.feed.budget - s.feed.guard) (t.feed.budget - t.feed.guard))) ∧
  ∀ s s' : State, step s = .next s' →
    (s.TotalIsTheSum → s'.TotalIsTheSum) ∧ (s.WaitListsOrdered → s'.WaitListsOrdered) ∧
    (s.EnginesSound → s'.EnginesSound ∧ (s.BanksHeld → s'.BanksHeld))

/-! ### Requests in general -/

/-- A body that does not fit its request is refused with BAD_FIELD by the record requests that carry a
handle alone, the model requests that do, and PROBE, FIND, ADMIT, AMEND, BIND, CREATE_MODEL,
EDIT_MODEL, SET_BUDGET and SET_FEED_WINDOW; TAKE, BANK_STATUS, STATION_STATUS and RESET take no body. Which
row of AMEND or BIND answers, and that a row changes nothing for the item of another row, is the
model's choice (log 11). -/
def Obligations.BadBodyIsRefused : Prop :=
  ∀ (l : Link) (s : State) (q : Request),
    (∀ code c, (code, c) ∈ [(ReqCode.lookup, Instr.lookup l), (.start, .start l),
        (.resume, .resume l), (.abort, .abort l), (.release, .release l),
        (.activate, .activate l), (.revise, .revise l), (.discard, .discard l)] →
      s.Serving l code q → readAll readHandle q.body = none →
      ∃ t, exec c s = .next t ∧ s.Refused t l q .badField) ∧
    (∀ code c, (code, c) ∈ [(ReqCode.take, Instr.take l), (.bankStatus, .bankStatus l),
        (.stationStatus, .stationStatus l), (.reset, .reset l)] →
      s.Serving l code q → q.body ≠ [] → ∃ t, exec c s = .next t ∧ s.Refused t l q .badField) ∧
    (s.Serving l .admitShelf q → readAll readAdmitBody q.body = none →
      ∃ t, exec (.admitShelf l) s = .next t ∧ s.Refused t l q .badField) ∧
    (s.Serving l .probe q → readAll readProbeBody q.body = none →
      ∃ t, exec (.probe l) s = .next t ∧ s.Refused t l q .badField) ∧
    (s.Serving l .find q → readAll readFindBody q.body = none →
      ∃ t, exec (.find l) s = .next t ∧ s.Refused t l q .badField) ∧
    (∀ item c, (item, c) ∈ [(AmendItem.priority, Instr.amendPriority l),
        (.guardLevel, .amendGuardLevel l), (.note, .amendNote l), (.model, .amendModelHandle l),
        (.addModule, .addModule l), (.dropModule, .dropModule l),
        (.present, .amendPresentFlag l)] → s.Serving l .amend q →
      (readAll readAmendBody q.body = none →
        amendItemOf q.body = none ∨ amendItemOf q.body = some item →
        ∃ t, exec c s = .next t ∧ s.Refused t l q .badField) ∧
      (∀ other, amendItemOf q.body = some other → other ≠ item → exec c s = .next s)) ∧
    (∀ c ∈ [Instr.bindBay l, .unbindBay l], s.Serving l .bind q →
      readAll readBindBody q.body = none →
      ∃ t, exec c s = .next t ∧ s.Refused t l q .badField) ∧
    (s.Serving l .createModel q → readAll readCreateBody q.body = none →
      ∃ t, exec (.createModel l) s = .next t ∧ s.Refused t l q .badField) ∧
    (s.Serving l .editModel q → readAll readEditBody q.body = none →
      ∃ t, exec (.editModel l) s = .next t ∧ s.Refused t l q .badField) ∧
    (s.Serving l .setBudget q → readAll readBudgetBody q.body = none →
      ∃ t, exec (.setBudget l) s = .next t ∧ s.Refused t l q .badField) ∧
    (s.Serving l .setFeedWindow q → readAll readWindowBody q.body = none →
      ∃ t, exec (.setFeedWindow l) s = .next t ∧ s.Refused t l q .badField)

/-- The checks of a handle, in order: the first that fails gives the outcome, and nothing else changes
when what the handle names matches its integrity code. START, RESUME, ABORT, every AMEND and BIND run all
seven checks of a record handle, RELEASE leaves out the one for a DOUBTFUL record, and LOOKUP that and the
guard level (PROBE: ProbeReportsAField). EDIT_MODEL, ACTIVATE and REVISE run the same checks on a model
handle, at tier 0, and DISCARD leaves out the one for a DOUBTFUL model. A mismatch found by the read makes
the record or the model DOUBTFUL, and the checks go on: a handle of another generation is STALE, and the
others are refused with DOUBTFUL, but for LOOKUP, which reports the doubt, and RELEASE and DISCARD, which come
to the check of the tier. -/
def Obligations.HandleChecksRunInOrder : Prop :=
  ∀ (l : Link) (s : State) (q : Request) (h : Handle) (c : Instr),
    let refusedWith := fun o : Code => ∃ t, exec c s = .next t ∧ s.Refused t l q o
    (∀ doubt guard : Bool,
      (∃ code, (code, c, doubt, guard) ∈ [(ReqCode.start, Instr.start l, true, true),
          (.resume, .resume l, true, true), (.abort, .abort l, true, true),
          (.release, .release l, false, true), (.lookup, .lookup l, false, false)] ∧
        s.Serving l code q ∧ readAll readHandle q.body = some h) ∨
      (doubt = true ∧ guard = true ∧ s.Serving l .amend q ∧
        ∃ item v, (item, c) ∈ [(AmendItem.priority, Instr.amendPriority l),
            (.guardLevel, .amendGuardLevel l), (.note, .amendNote l), (.model, .amendModelHandle l),
            (.addModule, .addModule l), (.dropModule, .dropModule l),
            (.present, .amendPresentFlag l)] ∧
          amendItemOf q.body = some item ∧ readAll readAmendBody q.body = some (h, v)) ∨
      (doubt = true ∧ guard = true ∧ c = .bindBay l ∧ s.Serving l .bind q ∧ h ≠ Handle.null ∧
        ∃ n, readAll readBindBody q.body = some (h, n)) →
      (∀ r, s.record h.index = some r → r.intact = true) →
      (h = Handle.null → refusedWith .nullHandle) ∧
      (h ≠ Handle.null → h.table = .model → refusedWith .wrongTable) ∧
      (h ≠ Handle.null → h.table = .shelf → s.straps.table ≤ h.index.val →
        refusedWith .outOfRange) ∧
      (h ≠ Handle.null → h.table = .shelf → h.index.val < s.straps.table →
        (s.record h.index = none → h.gen = (s.slot h.index).gen → refusedWith .absent) ∧
        (h.gen ≠ (s.slot h.index).gen → refusedWith .stale) ∧
        (∀ r, s.record h.index = some r → h.gen = (s.slot h.index).gen →
          (doubt = true → r.state = .doubtful → refusedWith .doubtful) ∧
          (guard = true → doubt = false ∨ r.state ≠ .doubtful → r.guardLevel < q.tier →
            refusedWith .guarded)))) ∧
    (∀ (doubt guard : Bool) (r : ShelfRecord),
      (∃ code, (code, c, doubt, guard) ∈ [(ReqCode.start, Instr.start l, true, true),
          (.resume, .resume l, true, true), (.abort, .abort l, true, true),
          (.release, .release l, false, true), (.lookup, .lookup l, false, false)] ∧
        s.Serving l code q ∧ readAll readHandle q.body = some h) ∨
      (doubt = true ∧ guard = true ∧ s.Serving l .amend q ∧
        ∃ item v, (item, c) ∈ [(AmendItem.priority, Instr.amendPriority l),
            (.guardLevel, .amendGuardLevel l), (.note, .amendNote l), (.model, .amendModelHandle l),
            (.addModule, .addModule l), (.dropModule, .dropModule l),
            (.present, .amendPresentFlag l)] ∧
          amendItemOf q.body = some item ∧ readAll readAmendBody q.body = some (h, v)) ∨
      (doubt = true ∧ guard = true ∧ c = .bindBay l ∧ s.Serving l .bind q ∧
        ∃ n, readAll readBindBody q.body = some (h, n)) →
      h ≠ Handle.null → h.table = .shelf → h.index.val < s.straps.table →
      s.record h.index = some r → r.intact = false → r.state ≠ .doubtful →
      let answered := fun (o : Code) (body : ShelfRecord → List Byte) => ∃ t r', exec c s = .next t ∧
        t.slot h.index = ⟨(s.slot h.index).gen, some r'⟩ ∧
        r' = { r with state := .doubtful, hold := none, engaged := none, code := r'.code } ∧
        r'.intact = true ∧ s.OtherSlotsKept t h.index ∧
        t.store.queue = s.store.queue.filter (· ≠ h.index) ∧
        (∃ y ∈ t.store.attention, y.handle = s.handleOf h.index ∧ y.reasons.doubt = true) ∧
        t.models = s.models ∧ t.link l = s.answeredLink l q o (body r')
      (h.gen ≠ (s.slot h.index).gen → answered .stale fun _ => []) ∧
      (h.gen = (s.slot h.index).gen →
        (doubt = true → answered .doubtful fun _ => []) ∧
        (doubt = false → guard = true → r.guardLevel < q.tier → answered .guarded fun _ => []) ∧
        (guard = false → q.tier ≤ 3 → answered .ok fun r' =>
          h.bytes ++ [0x01#8] ++ r'.bytes ++ [r'.code] ++ [0x00#8]))) ∧
    ∀ doubt : Bool,
      (∃ code, (code, c, doubt) ∈ [(ReqCode.activate, Instr.activate l, true),
          (.revise, .revise l, true), (.discard, .discard l, false)] ∧
        s.Serving l code q ∧ readAll readHandle q.body = some h) ∨
      (doubt = true ∧ c = .editModel l ∧ s.Serving l .editModel q ∧
        ∃ item, readAll readEditBody q.body = some (h, item)) →
      (∀ (m : ModelIx) (x : Model), h.table = .model → m.val = h.index.val →
        s.model m = some x → x.intact = false → x.state ≠ .doubtful →
        let refused := fun o : Code => ∃ t y, exec c s = .next t ∧ s.Answers t l q o [] ∧
          t.modelSlot m = ⟨(s.modelSlot m).gen, some y⟩ ∧ y.intact = true ∧
          y = { x with state := .doubtful, refCount := s.namingCount m, code := y.code } ∧
          (∀ n, n ≠ m → t.modelSlot n = s.modelSlot n) ∧
          (∀ i r, s.record i = some r → r.model = s.modelHandleOf m → r.state = .queued →
            (t.record i).map (·.state) = some .held ∧
            (t.record i).bind (·.hold) = some .modelDoubt) ∧
          (∀ i r, s.record i = some r → r.model ≠ s.modelHandleOf m ∨ r.state ≠ .queued →
            t.slot i = s.slot i)
        (h.gen ≠ (s.modelSlot m).gen → refused .stale) ∧
        (h.gen = (s.modelSlot m).gen →
          (doubt = true → refused .doubtful) ∧
          (doubt = false → 0 < q.tier → refused .guarded))) ∧
      (h = Handle.null → refusedWith .nullHandle) ∧
      (h ≠ Handle.null → h.table = .shelf → refusedWith .wrongTable) ∧
      (h.table = .model → 16 ≤ h.index.val → refusedWith .outOfRange) ∧
      ∀ m : ModelIx, h.table = .model → m.val = h.index.val →
        (∀ x, s.model m = some x → x.intact = true) →
        (s.model m = none → h.gen = (s.modelSlot m).gen → refusedWith .absent) ∧
        (h.gen ≠ (s.modelSlot m).gen → refusedWith .stale) ∧
        (∀ x, s.model m = some x → h.gen = (s.modelSlot m).gen →
          (doubt = true → x.state = .doubtful → refusedWith .doubtful) ∧
          (doubt = false ∨ x.state ≠ .doubtful → 0 < q.tier → refusedWith .guarded))

/-- A station or model request above tier 0 is refused with GUARDED once its body fits and, for a
model request, its handle resolves. -/
def Obligations.StationAndModelRequestsNeedTierZero : Prop :=
  ∀ (l : Link) (s : State) (q : Request), 0 < q.tier →
    (∀ code c, (code, c) ∈ [(ReqCode.bankStatus, Instr.bankStatus l),
        (.stationStatus, .stationStatus l), (.reset, .reset l)] →
      s.Serving l code q → q.body = [] → ∃ t, exec c s = .next t ∧ s.Refused t l q .guarded) ∧
    (∀ b g, s.Serving l .setBudget q → readAll readBudgetBody q.body = some (b, g) →
      ∃ t, exec (.setBudget l) s = .next t ∧ s.Refused t l q .guarded) ∧
    (∀ lo hi, s.Serving l .setFeedWindow q → readAll readWindowBody q.body = some (lo, hi) →
      ∃ t, exec (.setFeedWindow l) s = .next t ∧ s.Refused t l q .guarded) ∧
    (∀ name rev, s.Serving l .createModel q → readAll readCreateBody q.body = some (name, rev) →
      ∃ t, exec (.createModel l) s = .next t ∧ s.Refused t l q .guarded) ∧
    (∀ code c h m x, (code, c) ∈ [(ReqCode.activate, Instr.activate l), (.revise, .revise l),
        (.discard, .discard l)] →
      s.Serving l code q → readAll readHandle q.body = some h → s.ResolvesModel h m x →
      x.state ≠ .doubtful → ∃ t, exec c s = .next t ∧ s.Refused t l q .guarded) ∧
    (∀ h item m x, s.Serving l .editModel q → readAll readEditBody q.body = some (h, item) →
      s.ResolvesModel h m x → x.state ≠ .doubtful →
      ∃ t, exec (.editModel l) s = .next t ∧ s.Refused t l q .guarded)

/-! ### Record requests -/

/-- ADMIT fills the lowest FREE slot with a STAGED record and counts one reference. Otherwise it is refused
with the outcome of its first failing check: BAD_FIELD for a field out of range, the code of the check that
the carried model handle fails, MODEL_NOT_ACTIVE for a model that is not ACTIVE or found to mismatch its
code, BAD_FIELD for more entries than m_rated, DUPLICATE for a slot given twice or a serial in use,
TABLE_FULL with no FREE slot below the table limit, and GUARDED above tier 2. That this read follows the
five checks of the handle is the model's reading (log 29), and which damaged model is already DOUBTFUL its
choice (log 32). -/
def Obligations.AdmitFillsTheLowestFreeSlot : Prop :=
  (∀ (l : Link) (s : State) (q : Request) (b : AdmitBody) (m : ModelIx) (x : Model) (i : SlotIx),
    s.Serving l .admitShelf q → readAll readAdmitBody q.body = some b → b.inRange = true →
    s.ResolvesModel b.model m x → x.state = .active →
    b.modules.length ≤ x.params.mRated.getD 0 → (b.modules.map (·.slot)).Nodup →
    (∀ j r, s.record j = some r → r.serial ≠ b.serial) →
    i.val < s.straps.table → s.record i = none → (∀ j, j < i → s.record j ≠ none) →
    q.tier ≤ 2 →
    ∃ t r y, exec (.admitShelf l) s = .next t ∧ t.slot i = ⟨(s.slot i).gen, some r⟩ ∧
      r.serial = b.serial ∧ r.model = b.model ∧ r.bay = none ∧ r.state = .staged ∧
      r.hold = none ∧ r.priority = b.priority ∧ r.guardLevel = max b.guardLevel q.tier ∧
      r.note = 0 ∧ r.modules.Perm b.modules ∧ r.modules.Pairwise (fun u v => u.slot < v.slot) ∧
      r.cursor = 0 ∧ r.results = [] ∧ r.retry = 0 ∧ r.engaged = none ∧ r.intact = true ∧
      t.model m = some y ∧ y.intact = true ∧
      y = { x with refCount := x.refCount + 1, code := y.code } ∧
      (t.modelSlot m).gen = (s.modelSlot m).gen ∧
      (∀ n, n ≠ m → t.modelSlot n = s.modelSlot n) ∧ s.OtherSlotsKept t i ∧
      s.Answers t l q .ok ((s.handleOf i).bytes ++ [byteOf (max b.guardLevel q.tier)]) ∧
      t = { s with
        store := { s.store with slots := t.store.slots }
        models := { s.models with slots := t.models.slots }
        execLink := t.execLink
        consoleLink := t.consoleLink }) ∧
  ∀ (l : Link) (s : State) (q : Request) (b : AdmitBody),
    s.Serving l .admitShelf q → readAll readAdmitBody q.body = some b →
    let refused := s.Refuses (.admitShelf l) l q
    (b.inRange = false → refused .badField) ∧
    (b.inRange = true →
      s.NeedsModel (.admitShelf l) l q b.model ∧
      (∀ m x, b.model = s.modelHandleOf m → s.model m = some x →
        s.NeedsActive (.admitShelf l) l q m x) ∧
      ∀ m x, s.ResolvesModel b.model m x → x.state = .active →
        (x.params.mRated.getD 0 < b.modules.length → refused .badField) ∧
        (b.modules.length ≤ x.params.mRated.getD 0 →
          (¬(b.modules.map (·.slot)).Nodup ∨ (∃ j r, s.record j = some r ∧ r.serial = b.serial) →
            refused .duplicate) ∧
          ((b.modules.map (·.slot)).Nodup → (∀ j r, s.record j = some r → r.serial ≠ b.serial) →
            ((∀ j : SlotIx, j.val < s.straps.table → s.record j ≠ none) → refused .tableFull) ∧
            ((∃ j : SlotIx, j.val < s.straps.table ∧ s.record j = none) → 2 < q.tier →
              refused .guarded))))

/-- LOOKUP of a record that is not RUNNING answers the whole record, with extract flag 0, and changes
nothing else. A DOUBTFUL record is reported. -/
def Obligations.LookupReportsTheRecord : Prop :=
  ∀ (l : Link) (s : State) (q : Request) (h : Handle) (i : SlotIx) (r : ShelfRecord),
    s.Serving l .lookup q → readAll readHandle q.body = some h → s.Resolves h i r →
    q.tier ≤ 3 → r.state ≠ .running →
    ∃ t, exec (.lookup l) s = .next t ∧
      s.Answers t l q .ok (h.bytes ++ [flagByte (r.state = .doubtful)] ++ r.bytes ++ [r.code]
        ++ [0x00#8]) ∧
      t = { s with execLink := t.execLink, consoleLink := t.consoleLink }

/-- LOOKUP of a RUNNING record waits: the engine that holds the record returns an extract with its
phase, step, elapsed time, the bay's sample and its stop cause, and no record changes. That the extract
is formed and sent within this step is the model's reading (log 16, from file 95), and so is that the
engines' work that waits comes before it (log 37). -/
def Obligations.LookupOfARunningRecordWaits : Prop :=
  ∀ (l : Link) (s : State) (q : Request) (h : Handle) (i : SlotIx) (r : ShelfRecord)
    (e : EngineIx) (c : WorkingCopy),
    s.Serving l .lookup q → readAll readHandle q.body = some h → s.Resolves h i r →
    q.tier ≤ 3 → r.state = .running → r.engaged = some e → (s.engine e).copy = some c →
    c.handle = h → (s.engine e).phase ≠ .free → s.ownWork = none →
    ∃ t x, exec (.lookup l) s = .next t ∧
      (t.link l).request = some { q with waiting := some ⟨e, h⟩ } ∧
      (t.link l).unread = (s.link l).unread ∧ (t.link l).overrun = (s.link l).overrun ∧
      t.link (otherLink l) = s.link (otherLink l) ∧
      t.outbox.get e = s.outbox.get e ++ [.extract h l x] ∧
      (∀ f, f ≠ e → t.outbox.get f = s.outbox.get f) ∧
      x.phase = (s.engine e).phase ∧ x.index = c.index ∧ x.kind = c.kind ∧
      x.elapsed = s.now - (s.engine e).takeTick ∧ x.stop = (s.engine e).stop ∧
      x.stale = !decide ((s.sense c.bay).sense = .fresh) ∧
      x.vOut = (s.sense c.bay).sample.map (·.vOut) ∧
      x.iOut = (s.sense c.bay).sample.map (·.iOut) ∧
      x.temp = (s.sense c.bay).sample.map (·.temp) ∧
      t = { s with execLink := t.execLink, consoleLink := t.consoleLink, outbox := t.outbox }

/-- EXTRACT completes the LOOKUP that waits for it, with the record as it stands and the extract; with
none waiting the extract is dropped. -/
def Obligations.ExtractCompletesTheLookup : Prop :=
  ∀ (s : State) (e : EngineIx) (h : Handle) (l : Link) (x : Extract) (rest : List Message),
    s.held = false → s.outbox.get e = .extract h l x :: rest →
    ∃ t, exec (.extract e) s = .next t ∧ t.outbox.get e = rest ∧
      (∀ f, f ≠ e → t.outbox.get f = s.outbox.get f) ∧
      t = { s with execLink := t.execLink, consoleLink := t.consoleLink, outbox := t.outbox } ∧
      (∀ q r, (s.link l).request = some q → q.waiting = some ⟨e, h⟩ → h = s.handleOf h.index →
        s.record h.index = some r →
        s.Answers t l q .ok (h.bytes ++ [flagByte (r.state = .doubtful)] ++ r.bytes ++ [r.code]
          ++ 0x01#8 :: x.bytes)) ∧
      ((∀ q, (s.link l).request = some q → q.waiting ≠ some ⟨e, h⟩) →
        t.execLink = s.execLink ∧ t.consoleLink = s.consoleLink)

/-- PROBE answers the field selected of a record that resolves, a DOUBTFUL one included, and with valid
flag 0 the code of the first failing check otherwise: NULL_HANDLE, WRONG_TABLE, OUT_OF_RANGE, ABSENT of
a FREE slot at its own generation, and STALE of any other generation. It is never refused on a handle,
and changes nothing when the record named matches its integrity code. -/
def Obligations.ProbeReportsAField : Prop :=
  ∀ (l : Link) (s : State) (q : Request) (h : Handle) (sel : Selector),
    s.Serving l .probe q → readAll readProbeBody q.body = some (h, sel) →
    (∀ i r, s.Resolves h i r → q.tier ≤ 3 →
      ∃ t, exec (.probe l) s = .next t ∧
        s.Answers t l q .ok (0x01#8 :: (match sel with
          | .state => [byteOf r.state.code]
          | .bay => optBytes (fun b => [byteOf b.val]) r.bay
          | .cursor => [byteOf r.cursor]
          | .lastOutcome => optBytes (fun x => [byteOf x.outcome.code]) r.results.getLast?
          | .model => r.model.bytes
          | .priority => [byteOf r.priority]
          | .present => [byteOf r.mPresent]
          | .hold => optBytes (fun w => [byteOf w.code]) r.hold)) ∧
        t = { s with execLink := t.execLink, consoleLink := t.consoleLink }) ∧
    ((∀ r, s.record h.index = some r → r.intact = true) →
      let reports := fun c : Code => ∃ t, exec (.probe l) s = .next t ∧
        s.Answers t l q .ok [0x00#8, byteOf c.code] ∧
        t = { s with execLink := t.execLink, consoleLink := t.consoleLink }
      (h = Handle.null → reports .nullHandle) ∧
      (h ≠ Handle.null → h.table = .model → reports .wrongTable) ∧
      (h ≠ Handle.null → h.table = .shelf → s.straps.table ≤ h.index.val →
        reports .outOfRange) ∧
      (h ≠ Handle.null → h.table = .shelf → h.index.val < s.straps.table →
        (s.record h.index = none → h.gen = (s.slot h.index).gen → reports .absent) ∧
        (h.gen ≠ (s.slot h.index).gen → reports .stale)))

/-- FIND answers the first slot at or above the start index whose record's serial agrees at every
masked position and whose state is in the filter, and found flag 0 when there is none. -/
def Obligations.FindScansUpward : Prop :=
  ∀ (l : Link) (s : State) (q : Request) (f : FindBody), s.Serving l .find q →
    readAll readFindBody q.body = some f →
    let hit := fun i : SlotIx => f.start ≤ i.val ∧ i.val < s.straps.table ∧
      ∃ r, s.record i = some r ∧ f.filter.testBit r.state.code = true ∧
        ∀ p, p < 12 → f.mask.testBit p = true → p < r.serial.length → f.pattern[p]? = r.serial[p]?
    (∀ i r, s.record i = some r → hit i → (∀ j, j < i → ¬hit j) →
      ∃ t, exec (.find l) s = .next t ∧
        s.Answers t l q .ok (0x01#8 :: ((s.handleOf i).bytes ++ [byteOf r.state.code])) ∧
        t = { s with execLink := t.execLink, consoleLink := t.consoleLink }) ∧
    ((∀ i, ¬hit i) → ∃ t, exec (.find l) s = .next t ∧ s.Answers t l q .ok [0x00#8] ∧
      t = { s with execLink := t.execLink, consoleLink := t.consoleLink })

/-- AMEND of the priority writes the one field; a QUEUED record moves to the place in the start queue that
its new priority gives, and every other record keeps its place among the others. A value above 7 is refused
with BAD_FIELD. -/
def Obligations.AmendPriorityMovesTheRecord : Prop :=
  (∀ (l : Link) (s : State) (q : Request) (h : Handle) (i : SlotIx) (r : ShelfRecord) (p : Nat),
    s.Serving l .amend q → readAll readAmendBody q.body = some (h, .priority p) →
    s.Permitted q h i r → r.engaged = none → p ≤ 7 →
    ∃ t r', exec (.amendPriority l) s = .next t ∧ t.slot i = ⟨(s.slot i).gen, some r'⟩ ∧
      r' = { r with priority := p, code := r'.code } ∧ r'.intact = true ∧
      s.OtherSlotsKept t i ∧
      (r.state ≠ .queued → t.store.queue = s.store.queue) ∧
      (r.state = .queued → i ∈ t.store.queue ∧
        t.store.queue.filter (· ≠ i) = s.store.queue.filter (· ≠ i) ∧
        (s.QueueOrdered → t.QueueOrdered)) ∧
      s.Answers t l q .ok [0x00#8, byteOf p] ∧
      t = { s with
        store := { s.store with slots := t.store.slots, queue := t.store.queue }
        execLink := t.execLink
        consoleLink := t.consoleLink }) ∧
  ∀ (l : Link) (s : State) (q : Request) (h : Handle) (i : SlotIx) (r : ShelfRecord) (p : Nat),
    s.Serving l .amend q → readAll readAmendBody q.body = some (h, .priority p) →
    s.Permitted q h i r → 7 < p → s.Refuses (.amendPriority l) l q .badField

/-- A priority change of a RUNNING record reaches its engine, its reservation and its places in the two wait
lists. While no submission that waits can be admitted, and no waiting bank request can go into service, the
engine's entry in each list takes the priority and moves to the place that it gives, every other entry keeps
its place among the others, and nothing else of the feed and of the arbiter changes. A submission that
becomes the head and fits is admitted, and its engine is in ACQUIRE with its bank request still to be made
(log 37, by which the change comes behind the engines' work that waits); a bank request that becomes the
head and can be met goes into service. -/
def Obligations.AmendPriorityReachesTheEngine : Prop :=
  ∀ (l : Link) (s : State) (q : Request) (h : Handle) (i : SlotIx) (r : ShelfRecord) (p : Nat)
    (e : EngineIx) (c : WorkingCopy),
    s.Serving l .amend q → readAll readAmendBody q.body = some (h, .priority p) →
    s.Permitted q h i r → r.state = .running → r.engaged = some e →
    (s.engine e).copy = some c → c.handle = h → (s.engine e).phase ≠ .free → p ≤ 7 →
    s.ownWork = none → (s.feed.waits.map (·.engine)).Nodup → (s.arb.waits.map (·.engine)).Nodup →
    let common := fun t : State => (∃ r', t.record i = some r' ∧
        r' = { r with priority := p, code := r'.code } ∧ r'.intact = true) ∧
      (∀ f, f ≠ e → t.engine f = s.engine f) ∧ s.OtherSlotsKept t i ∧
      t.store.queue = s.store.queue ∧ t.store.attention = s.store.attention ∧
      t.outbox = s.outbox ∧ t.bays = s.bays ∧ t.models = s.models ∧
      s.Answers t l q .ok [0x00#8, byteOf p]
    let held := s.feed.reservations.map fun x =>
      if x.engine = e then { x with priority := p } else x
    let idleSum := ((s.addresses.filter fun b => (s.bank b).state = .idle).map
      fun b => (s.bank b).cap).sum
    (s.feed.window ≠ .normal ∨
        (∀ w ∈ s.feed.waits, s.feed.budget - s.feed.guard < s.feed.total + w.amount) →
      s.arb.service ≠ none ∨ (∀ w ∈ s.arb.waits, idleSum < w.need) →
      ∃ t, exec (.amendPriority l) s = .next t ∧ common t ∧
        t.engine e = { s.engine e with copy := some { c with priority := p } } ∧
        t.feed = { s.feed with waits := t.feed.waits, reservations := held } ∧
        t.arb = { s.arb with waits := t.arb.waits } ∧
        ((∀ w ∈ s.feed.waits, w.engine ≠ e) → t.feed.waits = s.feed.waits) ∧
        (∀ w ∈ s.feed.waits, w.engine = e → { w with priority := p } ∈ t.feed.waits ∧
          t.feed.waits.length = s.feed.waits.length) ∧
        t.feed.waits.filter (·.engine ≠ e) = s.feed.waits.filter (·.engine ≠ e) ∧
        ((∀ w ∈ s.arb.waits, w.engine ≠ e) → t.arb.waits = s.arb.waits) ∧
        (∀ w ∈ s.arb.waits, w.engine = e → { w with priority := p } ∈ t.arb.waits ∧
          t.arb.waits.length = s.arb.waits.length) ∧
        t.arb.waits.filter (·.engine ≠ e) = s.arb.waits.filter (·.engine ≠ e) ∧
        (s.WaitListsOrdered → t.WaitListsOrdered)) ∧
    (∀ w v, s.feed.waits = [w, v] → v.engine = e → p < w.priority →
      s.feed.window = .normal → s.feed.total + v.amount ≤ s.feed.budget - s.feed.guard →
      s.feed.budget - s.feed.guard < s.feed.total + v.amount + w.amount →
      (∀ y ∈ s.arb.waits, y.engine ≠ e) →
      ∃ t, exec (.amendPriority l) s = .next t ∧ common t ∧
        t.engine e = { s.engine e with
          copy := some { c with priority := p }, reservation := .held v.amount
          phase := .acquire } ∧
        t.feed.waits = [w] ∧ t.feed.total = s.feed.total + v.amount ∧
        t.feed.reservations = held ++ [⟨e, v.amount, p, s.feed.nextNumber, false⟩] ∧
        t.arb = s.arb) ∧
    (∀ w v b bs, s.arb.waits = [w, v] → v.engine = e → p < w.priority →
      (∀ y ∈ s.feed.waits, y.engine ≠ e) → s.arb.service = none →
      s.chooseBanks v.need 0 s.idleBanks = some (b :: bs) →
      ∃ t, exec (.amendPriority l) s = .next t ∧ common t ∧
        t.engine e = { s.engine e with
          copy := some { c with priority := p }, bankReq := .connecting } ∧
        t.feed = { s.feed with reservations := held } ∧ t.arb.waits = [w] ∧
        t.arb.service = some ⟨e, v.need, v.bay, v.joined, b :: bs, .active⟩ ∧
        t.arb.asked = s.arb.asked ++ [⟨b, .connect v.bay, false⟩] ∧
        ∀ y, t.bank y = if y ∈ b :: bs then { s.bank y with state := .connecting } else s.bank y)

/-- AMEND of the guard level writes the larger of the value and the requester's tier, and AMEND of the note
writes the 16-bit value unchanged. A guard level above 3 is refused with BAD_FIELD. -/
def Obligations.AmendGuardLevelAndNote : Prop :=
  ∀ (l : Link) (s : State) (q : Request) (h : Handle) (i : SlotIx) (r : ShelfRecord),
    s.Serving l .amend q → s.Permitted q h i r →
    (∀ g, readAll readAmendBody q.body = some (h, .guardLevel g) → g ≤ 3 →
      ∃ t r', exec (.amendGuardLevel l) s = .next t ∧ t.slot i = ⟨(s.slot i).gen, some r'⟩ ∧
        r' = { r with guardLevel := max g q.tier, code := r'.code } ∧ r'.intact = true ∧
        s.OtherSlotsKept t i ∧ s.Answers t l q .ok [0x01#8, byteOf (max g q.tier)] ∧
        t = { s with store := { s.store with slots := t.store.slots }, execLink := t.execLink,
                     consoleLink := t.consoleLink }) ∧
    (∀ g, readAll readAmendBody q.body = some (h, .guardLevel g) → 3 < g →
      s.Refuses (.amendGuardLevel l) l q .badField) ∧
    (∀ n, readAll readAmendBody q.body = some (h, .note n) →
      ∃ t r', exec (.amendNote l) s = .next t ∧ t.slot i = ⟨(s.slot i).gen, some r'⟩ ∧
        r' = { r with note := n, code := r'.code } ∧ r'.intact = true ∧ n < 65536 ∧
        s.OtherSlotsKept t i ∧ s.Answers t l q .ok (0x02#8 :: be16 n) ∧
        t = { s with store := { s.store with slots := t.store.slots }, execLink := t.execLink,
                     consoleLink := t.consoleLink })

/-- AMEND of the model handle: cursor 0, empty results, one reference moved, and a PASSED or FAILED record
back to the state that its bay gives. It is refused with ENGAGED for a RUNNING record, with WRONG_STATE for
a QUEUED one, with the code of the check that the carried handle fails, with MODEL_NOT_ACTIVE for a model
that is not ACTIVE or found to mismatch its code, and with BAD_FIELD for more entries than m_rated. That
this read follows the five checks of the handle is the model's reading (log 29), and which damaged model is
already DOUBTFUL its choice (log 32). -/
def Obligations.AmendModelHandleMovesOneReference : Prop :=
  (∀ (l : Link) (s : State) (q : Request) (h k : Handle) (i : SlotIx) (r : ShelfRecord)
    (m n : ModelIx) (x y : Model),
    s.Serving l .amend q → readAll readAmendBody q.body = some (h, .model k) →
    s.Permitted q h i r → r.state ≠ .running → r.state ≠ .queued →
    s.ResolvesModel k n y → y.state = .active → r.modules.length ≤ y.params.mRated.getD 0 →
    r.model = s.modelHandleOf m → s.model m = some x →
    ∃ t r', exec (.amendModelHandle l) s = .next t ∧ t.slot i = ⟨(s.slot i).gen, some r'⟩ ∧
      r'.model = k ∧ r'.cursor = 0 ∧ r'.results = [] ∧ r'.intact = true ∧
      r' = { r with model := k, cursor := 0, results := [], state := r'.state, code := r'.code } ∧
      (r.state ≠ .passed → r.state ≠ .failed → r'.state = r.state) ∧
      (r.state = .passed ∨ r.state = .failed →
        (r.bay = none → r'.state = .staged) ∧
        (∀ b, r.bay = some b → r'.state = if (s.bay b).seated then .ready else .bound)) ∧
      (m = n → t.models = s.models) ∧
      (m ≠ n → ∃ x' y', t.modelSlot m = ⟨(s.modelSlot m).gen, some x'⟩ ∧
        t.modelSlot n = ⟨(s.modelSlot n).gen, some y'⟩ ∧ x'.intact = true ∧ y'.intact = true ∧
        x' = { x with refCount := x.refCount - 1, code := x'.code } ∧
        y' = { y with refCount := y.refCount + 1, code := y'.code }) ∧
      (∀ j, j ≠ m → j ≠ n → t.modelSlot j = s.modelSlot j) ∧ s.OtherSlotsKept t i ∧
      s.Answers t l q .ok (0x03#8 :: k.bytes) ∧
      t = { s with
        store := { s.store with slots := t.store.slots }
        models := { s.models with slots := t.models.slots }
        execLink := t.execLink
        consoleLink := t.consoleLink }) ∧
  ∀ (l : Link) (s : State) (q : Request) (h k : Handle) (i : SlotIx) (r : ShelfRecord),
    s.Serving l .amend q → readAll readAmendBody q.body = some (h, .model k) →
    s.Permitted q h i r →
    let refused := s.Refuses (.amendModelHandle l) l q
    (r.state = .running → refused .engaged) ∧
    (r.state = .queued → refused .wrongState) ∧
    (r.state ≠ .running → r.state ≠ .queued →
      s.NeedsModel (.amendModelHandle l) l q k ∧
      (∀ n y, k = s.modelHandleOf n → s.model n = some y →
        s.NeedsActive (.amendModelHandle l) l q n y) ∧
      ∀ n y, s.ResolvesModel k n y → y.state = .active →
        y.params.mRated.getD 0 < r.modules.length → refused .badField)

/-- ADD_MODULE inserts one entry in slot order. DROP_MODULE removes the entry of a slot, and an AMEND of
the present flag writes it in place; a slot not listed and the last entry are refused with BAD_FIELD. Each
refuses a value out of range with BAD_FIELD, then a RUNNING record with ENGAGED and a QUEUED one with
WRONG_STATE, and ADD_MODULE a slot that is listed with DUPLICATE and an entry beyond m_rated with BAD_FIELD.
That the slot of a present flag has a range is the model's choice (log 34). -/
def Obligations.ModuleListAmends : Prop :=
  (∀ (l : Link) (s : State) (q : Request) (h : Handle) (i : SlotIx) (r : ShelfRecord),
    s.Serving l .amend q → s.Permitted q h i r →
    let tested := fun (c : Instr) (inRange : Prop) =>
      (¬inRange → s.Refuses c l q .badField) ∧
      (inRange → r.state = .running → s.Refuses c l q .engaged) ∧
      (inRange → r.state = .queued → s.Refuses c l q .wrongState)
    (∀ u, readAll readAmendBody q.body = some (h, .addModule u) →
      tested (.addModule l) (u.inRange = true) ∧
      (u.inRange = true → r.state ≠ .running → r.state ≠ .queued →
        ((∃ v ∈ r.modules, v.slot = u.slot) → s.Refuses (.addModule l) l q .duplicate) ∧
        ((∀ v ∈ r.modules, v.slot ≠ u.slot) → ∀ m x, r.model = s.modelHandleOf m →
          s.model m = some x → x.params.mRated.getD 0 < r.modules.length + 1 →
          s.Refuses (.addModule l) l q .badField))) ∧
    (∀ k, readAll readAmendBody q.body = some (h, .dropModule k) →
      tested (.dropModule l) (1 ≤ k ∧ k ≤ 6)) ∧
    ∀ k p, readAll readAmendBody q.body = some (h, .present k p) →
      tested (.amendPresentFlag l) (1 ≤ k ∧ k ≤ 6)) ∧
  (∀ (l : Link) (s : State) (q : Request) (h : Handle) (i : SlotIx) (r : ShelfRecord)
    (u : ModuleEntry) (m : ModelIx) (x : Model),
    s.Serving l .amend q → readAll readAmendBody q.body = some (h, .addModule u) →
    s.Permitted q h i r → r.state ≠ .running → r.state ≠ .queued → u.inRange = true →
    (∀ v ∈ r.modules, v.slot ≠ u.slot) → r.model = s.modelHandleOf m → s.model m = some x →
    r.modules.length + 1 ≤ x.params.mRated.getD 0 →
    r.modules.Pairwise (fun a b => a.slot < b.slot) →
    ∃ t r', exec (.addModule l) s = .next t ∧ t.slot i = ⟨(s.slot i).gen, some r'⟩ ∧
      r' = { r with modules := r'.modules, code := r'.code } ∧ r'.intact = true ∧
      r'.modules.Perm (u :: r.modules) ∧ r'.modules.Pairwise (fun a b => a.slot < b.slot) ∧
      r'.mPresent = r.mPresent + (if u.present then 1 else 0) ∧ s.OtherSlotsKept t i ∧
      s.Answers t l q .ok (0x04#8 :: u.bytes) ∧
      t = { s with store := { s.store with slots := t.store.slots }, execLink := t.execLink,
                   consoleLink := t.consoleLink }) ∧
  ∀ (l : Link) (s : State) (q : Request) (h : Handle) (i : SlotIx) (r : ShelfRecord) (k : Nat),
    s.Serving l .amend q → s.Permitted q h i r → r.state ≠ .running → r.state ≠ .queued →
    1 ≤ k → k ≤ 6 →
    (readAll readAmendBody q.body = some (h, .dropModule k) →
      ((∀ v ∈ r.modules, v.slot ≠ k) ∨ r.modules.length = 1 →
        ∃ t, exec (.dropModule l) s = .next t ∧ s.Refused t l q .badField) ∧
      ((∃ v ∈ r.modules, v.slot = k) → r.modules.length ≠ 1 →
        ∃ t r', exec (.dropModule l) s = .next t ∧ t.slot i = ⟨(s.slot i).gen, some r'⟩ ∧
          r' = { r with modules := r.modules.filter (·.slot ≠ k), code := r'.code } ∧
          r'.intact = true ∧ s.OtherSlotsKept t i ∧ s.Answers t l q .ok [0x05#8, byteOf k] ∧
          t = { s with store := { s.store with slots := t.store.slots }, execLink := t.execLink,
                       consoleLink := t.consoleLink })) ∧
    (∀ p, readAll readAmendBody q.body = some (h, .present k p) →
      ((∀ v ∈ r.modules, v.slot ≠ k) →
        ∃ t, exec (.amendPresentFlag l) s = .next t ∧ s.Refused t l q .badField) ∧
      ((∃ v ∈ r.modules, v.slot = k) →
        ∃ t r', exec (.amendPresentFlag l) s = .next t ∧
          t.slot i = ⟨(s.slot i).gen, some r'⟩ ∧
          r' = { r with
            modules := r.modules.map fun v => if v.slot = k then { v with present := p } else v
            code := r'.code } ∧
          r'.intact = true ∧ s.OtherSlotsKept t i ∧
          s.Answers t l q .ok [0x06#8, byteOf k, flagByte p] ∧
          t = { s with store := { s.store with slots := t.store.slots }, execLink := t.execLink,
                       consoleLink := t.consoleLink }))

/-- BIND ties a STAGED record to a FREE bay; the state follows the debounced seat. UNBIND frees the bay; a
BOUND or READY record becomes STAGED and a HELD, PASSED or FAILED one keeps its state. BIND refuses a bay
out of service with OUT_OF_RANGE, a record that is not STAGED with WRONG_STATE and a bay that is not FREE
with BAY_OCCUPIED. UNBIND refuses a bay out of service with OUT_OF_RANGE, a FREE bay with ABSENT, a record
that is DOUBTFUL or found to mismatch its code with DOUBTFUL, one guarded above the requester's tier with
GUARDED, and a QUEUED or RUNNING one with WRONG_STATE. That the bay field in the answer of an unbind is
absent is the model's reading (log 23). -/
def Obligations.BindAndUnbind : Prop :=
  (∀ (l : Link) (s : State) (q : Request) (h : Handle) (i : SlotIx) (r : ShelfRecord) (b : BayIx),
    s.Serving l .bind q → readAll readBindBody q.body = some (h, b.val) → s.Permitted q h i r →
    b.val < s.straps.bays → r.state = .staged → (s.bay b).binding = none →
    ∃ t r' st, exec (.bindBay l) s = .next t ∧ t.slot i = ⟨(s.slot i).gen, some r'⟩ ∧
      st = (if (s.bay b).seated then RecState.ready else RecState.bound) ∧
      r' = { r with bay := some b, state := st, code := r'.code } ∧ r'.intact = true ∧
      t.bay b = { s.bay b with binding := some h, seatLost := false } ∧
      (∀ c, c ≠ b → t.bay c = s.bay c) ∧ t.enableOutput b = false ∧ s.OtherSlotsKept t i ∧
      s.Answers t l q .ok (h.bytes ++ [0x01#8, byteOf b.val] ++ [byteOf st.code]) ∧
      t = { s with store := { s.store with slots := t.store.slots }, bays := t.bays,
                   execLink := t.execLink, consoleLink := t.consoleLink }) ∧
  (∀ (l : Link) (s : State) (q : Request) (h : Handle) (n : Nat) (i : SlotIx) (r : ShelfRecord),
    s.Serving l .bind q → readAll readBindBody q.body = some (h, n) → s.Permitted q h i r →
    let refused := s.Refuses (.bindBay l) l q
    (s.straps.bays ≤ n → refused .outOfRange) ∧
    ∀ b : BayIx, b.val = n → n < s.straps.bays →
      (r.state ≠ .staged → refused .wrongState) ∧
      (r.state = .staged → (s.bay b).binding ≠ none → refused .bayOccupied)) ∧
  (∀ (l : Link) (s : State) (q : Request) (n : Nat),
    s.Serving l .bind q → readAll readBindBody q.body = some (Handle.null, n) →
    let refused := s.Refuses (.unbindBay l) l q
    (s.straps.bays ≤ n → refused .outOfRange) ∧
    ∀ b : BayIx, b.val = n → n < s.straps.bays →
      ((s.bay b).binding = none → refused .absent) ∧
      ∀ i r, (s.bay b).binding = some (s.handleOf i) → s.record i = some r →
        (r.intact = false → r.state ≠ .doubtful →
          ∃ t, exec (.unbindBay l) s = .next t ∧ s.RecordDoubted t i r ∧
            t.link l = s.answeredLink l q .doubtful []) ∧
        (r.intact = true → r.state = .doubtful → refused .doubtful) ∧
        (r.intact = true → r.state ≠ .doubtful → r.guardLevel < q.tier → refused .guarded) ∧
        (r.intact = true → q.tier ≤ r.guardLevel → r.state = .queued ∨ r.state = .running →
          refused .wrongState)) ∧
  ∀ (l : Link) (s : State) (q : Request) (i : SlotIx) (r : ShelfRecord) (b : BayIx),
    s.Serving l .bind q → readAll readBindBody q.body = some (Handle.null, b.val) →
    b.val < s.straps.bays → (s.bay b).binding = some (s.handleOf i) → s.record i = some r →
    r.intact = true → r.state ≠ .doubtful → q.tier ≤ r.guardLevel → r.state ≠ .queued →
    r.state ≠ .running →
    ∃ t r', exec (.unbindBay l) s = .next t ∧ t.slot i = ⟨(s.slot i).gen, some r'⟩ ∧
      r' = { r with bay := none, state := r'.state, code := r'.code } ∧ r'.intact = true ∧
      (r.state = .bound ∨ r.state = .ready → r'.state = .staged) ∧
      (r.state ≠ .bound → r.state ≠ .ready → r'.state = r.state) ∧
      (t.bay b).binding = none ∧ (t.bay b).seated = (s.bay b).seated ∧
      (t.bay b).raw = (s.bay b).raw ∧ (t.bay b).debounce = (s.bay b).debounce ∧
      (t.bay b).indicator = (s.bay b).indicator ∧ (∀ c, c ≠ b → t.bay c = s.bay c) ∧
      s.OtherSlotsKept t i ∧
      s.Answers t l q .ok ((s.handleOf i).bytes ++ [0x00#8] ++ [byteOf r'.state.code]) ∧
      t = { s with store := { s.store with slots := t.store.slots }, bays := t.bays,
                   execLink := t.execLink, consoleLink := t.consoleLink }

/-- START queues a seated READY, PASSED or FAILED record from cursor 0. RESUME queues a seated HELD record
with retry count 0; a cursor on a RESTART step moves back to the TRIP step before it. Each takes the place
in the start queue that its priority and bay give, and the others keep theirs among themselves. The enable
output of a seated bay is on then. START of a record in another state, RESUME of one that is not HELD, and
either of one that has to be seated and is not, are refused with WRONG_STATE, then a model that is not
ACTIVE or found to mismatch its code with MODEL_NOT_ACTIVE, and then a record with no present module with
BAD_FIELD. Which damaged model is already DOUBTFUL is the model's choice (log 32). -/
def Obligations.StartAndResumeQueueTheRecord : Prop :=
  (∀ (l : Link) (s : State) (q : Request) (h : Handle) (i : SlotIx) (r : ShelfRecord)
    (m : ModelIx) (x : Model),
    s.Serving l .start q → readAll readHandle q.body = some h → s.Permitted q h i r →
    (r.state = .ready ∨ ((r.state = .passed ∨ r.state = .failed) ∧
      ∃ b, r.bay = some b ∧ (s.bay b).seated = true)) →
    s.ResolvesModel r.model m x → x.state = .active → 0 < r.mPresent →
    ∃ t r', exec (.start l) s = .next t ∧ t.slot i = ⟨(s.slot i).gen, some r'⟩ ∧
      r' = { r with state := .queued, cursor := 0, results := [], retry := 0, code := r'.code } ∧
      r'.intact = true ∧ i ∈ t.store.queue ∧ (s.QueueOrdered → t.QueueOrdered) ∧
      t.store.queue.filter (· ≠ i) = s.store.queue.filter (· ≠ i) ∧
      t.store.attention = s.store.attention ∧ s.OtherSlotsKept t i ∧ s.Answers t l q .ok [] ∧
      (∀ b, s.SeatedAt b h → t.enableOutput b = true) ∧
      t = { s with
        store := { s.store with slots := t.store.slots, queue := t.store.queue }
        execLink := t.execLink
        consoleLink := t.consoleLink }) ∧
  (∀ (l : Link) (s : State) (q : Request) (h : Handle) (i : SlotIx) (r : ShelfRecord),
    readAll readHandle q.body = some h → s.Permitted q h i r →
    let seated := ∃ b, r.bay = some b ∧ (s.bay b).seated = true
    let tested := fun c : Instr => ∀ m x, r.model = s.modelHandleOf m → s.model m = some x →
      s.NeedsActive c l q m x ∧
      (x.intact = true → x.state = .active → r.mPresent = 0 → s.Refuses c l q .badField)
    (s.Serving l .start q →
      (r.state ≠ .ready → (r.state ≠ .passed ∧ r.state ≠ .failed) ∨ ¬seated →
        s.Refuses (.start l) l q .wrongState) ∧
      (r.state = .ready ∨ ((r.state = .passed ∨ r.state = .failed) ∧ seated) →
        tested (.start l))) ∧
    (s.Serving l .resume q →
      (r.state ≠ .held ∨ ¬seated → s.Refuses (.resume l) l q .wrongState) ∧
      (r.state = .held → seated → tested (.resume l)))) ∧
  ∀ (l : Link) (s : State) (q : Request) (h : Handle) (i : SlotIx) (r : ShelfRecord) (b : BayIx)
    (m : ModelIx) (x : Model),
    s.Serving l .resume q → readAll readHandle q.body = some h → s.Permitted q h i r →
    r.state = .held → r.bay = some b → (s.bay b).seated = true →
    s.ResolvesModel r.model m x → x.state = .active → 0 < r.mPresent →
    ∃ t r', exec (.resume l) s = .next t ∧ t.slot i = ⟨(s.slot i).gen, some r'⟩ ∧
      r' = { r with state := .queued, hold := none, retry := 0, cursor := r'.cursor,
                    code := r'.code } ∧
      (x.plan[r.cursor]? = some .restart → r'.cursor = r.cursor - 1) ∧
      (x.plan[r.cursor]? ≠ some .restart → r'.cursor = r.cursor) ∧
      r'.intact = true ∧ i ∈ t.store.queue ∧ (s.QueueOrdered → t.QueueOrdered) ∧
      t.store.queue.filter (· ≠ i) = s.store.queue.filter (· ≠ i) ∧
      s.OtherSlotsKept t i ∧ s.Answers t l q .ok [] ∧
      (s.SeatedAt b h → t.enableOutput b = true) ∧
      t = { s with
        store := { s.store with slots := t.store.slots, queue := t.store.queue }
        execLink := t.execLink
        consoleLink := t.consoleLink }

/-- ABORT of a QUEUED record holds it with reason HOST and lists it for attention: a record that joins the
list makes the attention line active and starts a pulse, and one listed already starts none. ABORT of a
RUNNING record is answered at once, and the record does not change; ABORT in another state is refused with
WRONG_STATE. An engine that holds a stop cause keeps it, and one that holds a verdict keeps the verdict and
takes ABORTED beside it. With neither, an engine in RESERVE closes with ABORTED, its submission withdrawn,
and so does one in ACQUIRE, its reservation released, which has not asked for banks (log 37) or whose
request waits or can be withdrawn at once; while a CONNECT of its request is open the withdrawal waits for
it, and the engine for the withdrawal. An engine in LOAD or WATCH unloads, or, with the empty grant of a
step level of 0, closes with ABORTED. One whose grant was complete at this tick, with no SET sent, has every
bank at level 0 and releases its reservation and its banks at once (R119; that a cause of the same tick
comes together with the completion is the model's reading, log 17). -/
def Obligations.AbortHoldsOrStops : Prop :=
  (∀ (l : Link) (s : State) (q : Request) (h : Handle) (i : SlotIx) (r : ShelfRecord),
    s.Serving l .abort q → readAll readHandle q.body = some h → s.Permitted q h i r →
    r.state ≠ .queued → r.state ≠ .running → s.Refuses (.abort l) l q .wrongState) ∧
  (∀ (l : Link) (s : State) (q : Request) (h : Handle) (i : SlotIx) (r : ShelfRecord),
    s.Serving l .abort q → readAll readHandle q.body = some h → s.Permitted q h i r →
    r.state = .queued →
    ∃ t r', exec (.abort l) s = .next t ∧ t.slot i = ⟨(s.slot i).gen, some r'⟩ ∧
      r' = { r with state := .held, hold := some .host, code := r'.code } ∧ r'.intact = true ∧
      t.store.queue = s.store.queue.filter (· ≠ i) ∧
      ((∀ y ∈ s.store.attention, y.handle ≠ h) →
        t.store.attention = s.store.attention ++ [⟨h, ⟨false, false, false, true, false⟩⟩] ∧
        t.store.pulse = (if s.straps.pulse then some s.now else s.store.pulse) ∧
        t.attentionActive = true) ∧
      ((∃ y ∈ s.store.attention, y.handle = h) → t.store.pulse = s.store.pulse ∧
        (t.attentionActive = true ↔ s.straps.pulse = false ∨ s.store.pulse ≠ none)) ∧
      s.OtherSlotsKept t i ∧ s.Answers t l q .ok [] ∧
      t = { s with store := t.store, execLink := t.execLink, consoleLink := t.consoleLink }) ∧
  ∀ (l : Link) (s : State) (q : Request) (h : Handle) (i : SlotIx) (r : ShelfRecord)
    (e : EngineIx) (c : WorkingCopy),
    s.Serving l .abort q → readAll readHandle q.body = some h → s.Permitted q h i r →
    r.state = .running → r.engaged = some e → (s.engine e).copy = some c → c.handle = h →
    let closed := fun t : State => exec (.abort l) s = .next t ∧ s.Answers t l q .ok [] ∧
      s.Closes t e c .aborted none none ∧
      t = { s with engines := t.engines, outbox := t.outbox, feed := t.feed, arb := t.arb,
                   execLink := t.execLink, consoleLink := t.consoleLink }
    let others := fun w : BankWait => w.engine ≠ e
    (∀ why, (s.engine e).phase ≠ .free → (s.engine e).stop = some why →
      ∃ t, exec (.abort l) s = .next t ∧ s.Answers t l q .ok [] ∧
        t = { s with execLink := t.execLink, consoleLink := t.consoleLink }) ∧
    (∀ v, (s.engine e).phase ≠ .free → (s.engine e).phase ≠ .close → (s.engine e).stop = none →
      (s.engine e).verdict = some v →
      ∃ t, exec (.abort l) s = .next t ∧ s.Answers t l q .ok [] ∧
        t = { s with
          engines := s.engines.put e { s.engine e with stop := some .aborted }
          execLink := t.execLink
          consoleLink := t.consoleLink }) ∧
    ((s.engine e).verdict = none → (s.engine e).stop = none →
    ((s.engine e).phase = .reserve → (∀ w ∈ s.feed.waits, w.engine = e) →
      (∀ x ∈ s.feed.reservations, x.engine ≠ e) →
      ∃ t, closed t ∧ t.feed.waits = [] ∧ t.feed.reservations = s.feed.reservations ∧
        t.feed.total = s.feed.total ∧ t.arb = s.arb) ∧
    (s.feed.waits = [] →
    ((s.engine e).phase = .acquire → (s.engine e).bankReq = .notMade →
      ∃ t, closed t ∧ t.arb = s.arb) ∧
    ((s.engine e).phase = .acquire → (s.engine e).bankReq = .waiting →
      ∃ t, closed t ∧ t.arb = { s.arb with waits := s.arb.waits.filter others }) ∧
    ((s.engine e).phase = .load ∨ (s.engine e).phase = .watch → (s.engine e).grant = [] →
      ∃ t, closed t ∧ t.arb = s.arb) ∧
    (∀ v, (s.engine e).phase = .acquire → (s.engine e).bankReq = .connecting →
      s.arb.service = some v → v.engine = e → v.status = .active →
      let opened := fun y : BankIx => (s.bank y).state = .connecting ∧ s.exchange y ≠ none
      let letGo := fun t : State => ∀ y,
        (y ∉ v.chosen ∨ opened y → t.bank y = s.bank y) ∧
        (y ∈ v.chosen → (s.bank y).state = .connecting → s.exchange y = none →
          t.bank y = { s.bank y with state := .idle } ∧ ∀ z ∈ t.arb.asked, z.bank ≠ y) ∧
        (y ∈ v.chosen → (s.bank y).state = .connected →
          t.bank y = { s.bank y with state := .releasing, engine := none } ∧
          ⟨y, .release, false⟩ ∈ t.arb.asked)
      ((∃ y ∈ v.chosen, opened y) →
        ∃ t, exec (.abort l) s = .next t ∧ s.Answers t l q .ok [] ∧ letGo t ∧
          t.arb.service = some { v with status := .withdrawn } ∧ t.feed = s.feed ∧
          t.outbox = s.outbox ∧ (∀ f, f ≠ e → t.engine f = s.engine f) ∧
          (t.engine e).phase = .acquire ∧ (t.engine e).bankReq = .connecting ∧
          (t.engine e).stop = some .aborted ∧ (t.engine e).copy = some c ∧
          (t.engine e).reservation = (s.engine e).reservation) ∧
      ((∀ y ∈ v.chosen, ¬opened y) → s.arb.waits = [] →
        ∃ t, closed t ∧ letGo t ∧ t.arb.service = none ∧ t.arb.waits = [])) ∧
    ((s.engine e).phase = .load ∨ (s.engine e).phase = .watch → (s.engine e).grant ≠ [] →
    ∃ t, exec (.abort l) s = .next t ∧ (t.engine e).stop = some .aborted ∧
      (t.engine e).verdict = none ∧ (t.engine e).phase = .unload ∧ (t.engine e).watch = false ∧
      (t.engine e).copy = some c ∧ (∀ f, f ≠ e → t.engine f = s.engine f) ∧
      t.store = s.store ∧ t.models = s.models ∧ t.bays = s.bays ∧ t.senses = s.senses ∧
      s.Answers t l q .ok [] ∧
      ((s.engine e).phase = .load → (s.engine e).granted = some s.now →
        (s.engine e).setSent = false →
        (t.engine e).releasing = true ∧ (t.engine e).reservation = .none ∧
        (∀ x ∈ t.feed.reservations, x.engine ≠ e) ∧
        ∀ g ∈ (s.engine e).grant, (t.bank g.bank).state = .releasing ∧
          (t.bank g.bank).level = 0 ∧ ⟨g.bank, .release, false⟩ ∈ t.arb.asked ∧
          ∀ x ∈ t.arb.asked, x.bank = g.bank → x.request = .release))))

/-- RELEASE of a record that is not RUNNING frees the slot, the bay whose binding names it and its places in
the lists, drops one reference and raises the generation. RELEASE of a RUNNING record is refused with
ENGAGED. That the bay is found by its binding, and not by the field of the record, is the model's choice
(log 32). -/
def Obligations.ReleaseFreesTheSlot : Prop :=
  (∀ (l : Link) (s : State) (q : Request) (h : Handle) (i : SlotIx) (r : ShelfRecord),
    s.Serving l .release q → readAll readHandle q.body = some h → s.Resolves h i r →
    q.tier ≤ r.guardLevel → r.state = .running → s.Refuses (.release l) l q .engaged) ∧
  ∀ (l : Link) (s : State) (q : Request) (h : Handle) (i : SlotIx) (r : ShelfRecord)
    (m : ModelIx) (x : Model),
    s.Serving l .release q → readAll readHandle q.body = some h → s.Resolves h i r →
    q.tier ≤ r.guardLevel → r.state ≠ .running → r.model = s.modelHandleOf m →
    s.model m = some x →
    ∃ t y, exec (.release l) s = .next t ∧
      t.slot i = ⟨if (s.slot i).gen = 1023 then 1 else (s.slot i).gen + 1, none⟩ ∧
      t.store.queue = s.store.queue.filter (· ≠ i) ∧
      t.store.attention = s.store.attention.filter (·.handle ≠ h) ∧
      (∀ b, (s.bay b).binding = some h → t.enableOutput b = false ∧
        t.bay b = { s.bay b with binding := none, seatLost := false, rearm := none }) ∧
      (∀ b, (s.bay b).binding ≠ some h → t.bay b = s.bay b) ∧
      t.model m = some y ∧ y.intact = true ∧
      y = { x with refCount := x.refCount - 1, code := y.code } ∧
      (∀ n, n ≠ m → t.modelSlot n = s.modelSlot n) ∧ s.OtherSlotsKept t i ∧
      s.Answers t l q .ok h.bytes ∧
      t = { s with store := t.store, models := t.models, bays := t.bays,
                   execLink := t.execLink, consoleLink := t.consoleLink }

/-- TAKE removes the head of the attention list and answers with it, or with found flag 0. -/
def Obligations.TakeRemovesTheHead : Prop :=
  ∀ (l : Link) (s : State) (q : Request), s.Serving l .take q → q.body = [] →
    (s.store.attention = [] → ∃ t, exec (.take l) s = .next t ∧ s.Answers t l q .ok [0x00#8] ∧
      t = { s with execLink := t.execLink, consoleLink := t.consoleLink }) ∧
    (∀ x xs r, s.store.attention = x :: xs → x.handle = s.handleOf x.handle.index →
      s.record x.handle.index = some r →
      ∃ t, exec (.take l) s = .next t ∧ t.store.attention = xs ∧
        s.Answers t l q .ok (0x01#8 :: (x.handle.bytes ++
          [byteOf r.state.code, x.reasons.byte, byteOf r.cursor])) ∧
        t = { s with store := { s.store with attention := xs }, execLink := t.execLink,
                     consoleLink := t.consoleLink })

/-! ### Model requests -/

/-- CREATE_MODEL places a DRAFT with every parameter unset in the lowest EMPTY slot. It is refused with
BAD_FIELD for a character outside the set or a revision above 255, then with DUPLICATE for a code and revision
in use, and then with TABLE_FULL when no slot is EMPTY. -/
def Obligations.CreateModelPlacesADraft : Prop :=
  (∀ (l : Link) (s : State) (q : Request) (name : List Byte) (rev : Nat) (m : ModelIx),
    s.Serving l .createModel q → readAll readCreateBody q.body = some (name, rev) → q.tier = 0 →
    name.all isSerialChar = true → rev ≤ 255 →
    (∀ n x, s.model n = some x → ¬(x.name = name ∧ x.revision = rev)) →
    s.model m = none → (∀ n, n < m → s.model n ≠ none) →
    ∃ t x, exec (.createModel l) s = .next t ∧ t.modelSlot m = ⟨(s.modelSlot m).gen, some x⟩ ∧
      x = { name := name, revision := rev, state := .draft, refCount := 0,
            params := ModelParams.unset, curve := [], plan := [], code := x.code } ∧
      x.intact = true ∧ (∀ n, n ≠ m → t.modelSlot n = s.modelSlot n) ∧
      s.Answers t l q .ok ((s.modelHandleOf m).bytes ++ [0x01#8] ++ name ++
        [byteOf rev, 0x00#8]) ∧
      t = { s with models := { s.models with slots := t.models.slots }, execLink := t.execLink,
                   consoleLink := t.consoleLink }) ∧
  ∀ (l : Link) (s : State) (q : Request) (name : List Byte) (rev : Nat),
    s.Serving l .createModel q → readAll readCreateBody q.body = some (name, rev) → q.tier = 0 →
    let refused := s.Refuses (.createModel l) l q
    (name.all isSerialChar = false ∨ 255 < rev → refused .badField) ∧
    (name.all isSerialChar = true → rev ≤ 255 →
      ((∃ n x, s.model n = some x ∧ x.name = name ∧ x.revision = rev) → refused .duplicate) ∧
      ((∀ n x, s.model n = some x → ¬(x.name = name ∧ x.revision = rev)) →
        (∀ n, s.model n ≠ none) → refused .tableFull))

/-- EDIT_MODEL stores one item into a DRAFT; of a name that is not taken, of a parameter, of a restart mode,
of a curve and of a plan. An ACTIVE model is refused with WRONG_STATE, then a value out of range with
BAD_FIELD (a plan with a step of unknown kind among them by the model's reading, log 12), and then a name
taken with DUPLICATE; the answer carries the model's fields. -/
def Obligations.EditModelStoresOneItem : Prop :=
  (∀ (l : Link) (s : State) (q : Request) (h : Handle) (item : EditItem) (m : ModelIx) (x : Model),
    s.Serving l .editModel q → readAll readEditBody q.body = some (h, item) → q.tier = 0 →
    s.ResolvesModel h m x → x.state = .draft → item.inRange = true →
    (∀ c, item = .name c → ∀ n y, n ≠ m → s.model n = some y →
      ¬(y.name = c ∧ y.revision = x.revision)) →
    ∃ t y, exec (.editModel l) s = .next t ∧ t.modelSlot m = ⟨(s.modelSlot m).gen, some y⟩ ∧
      y.intact = true ∧
      (∀ c, item = .name c → y = { x with name := c, code := y.code }) ∧
      (∀ p n, item = .param p n → y = { x with params := x.params.store p n, code := y.code }) ∧
      (item = .restartMode 0 →
        y = { x with params := { x.params with restartMode := some .hiccup }, code := y.code }) ∧
      (item = .restartMode 1 →
        y = { x with params := { x.params with restartMode := some .latch }, code := y.code }) ∧
      (∀ ks, item = .curve ks → y = { x with curve := ks, code := y.code }) ∧
      (∀ ps, item = .plan (some ps) → y = { x with plan := ps, code := y.code }) ∧
      (∀ n, n ≠ m → t.modelSlot n = s.modelSlot n) ∧
      s.Answers t l q .ok (h.bytes ++ [0x01#8] ++ y.name ++
        [byteOf x.revision, byteOf x.refCount]) ∧
      t = { s with models := { s.models with slots := t.models.slots }, execLink := t.execLink,
                   consoleLink := t.consoleLink }) ∧
  ∀ (l : Link) (s : State) (q : Request) (h : Handle) (item : EditItem) (m : ModelIx) (x : Model),
    s.Serving l .editModel q → readAll readEditBody q.body = some (h, item) → q.tier = 0 →
    s.ResolvesModel h m x →
    let refused := s.RefusesModel (.editModel l) l q h x
    (x.state = .active → refused .wrongState) ∧
    (x.state = .draft → item.inRange = false → refused .badField) ∧
    ∀ c n y, x.state = .draft → item = .name c → item.inRange = true → n ≠ m →
      s.model n = some y → y.name = c → y.revision = x.revision → refused .duplicate

/-- ACTIVATE makes a DRAFT that passes all 25 items ACTIVE, and refuses another with INVALID_MODEL, the
number of the least item that fails and the index that goes with it, changing no field. An ACTIVE model is
refused with WRONG_STATE. A descriptor passes every item exactly when no fault is found; the fault found is
an item that fails, behind items that pass. The index of a knot in items 14 and 15 counts from 1, by the
model's reading (log 14). -/
def Obligations.ActivateChecksTheDescriptor : Prop :=
  (∀ (l : Link) (s : State) (q : Request) (h : Handle) (m : ModelIx) (x : Model),
    s.Serving l .activate q → readAll readHandle q.body = some h → q.tier = 0 →
    s.ResolvesModel h m x → x.state = .active →
    s.RefusesModel (.activate l) l q h x .wrongState) ∧
  (∀ (l : Link) (s : State) (q : Request) (h : Handle) (m : ModelIx) (x : Model),
    s.Serving l .activate q → readAll readHandle q.body = some h → q.tier = 0 →
    s.ResolvesModel h m x → x.state = .draft →
    let fields := fun st : Nat => h.bytes ++ [byteOf st] ++ x.name ++
      [byteOf x.revision, byteOf x.refCount]
    ((∀ n, x.Passes n) →
      ∃ t y, exec (.activate l) s = .next t ∧ t.modelSlot m = ⟨(s.modelSlot m).gen, some y⟩ ∧
        y = { x with state := .active, code := y.code } ∧ y.intact = true ∧
        (∀ n, n ≠ m → t.modelSlot n = s.modelSlot n) ∧ s.Answers t l q .ok (fields 2) ∧
        t = { s with models := { s.models with slots := t.models.slots }, execLink := t.execLink,
                     consoleLink := t.consoleLink }) ∧
    (∀ item, ¬x.Passes item → (∀ n, n < item → x.Passes n) →
      ∃ t index, exec (.activate l) s = .next t ∧ x.FailsAt item index ∧
        s.Answers t l q .invalidModel (fields 1 ++ [byteOf item] ++
          optBytes (fun k => [byteOf k]) index) ∧
        t = { s with execLink := t.execLink, consoleLink := t.consoleLink })) ∧
  (∀ x : Model, x.firstFault = none ↔ ∀ n, x.Passes n) ∧
  ∀ (x : Model) (item : Nat) (index : Option Nat), x.firstFault = some (item, index) ↔
    (¬x.Passes item ∧ (∀ n, n < item → x.Passes n) ∧ x.FailsAt item index)

/-- REVISE returns an unreferenced ACTIVE model to DRAFT with its revision one higher, and DISCARD
empties an unreferenced slot and raises its generation. At a reference count above 0 REVISE of an ACTIVE
model and DISCARD of any are refused with MODEL_IN_USE; REVISE is refused with WRONG_STATE for a DRAFT model,
with BAD_FIELD at revision 255 and with DUPLICATE for a revision one higher that is in use. Such an answer
carries the model's fields, and no model changes. -/
def Obligations.ReviseAndDiscardAnUnusedModel : Prop :=
  ∀ (l : Link) (s : State) (q : Request) (h : Handle) (m : ModelIx) (x : Model),
    readAll readHandle q.body = some h → q.tier = 0 → s.ResolvesModel h m x →
    (s.Serving l .revise q →
      (x.state = .draft → s.RefusesModel (.revise l) l q h x .wrongState) ∧
      (x.state = .active → 0 < x.refCount → s.RefusesModel (.revise l) l q h x .modelInUse) ∧
      (x.state = .active → x.refCount = 0 → x.revision = 255 →
        s.RefusesModel (.revise l) l q h x .badField) ∧
      (x.state = .active → x.refCount = 0 → x.revision < 255 →
        (∃ n y, n ≠ m ∧ s.model n = some y ∧ y.name = x.name ∧ y.revision = x.revision + 1) →
        s.RefusesModel (.revise l) l q h x .duplicate)) ∧
    (s.Serving l .discard q → 0 < x.refCount →
      s.RefusesModel (.discard l) l q h x .modelInUse) ∧
    (s.Serving l .revise q → x.refCount = 0 → x.state = .active → x.revision < 255 →
      (∀ n y, n ≠ m → s.model n = some y → ¬(y.name = x.name ∧ y.revision = x.revision + 1)) →
      ∃ t y, exec (.revise l) s = .next t ∧ t.modelSlot m = ⟨(s.modelSlot m).gen, some y⟩ ∧
        y = { x with state := .draft, revision := x.revision + 1, code := y.code } ∧
        y.intact = true ∧ (∀ n, n ≠ m → t.modelSlot n = s.modelSlot n) ∧
        s.Answers t l q .ok (h.bytes ++ [0x01#8] ++ x.name ++
          [byteOf (x.revision + 1), 0x00#8]) ∧
        t = { s with models := { s.models with slots := t.models.slots },
                     execLink := t.execLink, consoleLink := t.consoleLink }) ∧
    (s.Serving l .discard q → x.refCount = 0 →
      ∃ t, exec (.discard l) s = .next t ∧
        t.modelSlot m = ⟨if (s.modelSlot m).gen = 1023 then 1 else (s.modelSlot m).gen + 1, none⟩ ∧
        (∀ n, n ≠ m → t.modelSlot n = s.modelSlot n) ∧
        s.Answers t l q .ok (h.bytes ++ [0x00#8] ++ x.name ++ [byteOf x.revision, 0x00#8]) ∧
        t = { s with models := { s.models with slots := t.models.slots },
                     execLink := t.execLink, consoleLink := t.consoleLink })


/-! ### Station requests -/

/-- SET_BUDGET stores B and the smaller of the guard and B, answers with them, keeps every other setting and
every reservation held, and tests the wait list at once: with no submission waiting, or a head that does not
fit, nothing else changes, and a single submission that fits is admitted: its engine is in ACQUIRE, with its
bank request still to be made (log 37, by which a submission made before the request has been tested against
the old budget: the state read is the settled one). SET_FEED_WINDOW stores both limits and sets the
out-of-window count to 0. -/
def Obligations.FeedSettingsAreStored : Prop :=
  ∀ (l : Link) (s₀ : State) (q : Request), q.tier = 0 →
    let s := s₀.settled
    (∀ b g, s₀.Serving l .setBudget q → readAll readBudgetBody q.body = some (b, g) →
      ∃ t, exec (.setBudget l) s₀ = .next t ∧ t.feed.budget = b ∧ t.feed.guard = min g b ∧
        t.feed.low = s.feed.low ∧ t.feed.high = s.feed.high ∧ t.feed.window = s.feed.window ∧
        t.feed.recoverFrom = s.feed.recoverFrom ∧ t.feed.outCount = s.feed.outCount ∧
        t.feed.overCount = s.feed.overCount ∧ t.feed.pause = s.feed.pause ∧
        s.Answers t l q .ok (be16 b ++ be16 (min g b)) ∧ t.store = s.store ∧
        ((∀ w ∈ s.feed.waits.head?, s.feed.window ≠ .normal ∨
            b - min g b < s.feed.total + w.amount) →
          t = { s with feed := { s.feed with budget := b, guard := min g b },
                       execLink := t.execLink, consoleLink := t.consoleLink }) ∧
        (∀ w, s.feed.waits = [w] → s.feed.window = .normal →
          s.feed.total + w.amount ≤ b - min g b →
          t.feed.waits = [] ∧ t.feed.total = s.feed.total + w.amount ∧
          t.feed.reservations = s.feed.reservations ++
            [⟨w.engine, w.amount, w.priority, s.feed.nextNumber, false⟩] ∧
          t.engines = s.engines.put w.engine { s.engine w.engine with
            reservation := .held w.amount, phase := .acquire } ∧
          t = { s with feed := t.feed, engines := t.engines, execLink := t.execLink,
                       consoleLink := t.consoleLink })) ∧
    (∀ lo hi, s₀.Serving l .setFeedWindow q → readAll readWindowBody q.body = some (lo, hi) →
      ∃ t, exec (.setFeedWindow l) s₀ = .next t ∧ s₀.Answers t l q .ok (be16 lo ++ be16 hi) ∧
        t = { s₀ with feed := { s₀.feed with low := lo, high := hi, outCount := 0 },
                      execLink := t.execLink, consoleLink := t.consoleLink })

/-- BANK_STATUS answers the roster, the total online capability, the request in service, which a withdrawn
one stays until its last CONNECT is over, and the wait list; STATION_STATUS the straps, the feed
settings, the engines and the length of the attention list. The engines'
work that waits is done first (log 37: the state read is the settled one), and neither changes anything
else. -/
def Obligations.StationReportsReadTheState : Prop :=
  ∀ (l : Link) (s₀ : State) (q : Request), q.tier = 0 → q.body = [] →
    let s := s₀.settled
    (s₀.Serving l .bankStatus q →
      ∃ t, exec (.bankStatus l) s₀ = .next t ∧
        s.Answers t l q .ok ([byteOf s.straps.banks] ++ be32 s.totalOnline ++
          s.addresses.flatMap (fun b =>
            [byteOf b.val, byteOf (s.bank b).state.code] ++ be16 (s.bank b).cap ++
            optBytes (fun x => [byteOf x.val]) (s.bank b).bay ++
            optBytes (fun e => [byteOf e.val]) (s.bank b).engine ++ be16 (s.bank b).level ++
            optBytes (fun c => [byteOf c]) (s.bank b).fault) ++
          (match s.arb.service with
            | some v => if v.status = .failed then [0x00#8] else [0x01#8, byteOf v.engine.val]
            | none => [0x00#8]) ++
          byteOf s.arb.waits.length ::
            s.arb.waits.flatMap (fun w => byteOf w.engine.val :: be16 w.need)) ∧
        t = { s with execLink := t.execLink, consoleLink := t.consoleLink }) ∧
    (s₀.Serving l .stationStatus q →
      ∃ t, exec (.stationStatus l) s₀ = .next t ∧
        s.Answers t l q .ok ([byteOf s.straps.table, byteOf s.straps.bays, byteOf s.straps.banks,
            flagByte s.straps.pulse, flagByte s.straps.console, byteOf s.feed.window.code] ++
          be16 s.feed.budget ++ be16 s.feed.guard ++ be32 s.feed.total ++
          (List.finRange 6).flatMap (fun e => byteOf (s.engine e).phase.code ::
            match (s.engine e).copy with
            | some c => if (s.engine e).phase = .free then []
                else c.handle.bytes ++ [byteOf c.index, byteOf c.kind.code]
            | none => []) ++
          [byteOf s.store.attention.length]) ∧
        t = { s with execLink := t.execLink, consoleLink := t.consoleLink })

/-- RESET answers on its own link, completes a LOOKUP that waits on the other, and then takes effect:
QUEUED and RUNNING records are HELD with reason RESET and listed for attention, the engines are FREE,
the arbiter releases every bank that is not OFFLINE, and models, samples, other records, timers and
settings are kept. -/
def Obligations.SoftResetReturnsTheStation : Prop :=
  ∀ (l : Link) (s : State) (q : Request), s.Serving l .reset q → q.body = [] → q.tier = 0 →
    ∃ t, exec (.reset l) s = .next t ∧ t.link l = s.answeredLink l q .ok [] ∧
      ((∀ p, (s.link (otherLink l)).request = some p → p.waiting = none) →
        t.link (otherLink l) = s.link (otherLink l)) ∧
      (∀ p w r, (s.link (otherLink l)).request = some p → p.waiting = some w →
        w.handle = s.handleOf w.handle.index → s.record w.handle.index = some r →
        t.link (otherLink l) = s.answeredLink (otherLink l) p .ok
          (w.handle.bytes ++ [flagByte (r.state = .doubtful)] ++ r.bytes ++ [r.code]
            ++ [0x00#8])) ∧
      (∀ i r, s.record i = some r → r.state = .queued ∨ r.state = .running →
        ∃ r', t.slot i = ⟨(s.slot i).gen, some r'⟩ ∧
          r' = { r with state := .held, hold := some .reset, engaged := none, code := r'.code } ∧
          r'.intact = true ∧
          ∃ x ∈ t.store.attention, x.handle = s.handleOf i ∧ x.reasons.held = true) ∧
      (∀ i, (∀ r, s.record i = some r → r.state ≠ .queued ∧ r.state ≠ .running) →
        t.slot i = s.slot i) ∧
      (∀ x ∈ s.store.attention, ∃ y ∈ t.store.attention, y.handle = x.handle) ∧
      t.store.queue = [] ∧ t.store.cursor = s.store.cursor ∧
      t.store.scrubFrom = s.store.scrubFrom ∧ t.models = s.models ∧
      (∀ b, t.bay b = { s.bay b with rearm := none, seatLost := false }) ∧
      t.senses = s.senses ∧ t.feedSense = s.feedSense ∧
      (∀ e, t.engine e = Engine.free ∧ t.outbox.get e = []) ∧
      t.arb.waits = [] ∧ t.arb.service = none ∧ t.arb.sweepFrom = s.arb.sweepFrom ∧
      (∀ b x, s.exchange b = some x →
        t.exchange b = if x.request = .identify then some x else none) ∧
      (∀ b, s.exchange b = none → t.exchange b = none) ∧
      (∀ b, b.val < s.straps.banks → (s.bank b).state ≠ .offline →
        t.bank b = { s.bank b with state := .releasing, engine := none }) ∧
      (∀ b, (s.bank b).state = .offline → t.bank b = s.bank b) ∧
      t.arb.asked = (s.addresses.filter fun b => (s.bank b).state ≠ .offline).map
        (fun b => ⟨b, .release, false⟩) ∧
      t.now = s.now ∧ t.straps = s.straps ∧ t.rx = s.rx

/-- The feed supervisor at a soft reset. -/
def Obligations.FeedAtASoftReset : Prop :=
  ∀ (l : Link) (s : State) (q : Request), s.Serving l .reset q → q.body = [] → q.tier = 0 →
    ∃ t, exec (.reset l) s = .next t ∧
      t.feed = { s.feed with reservations := [], total := 0, waits := [] } ∧
      (∀ e, t.engine e = Engine.free) ∧
      (∀ e n p b, (t.feed.join e n p b).waits = [⟨e, n, p, b, s.feed.nextJoin⟩]) ∧
      ∀ w, t.feed.fits w = true ↔
        (s.feed.window = .normal ∧ 0 + w.amount ≤ s.feed.budget - s.feed.guard)

/-! ### The request links -/

/-- A frame that passes its checks on a free link is delivered with its code, tag, body and effective
tier, the larger of the claimed tier and the link floor, and a request keeps them until it is
answered. -/
def Obligations.EffectiveTierIsFixedAtDelivery : Prop :=
  linkFloor .executive = 0 ∧ linkFloor .console = 2 ∧
  (∀ (s : State) (k tier tag : Byte) (body : List Byte) (c : ReqCode), s.held = false →
    ReqCode.ofByte k = some c → body.length ≤ 120 →
    let frame := withCrc16 ([k, tier, tag, byteOf body.length] ++ body)
    (s.execLink.request = none → s.execLink.unread = none →
      ∃ t, exec (.requestFrame .executive frame) s = .next t ∧
        t.execLink = { s.execLink with
          request := some ⟨c, max (tier.toNat % 4) (linkFloor .executive), tag, body, none⟩ } ∧
        t.spiOut = List.replicate (frame.length + 1) 0x00#8 ∧
        t = { s with execLink := t.execLink, spiOut := t.spiOut }) ∧
    (s.straps.console = true → s.consoleLink.request = none → s.consoleLink.unread = none →
      s.rx = none →
      ∃ t p, exec (.requestFrame .console (0x7E#8 :: frame)) s = .next t ∧
        t.consoleLink = { s.consoleLink with request := some p } ∧
        p = ⟨c, max (tier.toNat % 4) (linkFloor .console), tag, body, none⟩ ∧
        (p.tier = 2 ∨ p.tier = 3) ∧ t = { s with consoleLink := t.consoleLink })) ∧
  ∀ (c : Instr) (s t : State) (l : Link) (p p' : Request), exec c s = .next t →
    (s.link l).request = some p → (t.link l).request = some p' →
    p'.tier = p.tier ∧ p'.code = p.code ∧ p'.tag = p.tag ∧ p'.body = p.body

/-- On a free link, executive or console, a frame of a wrong length or check code is answered FRAME_ERROR,
and a code that names no request UNKNOWN_REQUEST, with the tag of the frame; a link that is not free
discards the frame and sets OVERRUN. The console answer takes the link's OVERRUN flag with it as it is
formed; a console frame ends at the byte count that its length field gives. A console that is strapped off,
and a byte outside a frame that is not the start byte, change nothing; a start byte begins a frame. That a
write transaction of no bytes is a frame of a wrong length is the model's choice (log 35). -/
def Obligations.FramesThatFailAreAnswered : Prop :=
  ∀ (s : State) (bytes : List Byte), s.held = false →
    (s.execLink.request = none → s.execLink.unread = none →
      (bytes.length < 4 ∨ (∃ n, bytes[3]? = some n ∧
          (120 < n.toNat ∨ bytes.length ≠ n.toNat + 6)) ∨
        (∀ front, bytes ≠ withCrc16 front) →
        ∃ t, exec (.requestFrame .executive bytes) s = .next t ∧
          t.execLink = { s.execLink with
            unread := some ⟨(bytes[2]?).getD 0x00#8, .frameError, false, [], s.now⟩ } ∧
          t = { s with execLink := t.execLink, spiOut := t.spiOut }) ∧
      (∀ k tier tag body, ReqCode.ofByte k = none → body.length ≤ 120 →
        bytes = withCrc16 ([k, tier, tag, byteOf body.length] ++ body) →
        ∃ t, exec (.requestFrame .executive bytes) s = .next t ∧
          t.execLink = { s.execLink with
            unread := some ⟨tag, .unknownRequest, false, [], s.now⟩ } ∧
          t = { s with execLink := t.execLink, spiOut := t.spiOut })) ∧
    (s.execLink.request ≠ none ∨ s.execLink.unread ≠ none →
      ∃ t, exec (.requestFrame .executive bytes) s = .next t ∧
        t.execLink = { s.execLink with overrun := true } ∧
        t = { s with execLink := t.execLink, spiOut := t.spiOut }) ∧
    (∀ n, s.straps.console = true → s.rx = none → bytes[3]? = some n →
      bytes.length = n.toNat + 6 →
      let answered := fun (tag : Byte) (o : Code) =>
        exec (.requestFrame .console (0x7E#8 :: bytes)) s = .next { s with consoleLink :=
          ⟨none, some ⟨tag, o, s.consoleLink.overrun, [], s.now⟩, false⟩ }
      (s.consoleLink.request = none → s.consoleLink.unread = none →
        (120 < n.toNat ∨ (∀ front, bytes ≠ withCrc16 front) →
          answered ((bytes[2]?).getD 0x00#8) .frameError) ∧
        (∀ k tier tag body, ReqCode.ofByte k = none → body.length ≤ 120 →
          bytes = withCrc16 ([k, tier, tag, byteOf body.length] ++ body) →
          answered tag .unknownRequest)) ∧
      (s.consoleLink.request ≠ none ∨ s.consoleLink.unread ≠ none →
        exec (.requestFrame .console (0x7E#8 :: bytes)) s =
          .next { s with consoleLink := { s.consoleLink with overrun := true } })) ∧
    (s.straps.console = false → exec (.requestFrame .console bytes) s = .next s) ∧
    (s.rx = none → 0x7E#8 ∉ bytes → exec (.requestFrame .console bytes) s = .next s) ∧
    (s.straps.console = true → s.rx = none →
      exec (.requestFrame .console [0x7E#8]) s = .next { s with rx := some ⟨[], s.now⟩ })

/-- A read transaction shifts out the unread answer with the OVERRUN flag moved into it; the answer is
read when its last byte has been clocked out, and the no-answer frame is returned when there is none.
ANSWER-READY is active while an answer is unread, through a read broken off, and inactive with none.
That the flag moves also when no byte is clocked is the model's choice (log 22). The console transmits
the start byte 0x7E and the frame of its unread answer, and ANSWER_SENT ends it. An ignored transaction
changes nothing. A console frame whose bytes stop for more than 10 ms is dropped; the tick of the drop is
the model's choice (log 5). -/
def Obligations.AnswersAreReadOnce : Prop :=
  ∀ s : State, s.held = false →
    (∀ n a, s.execLink.unread = some a →
      let o := a.overrun || s.execLink.overrun
      let frame := withCrc16 ([a.tag, byteOf a.outcome.code, flagByte o] ++ be16 a.body.length ++
        a.body)
      ∃ t, exec (.readTransaction n) s = .next t ∧
        t.spiOut = 0x00#8 :: (frame.take n ++ List.replicate (n - frame.length) 0x00#8) ∧
        t.execLink.overrun = false ∧ t.execLink.request = s.execLink.request ∧
        (frame.length ≤ n → t.execLink.unread = none) ∧
        (n < frame.length → t.execLink.unread = some { a with overrun := o }) ∧
        s.answerReady = true ∧ t.answerReady = decide (n < frame.length) ∧
        t = { s with execLink := t.execLink, spiOut := t.spiOut }) ∧
    (∀ n, s.execLink.unread = none →
      let frame := withCrc16 [0x00#8, 0xFF#8, 0x00#8, 0x00#8, 0x00#8]
      s.answerReady = false ∧ exec (.readTransaction n) s = .next { s with
        spiOut := 0x00#8 :: (frame.take n ++ List.replicate (n - 7) 0x00#8) }) ∧
    (∀ a, s.consoleLink.unread = some a → s.consoleTransmits = 0x7E#8 :: withCrc16
      ([a.tag, byteOf a.outcome.code, flagByte a.overrun] ++ be16 a.body.length ++ a.body)) ∧
    (s.consoleLink.unread = none → s.consoleTransmits = []) ∧
    exec .answerSent s = .next { s with consoleLink := { s.consoleLink with unread := none } } ∧
    (∀ k bytes, exec (.transactionIgnored k bytes) s = .next s) ∧
    (∀ x, s.rx = some x → s.ownWork = none → ∃ t, exec .consoleFrameTimeout s = .next t ∧
      s.PassedTo t (x.last + 11) ∧
      t = { s with now := t.now, arb := { s.arb with turn := t.arb.turn }, rx := none })

/-! ### Scrubs and bay lines -/

/-- A scrub reads the slot at its cursor and moves on, restarting its timer. A record that does not
match its code goes DOUBTFUL, leaves the queue and is listed for attention, and the engine that holds it
takes DOUBT; a LOOKUP that waits for it is answered with the record as DOUBTFUL. That the state it left is
read from the queue, the engines and the bays' bindings is the model's choice (log 32). A model that does
not match goes DOUBTFUL with its count rebuilt, and every QUEUED record naming it is HELD with reason
MODEL_DOUBT. A mismatch found on a record or a model already DOUBTFUL changes nothing; that one whose state
reads DOUBTFUL is not already so while it stands in the start queue, or while a QUEUED record names it, is
the model's choice too (log 32). -/
def Obligations.ScrubsReadOneSlot : Prop :=
  ∀ s : State, s.held = false → s.straps.table ≤ 32 → s.ownWork = none →
    (∃ t, exec .shelfScrub s = .next t ∧ s.PassedTo t (s.store.scrubFrom + 100) ∧
      t.store.scrubFrom = t.now ∧
      t.store.cursor.val =
        (if s.store.cursor.val + 1 < s.straps.table then s.store.cursor.val + 1 else 0) ∧
      ((∀ r, s.record s.store.cursor = some r → r.intact = true ∨
          (r.state = .doubtful ∧ s.store.cursor ∉ s.store.queue ∧
            ∀ e, s.holds e (s.handleOf s.store.cursor) = true →
              (s.engine e).stop ≠ none ∨ (s.engine e).verdict ≠ none)) →
        t = { s with
          now := t.now
          arb := { s.arb with turn := t.arb.turn }
          store := { s.store with cursor := t.store.cursor, scrubFrom := t.store.scrubFrom } }) ∧
      (∀ r, s.record s.store.cursor = some r → r.intact = false →
        r.state ≠ .doubtful ∨ s.store.cursor ∈ s.store.queue →
        ∃ r', t.slot s.store.cursor = ⟨(s.slot s.store.cursor).gen, some r'⟩ ∧
          r' = { r with state := .doubtful, hold := none, engaged := none, code := r'.code } ∧
          r'.intact = true ∧ s.OtherSlotsKept t s.store.cursor ∧
          s.LookupsCompleted t (s.handleOf s.store.cursor) r' ∧
          t.store.queue = s.store.queue.filter (· ≠ s.store.cursor) ∧
          (∃ x ∈ t.store.attention,
            x.handle = s.handleOf s.store.cursor ∧ x.reasons.doubt = true) ∧
          (∀ b, (s.bay b).binding = some (s.handleOf s.store.cursor) →
            t.bay b = { s.bay b with seatLost := false, rearm := none }) ∧
          (∀ b, (s.bay b).binding ≠ some (s.handleOf s.store.cursor) → t.bay b = s.bay b) ∧
          ∀ e c, s.OnLoad e c → c.handle = s.handleOf s.store.cursor → s.feed.waits = [] →
            (∀ f, f < e → s.holds f (s.handleOf s.store.cursor) = false) →
            (t.engine e).stop = some .doubt ∧ s.Unloads t e)) ∧
    (∃ t, exec .modelScrub s = .next t ∧ s.PassedTo t (s.models.scrubFrom + 100) ∧
      t.models.scrubFrom = t.now ∧ t.models.cursor.val = (s.models.cursor.val + 1) % 16 ∧
      ((∀ x, s.model s.models.cursor = some x → x.intact = true ∨
          (x.state = .doubtful ∧ ∀ i r, s.record i = some r → r.state = .queued →
            r.model ≠ s.modelHandleOf s.models.cursor)) →
        t = { s with
          now := t.now
          arb := { s.arb with turn := t.arb.turn }
          models := { s.models with
            cursor := t.models.cursor, scrubFrom := t.models.scrubFrom } }) ∧
      (∀ x, s.model s.models.cursor = some x → x.intact = false →
        x.state ≠ .doubtful ∨ (∃ i r, s.record i = some r ∧ r.state = .queued ∧
          r.model = s.modelHandleOf s.models.cursor) →
        (∃ y, t.modelSlot s.models.cursor = ⟨(s.modelSlot s.models.cursor).gen, some y⟩ ∧
          y = { x with
            state := .doubtful, refCount := s.namingCount s.models.cursor, code := y.code } ∧
          y.intact = true) ∧
        (∀ n, n ≠ s.models.cursor → t.modelSlot n = s.modelSlot n) ∧
        (∀ i r, s.record i = some r → r.model = s.modelHandleOf s.models.cursor →
          r.state = .queued → i ∉ t.store.queue ∧
          ∃ r', t.slot i = ⟨(s.slot i).gen, some r'⟩ ∧ r'.intact = true ∧
            r' = { r with state := .held, hold := some .modelDoubt, code := r'.code }) ∧
        (∀ i, (∀ r, s.record i = some r →
            r.model ≠ s.modelHandleOf s.models.cursor ∨ r.state ≠ .queued) →
          t.slot i = s.slot i)))

/-- A change of the raw seat restarts the debounce timer. At its expiry a raw seat that differs is
taken, and the bound record follows: BOUND to READY, READY to BOUND, QUEUED to HELD with reason
UNSEATED. A RUNNING record keeps its state, the bay's seat-lost mark is set and its output goes off,
and the engine takes UNSEATED. -/
def Obligations.SeatEventsFollowTheLifecycle : Prop :=
  ∀ (s : State) (b : BayIx), s.held = false →
    (∀ up, b.val < s.straps.bays → (s.bay b).raw ≠ up →
      exec (.seatInputChange b up) s = .next { s with
        bays := s.bays.put b { s.bay b with raw := up, debounce := some s.now } }) ∧
    (∀ up, s.straps.bays ≤ b.val ∨ (s.bay b).raw = up →
      exec (.seatInputChange b up) s = .next s) ∧
    (∀ z, (s.bay b).debounce = some z → s.ownWork = none → ∃ t, exec (.debounceExpiry b) s = .next t ∧
      s.PassedTo t (z + 50) ∧ (t.bay b).seated = (s.bay b).raw ∧ (t.bay b).debounce = none ∧
      (t.bay b).raw = (s.bay b).raw ∧ (t.bay b).binding = (s.bay b).binding ∧
      (∀ c, c ≠ b → t.bay c = s.bay c) ∧
      ((s.bay b).raw = (s.bay b).seated ∨ (s.bay b).binding = none →
        t = { s with now := t.now, arb := { s.arb with turn := t.arb.turn }, bays := t.bays }) ∧
      (∀ i r, (s.bay b).raw ≠ (s.bay b).seated → (s.bay b).binding = some (s.handleOf i) →
        s.record i = some r →
        s.OtherSlotsKept t i ∧ t.models = s.models ∧
        (r.state = .bound → (s.bay b).raw = true → ∃ r', r'.intact = true ∧
          t.slot i = ⟨(s.slot i).gen, some r'⟩ ∧
          r' = { r with state := .ready, code := r'.code }) ∧
        (r.state = .ready → (s.bay b).raw = false → ∃ r', r'.intact = true ∧
          t.slot i = ⟨(s.slot i).gen, some r'⟩ ∧
          r' = { r with state := .bound, code := r'.code }) ∧
        (r.state = .queued → (s.bay b).raw = false → ∃ r', r'.intact = true ∧
          t.slot i = ⟨(s.slot i).gen, some r'⟩ ∧
          r' = { r with state := .held, hold := some .unseated, code := r'.code } ∧
          t.store.queue = s.store.queue.filter (· ≠ i) ∧
          ∃ x ∈ t.store.attention, x.handle = s.handleOf i ∧ x.reasons.held = true) ∧
        (r.state = .running → (s.bay b).raw = false → t.slot i = s.slot i ∧
          (t.bay b).seatLost = true ∧ t.enableOutput b = false) ∧
        (r.state = .held ∨ r.state = .passed ∨ r.state = .failed ∨ r.state = .doubtful ∨
            (r.state = .running ∨ r.state = .queued) ∧ (s.bay b).raw = true →
          t = { s with
            now := t.now, arb := { s.arb with turn := t.arb.turn }, bays := t.bays }) ∧
        (∀ e c, s.EngagedOn e i r b → s.OnLoad e c → s.feed.waits = [] →
          (s.bay b).raw = false →
          (t.engine e).stop = some .unseated ∧ s.Unloads t e)))

/-- A trip indicator level is stored. A change to active is an indicator event to the engine engaged on
the bound record: with detection armed it ends a HOLD or DERATE step, and in a TRIP step the elapsed
time gives TRIP_EARLY, the passage into the RESTART step, or nothing past the window. A step of level 0,
which holds no bank, closes at once with its verdict, and releases its reservation in the passage. -/
def Obligations.DetectionEndsTheStep : Prop :=
  ∀ (s : State) (b : BayIx), s.held = false →
    (∀ a, s.straps.bays ≤ b.val → exec (.tripIndicatorChange b a) s = .next s) ∧
    (∀ a, b.val < s.straps.bays → a = false ∨ (s.bay b).indicator = true ∨
        (s.bay b).binding = none →
      exec (.tripIndicatorChange b a) s = .next { s with
        bays := s.bays.put b { s.bay b with indicator := a } }) ∧
    (∀ i r e c, b.val < s.straps.bays → (s.bay b).indicator = false → s.EngagedOn e i r b →
      s.OnStep e c → (s.engine e).detection = .armed → s.feed.waits = [] →
      ∃ t, exec (.tripIndicatorChange b true) s = .next t ∧
        t.bays = s.bays.put b { s.bay b with indicator := true } ∧
        t = { s with bays := t.bays, engines := t.engines, feed := t.feed, arb := t.arb,
                     outbox := t.outbox } ∧
        (∀ p, c.params = .hold p →
          s.Reaches t e c ⟨.holdTripped, none, some .indicator⟩) ∧
        (∀ p, c.params = .derate p →
          s.Reaches t e c ⟨.derateTripped, none, some .indicator⟩) ∧
        (∀ p k z, c.params = .trip p k → (s.engine e).tripFrom = some z →
          (p.tMax < s.now - z → t.engines = s.engines ∧ t.outbox = s.outbox) ∧
          (s.now - z ≤ p.tMax → s.now - z < p.tMin →
            s.Reaches t e c ⟨.tripEarly, some (s.now - z), some .indicator⟩) ∧
          (s.now - z ≤ p.tMax → p.tMin ≤ s.now - z →
            (t.engine e).phase = .watch ∧ (t.engine e).verdict = none ∧
            (t.engine e).copy = some { c with index := c.index + 1, kind := .restart } ∧
            (t.engine e).takeTick = s.now ∧ (t.engine e).lowSeen = false ∧
            (t.engine e).goodLevel = k.vGood * k.vNom / 1000 ∧
            (t.engine e).restartFrom = (if k.mode = .hiccup then some s.now else none) ∧
            (t.engine e).latchFrom = (if k.mode = .latch then some s.now else none) ∧
            t.outbox.get e = s.outbox.get e ++
              [.passage c.handle c.index (s.now - z) .indicator c.attempt] ∧
            (∀ a, (s.engine e).grant = [] → (s.engine e).reservation = .held a →
              (t.engine e).reservation = .none ∧
              t.feed.reservations = s.feed.reservations.filter (·.engine ≠ e)) ∧
            (∀ g ∈ (s.engine e).grant, g.load = false →
              ⟨g.bank, .set 0, false⟩ ∈ t.arb.asked) ∧
            ∀ f, f ≠ e → t.engine f = s.engine f)))

/-! ### The sense link -/

/-- A bay frame that passes its checks replaces the bay's sample with the clamped values and their
flags; one of another length or kind, with a wrong check code, of a bay out of service or with the
stored sequence count changes nothing. At an age of 21 the bay is STALE, and an engine that watches it
takes SENSE_LOST. -/
def Obligations.BayFramesAreStored : Prop :=
  (∀ (s : State) (bytes : List Byte),
    crc8Ok bytes = false ∨ bytes.length ≠ 12 ∨ bytes.head? ≠ some 0x01#8 →
    exec (.bayFrame bytes) s = .next s) ∧
  (∀ (s : State) (bay v1 v0 i1 i0 t1 t0 n1 n0 fs : Byte), s.held = false →
    let bytes := withCrc8 [0x01#8, bay, v1, v0, i1, i0, t1, t0, n1, n0, fs]
    (24 ≤ bay.toNat ∨ s.straps.bays ≤ bay.toNat → exec (.bayFrame bytes) s = .next s) ∧
    (∀ b : BayIx, bay.toNat = b.val → b.val < s.straps.bays →
      ((s.sense b).seq = some (fs.toNat / 16) → exec (.bayFrame bytes) s = .next s) ∧
      ((s.sense b).seq ≠ some (fs.toNat / 16) → s.watcher b = none →
        ∃ x : Sample, exec (.bayFrame bytes) s = .next { s with
            senses := s.senses.put b ⟨.fresh, some x, some (fs.toNat / 16), s.now⟩ } ∧
          (let v := signed16 (v1.toNat * 256 + v0.toNat);
            (x.vOut : Int) = max 0 (min 6500 v) ∧
              x.overV = (fs.toNat.testBit 0 || decide (v < 0 ∨ 6500 < v))) ∧
          (let v := signed16 (i1.toNat * 256 + i0.toNat);
            (x.iOut : Int) = max 0 (min 20000 v) ∧
              x.overI = (fs.toNat.testBit 1 || decide (v < 0 ∨ 20000 < v))) ∧
          (let v := signed16 (t1.toNat * 256 + t0.toNat);
            x.temp = max (-400) (min 1250 v) ∧
              x.overT = (fs.toNat.testBit 2 || decide (v < -400 ∨ 1250 < v))) ∧
          (let v := signed16 (n1.toNat * 256 + n0.toNat);
            (x.vIn : Int) = max 0 (min 3000 v) ∧
              x.overVin = (fs.toNat.testBit 3 || decide (v < 0 ∨ 3000 < v)))))) ∧
  ∀ (s : State) (b : BayIx), s.held = false →
    ((s.sense b).sense ≠ .fresh → exec (.bayStale b) s = .next s) ∧
    ((s.sense b).sense = .fresh → s.ownWork = none → ∃ t, exec (.bayStale b) s = .next t ∧
      s.PassedTo t ((s.sense b).arrival + 21) ∧
      t.senses = s.senses.put b { s.sense b with sense := .stale } ∧
      (s.watcher b = none → t = { s with
        now := t.now, arb := { s.arb with turn := t.arb.turn }, senses := t.senses }) ∧
      ∀ e c, s.watcher b = some e → s.OnLoad e c → s.feed.waits = [] →
        (t.engine e).stop = some .senseLost ∧ s.Unloads t e ∧
        t = { s with now := t.now, senses := t.senses, engines := t.engines, feed := t.feed,
                     arb := t.arb })

/-- An accepted bay frame is forwarded to the engine that watches the bay. A HOLD step ends at a
collapse; in a TRIP step the elapsed time of a collapse gives TRIP_EARLY, the passage into the RESTART
step with the low-seen mark set, or nothing past the window; a RESTART step at a good sample after a low
one, and a DERATE step at a sample out of
conditions, at a collapse, or with the verdict on the averages when its collection is complete. A step of
level 0, which holds no bank, closes at once with its outcome, and releases its reservation in the
passage. -/
def Obligations.ForwardedSamplesDecideTheStep : Prop :=
  ∀ (s : State) (bytes : List Byte) (b : BayIx) (f : BayFields) (e : EngineIx) (c : WorkingCopy),
    s.held = false → s.acceptBay bytes = some (b, f) → s.watcher b = some e → s.OnStep e c →
    s.feed.waits = [] →
    ∃ t, exec (.bayFrame bytes) s = .next t ∧
      t.senses = s.senses.put b ⟨.fresh, some f.stored, some f.seq, s.now⟩ ∧
      t = { s with senses := t.senses, engines := t.engines, feed := t.feed, arb := t.arb,
                   outbox := t.outbox } ∧
      (∀ p, c.kind = .hold → c.params = .hold p → (s.engine e).detection = .armed →
        (f.stored.vOut < p.vCollapse →
          s.Reaches t e c ⟨.holdTripped, none, some .collapse⟩) ∧
        (p.vCollapse ≤ f.stored.vOut → t.engines = s.engines)) ∧
      (∀ p k z, c.kind = .trip → c.params = .trip p k → (s.engine e).detection = .armed →
        (s.engine e).tripFrom = some z →
        (p.vCollapse ≤ f.stored.vOut → t.engines = s.engines ∧ t.outbox = s.outbox) ∧
        (f.stored.vOut < p.vCollapse →
          (p.tMax < s.now - z → t.engines = s.engines ∧ t.outbox = s.outbox) ∧
          (s.now - z ≤ p.tMax → s.now - z < p.tMin →
            s.Reaches t e c ⟨.tripEarly, some (s.now - z), some .collapse⟩) ∧
          (s.now - z ≤ p.tMax → p.tMin ≤ s.now - z →
            (t.engine e).phase = .watch ∧ (t.engine e).verdict = none ∧
            (t.engine e).copy = some { c with index := c.index + 1, kind := .restart } ∧
            (t.engine e).takeTick = s.now ∧ (t.engine e).lowSeen = true ∧
            (t.engine e).goodLevel = k.vGood * k.vNom / 1000 ∧
            (t.engine e).restartFrom = (if k.mode = .hiccup then some s.now else none) ∧
            (t.engine e).latchFrom = (if k.mode = .latch then some s.now else none) ∧
            t.outbox.get e = s.outbox.get e ++
              [.passage c.handle c.index (s.now - z) .collapse c.attempt] ∧
            (∀ a, (s.engine e).grant = [] → (s.engine e).reservation = .held a →
              (t.engine e).reservation = .none ∧
              t.feed.reservations = s.feed.reservations.filter (·.engine ≠ e)) ∧
            (∀ g ∈ (s.engine e).grant, g.load = false →
              ⟨g.bank, .set 0, false⟩ ∈ t.arb.asked) ∧
            ∀ f, f ≠ e → t.engine f = s.engine f))) ∧
      (∀ p k, c.kind = .restart → c.params = .trip p k →
        (f.stored.vOut < (s.engine e).goodLevel →
          t.engines = s.engines.put e { s.engine e with lowSeen := true }) ∧
        ((s.engine e).goodLevel ≤ f.stored.vOut → (s.engine e).lowSeen = false →
          t.engines = s.engines) ∧
        (∀ z, (s.engine e).goodLevel ≤ f.stored.vOut → (s.engine e).lowSeen = true →
          (s.engine e).restartFrom = some z →
          (s.now - z ≤ k.window →
            s.Reaches t e c ⟨.pass, some (s.now - z), none⟩) ∧
          (k.window < s.now - z → t.engines = s.engines)) ∧
        (∀ z w, (s.engine e).goodLevel ≤ f.stored.vOut → (s.engine e).lowSeen = true →
          (s.engine e).restartFrom = none → (s.engine e).latchFrom = some z →
          k.latchObserve = some w →
          (s.now - z ≤ w →
            s.Reaches t e c ⟨.unlatched, some (s.now - z), none⟩) ∧
          (w < s.now - z → t.engines = s.engines))) ∧
      (∀ p, c.kind = .derate → c.params = .derate p → (s.engine e).phase = .watch →
        let out := f.stored.overT = true ∨ f.stored.overVin = true ∨
          p.drift < (f.stored.temp - (s.engine e).captured).natAbs
        (out → s.StopsWith t e c .outOfConditions) ∧
        (¬out → (s.engine e).detection = .armed → f.stored.vOut < p.vCollapse →
          s.Reaches t e c ⟨.derateTripped, none, some .collapse⟩) ∧
        (¬out → p.vCollapse ≤ f.stored.vOut →
          ((s.engine e).collection = none → t.engines = s.engines) ∧
          (∀ k, (s.engine e).collection = some k →
            (f.stored.overV = true ∨ f.stored.overI = true →
              s.StopsWith t e c .outOfConditions) ∧
            (f.stored.overV = false → f.stored.overI = false →
              (k.count + 1 < p.window → t.engines = s.engines.put e { s.engine e with
                collection := some ⟨k.count + 1, k.sumV + f.stored.vOut,
                  k.sumI + f.stored.iOut⟩ }) ∧
              (k.count + 1 = p.window →
                let pMeas := (k.sumV + f.stored.vOut) / p.window *
                  ((k.sumI + f.stored.iOut) / p.window) / 1000
                let pExp := (s.engine e).pExp
                let tol := max p.tolAbs (pExp * p.tolPpt / 1000)
                (pExp + tol < pMeas → s.Reaches t e c ⟨.derateHigh, some pMeas, none⟩) ∧
                (pMeas + tol < pExp → s.Reaches t e c ⟨.derateLow, some pMeas, none⟩) ∧
                (pMeas ≤ pExp + tol → pExp ≤ pMeas + tol →
                  s.Reaches t e c ⟨.pass, some pMeas, none⟩))))))

/-- An accepted feed frame is stored and compared with the budget: a pause counts down, a draw at or
below B clears the over-draw count, and at the third draw in a row above B the candidate of lowest
priority and latest admission receives SHED, its mark is set and five frames are not compared. That the
victim takes SHED also when the same frame enters FAULT is the model's choice (log 21: a frame is
compared with the budget before it is judged against the window). -/
def Obligations.OverDrawShedsTheVictim : Prop :=
  (∀ (s : State) (bytes : List Byte),
    crc8Ok bytes = false ∨ bytes.length ≠ 7 ∨ bytes.head? ≠ some 0x02#8 →
    exec (.feedFrame bytes) s = .next s) ∧
  ∀ (s : State) (d1 d0 v1 v0 fs : Byte), s.held = false →
    let bytes := withCrc8 [0x02#8, d1, d0, v1, v0, fs]
    let d := min (d1.toNat * 256 + d0.toNat) 60000
    let v := min (v1.toNat * 256 + v0.toNat) 6000
    (s.feedSense.seq = some (fs.toNat / 16) → exec (.feedFrame bytes) s = .next s) ∧
    (s.feedSense.seq ≠ some (fs.toNat / 16) →
      ∃ t, exec (.feedFrame bytes) s = .next t ∧
        t.feedSense = ⟨.fresh, some ⟨d, v⟩, some (fs.toNat / 16), s.now⟩ ∧
        t.feed.budget = s.feed.budget ∧ t.feed.guard = s.feed.guard ∧ t.store = s.store ∧
        t.senses = s.senses ∧ t.bays = s.bays ∧ t.models = s.models ∧
        (0 < s.feed.pause →
          t.feed.pause = s.feed.pause - 1 ∧ t.feed.overCount = s.feed.overCount) ∧
        (s.feed.pause = 0 → d ≤ s.feed.budget → t.feed.pause = 0 ∧ t.feed.overCount = 0) ∧
        (s.feed.pause = 0 → s.feed.budget < d → s.feed.overCount < 2 →
          t.feed.pause = 0 ∧ t.feed.overCount = s.feed.overCount + 1) ∧
        (s.feed.pause = 0 → s.feed.budget < d → 2 ≤ s.feed.overCount →
          t.feed.overCount = 0 ∧
          ((∀ r ∈ s.feed.reservations, r.amount = 0 ∨ r.stopSent = true) → t.feed.pause = 0) ∧
          (∀ r c, r ∈ s.feed.reservations → 0 < r.amount → r.stopSent = false →
            (∀ x ∈ s.feed.reservations, 0 < x.amount → x.stopSent = false → x ≠ r →
              x.priority < r.priority ∨ x.priority = r.priority ∧ x.number < r.number) →
            s.OnLoad r.engine c → s.feed.waits = [] →
            t.feed.pause = 5 ∧ (t.engine r.engine).stop = some .shed ∧
            (t.engine r.engine).phase = .unload ∧
            ∀ x ∈ t.feed.reservations, x.engine = r.engine → x.stopSent = true)))

/-- The feed window state follows the voltage of each accepted frame: the second frame out of limits,
a frame outside the band while RECOVERING and a stale feed give FAULT, and every engine on a load step
takes FEED_LOST, which does not reach an engine in RESERVE; a frame in the band begins the recovery,
whose timer ends it at 1000 ms. -/
def Obligations.FeedWindowFollowsTheVoltage : Prop :=
  (∀ (s : State) (bytes : List Byte) (f : FeedFields), s.held = false →
    s.acceptFeed bytes = some f →
    let v := min f.volts 6000
    let band := s.feed.low + 50 ≤ v ∧ v + 50 ≤ s.feed.high
    ∃ t, exec (.feedFrame bytes) s = .next t ∧ t.feed.low = s.feed.low ∧
      t.feed.high = s.feed.high ∧
      (s.feed.window = .normal → s.feed.low ≤ v → v ≤ s.feed.high →
        t.feed.window = .normal ∧ t.feed.outCount = 0 ∧
        t.feed.recoverFrom = s.feed.recoverFrom) ∧
      (s.feed.window = .normal → v < s.feed.low ∨ s.feed.high < v → s.feed.outCount = 0 →
        t.feed.window = .normal ∧ t.feed.outCount = 1 ∧
        t.feed.recoverFrom = s.feed.recoverFrom) ∧
      (s.feed.window = .fault → band →
        t.feed.window = .recovering ∧ t.feed.outCount = 0 ∧ t.feed.recoverFrom = some s.now) ∧
      (s.feed.window = .fault → ¬band → t.feed.window = .fault ∧
        t.feed.recoverFrom = s.feed.recoverFrom) ∧
      (s.feed.window = .recovering → band → t.feed.window = .recovering ∧
        t.feed.recoverFrom = some (s.feed.recoverFrom.getD s.now)) ∧
      ((s.feed.window = .normal ∧ (v < s.feed.low ∨ s.feed.high < v) ∧ 1 ≤ s.feed.outCount) ∨
          (s.feed.window = .recovering ∧ ¬band) →
        t.feed.window = .fault ∧ t.feed.outCount = 0 ∧ t.feed.recoverFrom = none ∧
        (min f.draw 60000 ≤ s.feed.budget →
          (∀ e c, s.OnLoad e c →
            (t.engine e).stop = some .feedLost ∧ (t.engine e).phase = .unload) ∧
          ∀ e, (s.engine e).phase = .reserve → (∀ w ∈ s.arb.waits, w.engine ≠ e) →
            t.engine e = s.engine e))) ∧
  (∀ s : State, s.held = false →
    (s.feedSense.sense ≠ .fresh → exec .feedStale s = .next s) ∧
    (s.feedSense.sense = .fresh → s.ownWork = none → ∃ t, exec .feedStale s = .next t ∧
      s.PassedTo t (s.feedSense.arrival + 101) ∧
      t.feedSense = { s.feedSense with sense := .stale } ∧ t.feed.overCount = 0 ∧
      t.feed.window = .fault ∧ t.store = s.store ∧
      (s.feed.window = .fault → t = { s with
        now := t.now, arb := { s.arb with turn := t.arb.turn }, feedSense := t.feedSense,
        feed := { s.feed with overCount := 0 } }) ∧
      (s.feed.window ≠ .fault → t.feed.outCount = 0 ∧ t.feed.recoverFrom = none ∧
        (∀ e c, s.OnLoad e c →
          (t.engine e).stop = some .feedLost ∧ (t.engine e).phase = .unload) ∧
        ∀ e, (s.engine e).phase = .reserve → (∀ w ∈ s.arb.waits, w.engine ≠ e) →
          t.engine e = s.engine e))) ∧
  ∀ (s : State) (z : Nat), s.held = false → s.feed.recoverFrom = some z → s.ownWork = none →
    ∃ t, exec .recoveryExpiry s = .next t ∧ s.PassedTo t (z + 1000) ∧
      t.feed.window = .normal ∧ t.feed.recoverFrom = none ∧ t.store = s.store ∧
      (s.feed.waits = [] → t = { s with
        now := t.now, arb := { s.arb with turn := t.arb.turn },
        feed := { s.feed with window := .normal, recoverFrom := none } })

/-! ### Engines -/

/-- The lowest FREE engine takes the head of the start queue in every window state but FAULT: the record is
RUNNING with that engine and leaves the queue, and the engine is in RESERVE with its working copy, the
parameters of the model among it (each set in a model that has passed ACTIVATE). The enable output of its
seated bay stays on. A DERATE step asks the evaluator. The engine of a HOLD or TRIP step submits the
reservation of its step level: it joins the feed wait list and is tested at once, so that it is admitted when
it is the head and fits, and its engine is in ACQUIRE. That the submission is the engine's own next step, and
not part of the take, is the model's reading (log 37). A take that
finds a mismatch does not happen: the record goes DOUBTFUL and leaves the queue, or the
model goes DOUBTFUL and its QUEUED records are HELD, whatever state the damaged field reads (log 32). With
no FREE engine, an empty queue or the feed in FAULT nothing changes. -/
def Obligations.EngineTakesTheHead : Prop :=
  (∀ (s : State) (e : EngineIx) (c : WorkingCopy) (vNom eff : Nat),
    s.pending = [] → s.held = false → (∀ r ∈ s.feed.reservations, s.asksBanks r.engine = false) →
    (∀ f, f < e → (s.engine f).phase ≠ .reserve) → (s.engine e).phase = .reserve →
    (s.engine e).reservation = .none → (s.engine e).copy = some c →
    (∃ p, c.params = .hold p ∧ p.vNom = vNom ∧ p.effPpt = eff) ∨
      (∃ p k, c.params = .trip p k ∧ p.vNom = vNom ∧ p.effPpt = eff) →
    let amount := ((s.engine e).stepLevel * vNom / 1000 * 100 + eff - 1) / eff
    let asked : FeedWait := ⟨e, amount, c.priority, c.bay, s.feed.nextJoin⟩
    let fits := fun w : FeedWait => s.feed.window = .normal ∧
      s.feed.total + w.amount ≤ s.feed.budget - s.feed.guard
    (s.feed.waits = [] → fits asked →
      step s = .next { s with
        engines := s.engines.put e { s.engine e with
          reservation := .held amount, phase := .acquire }
        feed := { s.feed with
          nextJoin := s.feed.nextJoin + 1
          reservations := s.feed.reservations ++
            [⟨e, amount, c.priority, s.feed.nextNumber, false⟩]
          total := s.feed.total + amount
          nextNumber := s.feed.nextNumber + 1 } }) ∧
    ((∀ w ∈ asked :: s.feed.waits, ¬fits w) →
      ∃ t, step s = .next t ∧ t.feed.waits.Perm (asked :: s.feed.waits) ∧
        (s.WaitListsOrdered → t.WaitListsOrdered) ∧
        t = { s with
          engines := s.engines.put e { s.engine e with reservation := .waiting amount }
          feed := { s.feed with
            waits := t.feed.waits, nextJoin := s.feed.nextJoin + 1 } })) ∧
  ∀ s : State, s.held = false → s.ownWork = none →
    (s.store.queue = [] ∨ s.feed.window = .fault ∨ (∀ e, (s.engine e).phase ≠ .free) →
      exec .engineTake s = .next s) ∧
    ∀ (e : EngineIx) (i : SlotIx) (rest : List SlotIx) (r : ShelfRecord),
      s.store.queue = i :: rest → s.feed.window ≠ .fault → (s.engine e).phase = .free →
      (∀ f, f < e → (s.engine f).phase ≠ .free) → s.record i = some r →
      (r.intact = false → (∀ f, s.holds f (s.handleOf i) = false) →
        ∃ t r', exec .engineTake s = .next t ∧ t.slot i = ⟨(s.slot i).gen, some r'⟩ ∧
          r' = { r with state := .doubtful, hold := none, engaged := none, code := r'.code } ∧
          r'.intact = true ∧ s.OtherSlotsKept t i ∧ t.store.queue = rest.filter (· ≠ i) ∧
          (∃ y ∈ t.store.attention, y.handle = s.handleOf i ∧ y.reasons.doubt = true) ∧
          t.engines = s.engines ∧ t.feed = s.feed ∧ t.arb = s.arb ∧ t.models = s.models) ∧
      ∀ (m : ModelIx) (x : Model), r.intact = true → r.model = s.modelHandleOf m →
        s.model m = some x →
        (x.intact = false → x.state ≠ .doubtful ∨ r.state = .queued →
          ∃ t y, exec .engineTake s = .next t ∧ t.modelSlot m = ⟨(s.modelSlot m).gen, some y⟩ ∧
            y = { x with state := .doubtful, refCount := s.namingCount m, code := y.code } ∧
            y.intact = true ∧ (∀ n, n ≠ m → t.modelSlot n = s.modelSlot n) ∧
            t.engines = s.engines ∧ t.feed = s.feed ∧ t.arb = s.arb ∧
            (∀ j u, s.record j = some u → u.model = s.modelHandleOf m → u.state = .queued →
              j ∉ t.store.queue ∧ ∃ u', t.slot j = ⟨(s.slot j).gen, some u'⟩ ∧
                u'.intact = true ∧
                u' = { u with state := .held, hold := some .modelDoubt, code := u'.code }) ∧
            (∀ j, (∀ u, s.record j = some u → u.model ≠ s.modelHandleOf m ∨ u.state ≠ .queued) →
              t.slot j = s.slot j)) ∧
        ∀ (b : BayIx) (iMod vNom eff : Nat), x.intact = true → r.bay = some b →
          x.params.iMod = some iMod → x.params.vNom = some vNom → x.params.effPpt = some eff →
          let took := fun (t : State) (k : StepKind) (p : StepParams) => ∃ r' c,
            exec .engineTake s = .next t ∧
            t.slot i = ⟨(s.slot i).gen, some r'⟩ ∧ r'.intact = true ∧
            r' = { r with state := .running, engaged := some e, code := r'.code } ∧
            t.store.queue = rest.filter (· ≠ i) ∧ s.OtherSlotsKept t i ∧
            (∀ f, f ≠ e → t.engine f = s.engine f) ∧ (t.engine e).phase = .reserve ∧
            (t.engine e).takeTick = s.now ∧ (t.engine e).verdict = none ∧
            (t.engine e).stop = none ∧ (t.engine e).grant = [] ∧ (t.engine e).watch = false ∧
            (t.engine e).copy = some c ∧ c.handle = s.handleOf i ∧ c.bay = b ∧
            c.priority = r.priority ∧ c.index = r.cursor ∧ c.kind = k ∧ c.params = p ∧
            c.mPresent = r.mPresent ∧ c.attempt = r.retry + 1 ∧
            (t.engine e).reservation = .none ∧
            (∀ y, s.SeatedAt y (s.handleOf i) → t.enableOutput y = true) ∧
            t = { s with
              store := { s.store with slots := t.store.slots, queue := t.store.queue }
              engines := t.engines }
          let level := fun lv : Nat => min (iMod * r.mPresent * lv / 1000) 20000
          let q := x.params
          (∀ lv d, x.plan[r.cursor]? = some (.hold lv d) →
            ∃ t, took t .hold (.hold
              { levelPpt := lv, duration := d, iMod := iMod, vNom := vNom,
                vCollapse := q.vCollapse.getD 0, effPpt := eff }) ∧
              (t.engine e).stepLevel = level lv ∧ (t.engine e).evalAsked = false) ∧
          (∀ lv, x.plan[r.cursor]? = some (.trip lv) → x.plan[r.cursor + 1]? = some .restart →
            ∃ t, took t .trip (.trip
              { levelPpt := lv, iMod := iMod, vNom := vNom, vCollapse := q.vCollapse.getD 0,
                tMin := q.tMin.getD 0, tMax := q.tMax.getD 0, effPpt := eff }
              { vGood := q.vGood.getD 0, vNom := vNom, mode := q.restartMode.getD .hiccup,
                window := q.restartWindow.getD 0,
                latchObserve := if q.restartMode = some .latch then q.latchObserve else none }) ∧
              (t.engine e).stepLevel = level lv ∧ (t.engine e).evalAsked = false) ∧
          (x.plan[r.cursor]? = some .derate →
            ∃ t, took t .derate (.derate
              { curve := x.curve, pCap := q.pCap.getD 0, mRated := q.mRated.getD 0, vNom := vNom,
                vKnee := q.vKnee.getD 0, vMin := q.vMin.getD 0, tolAbs := q.tolAbs.getD 0,
                tolPpt := q.tolPpt.getD 0, effPpt := eff, overPpt := q.overPpt.getD 0,
                settleMs := q.settleMs.getD 0, window := q.window.getD 0, drift := q.drift.getD 0,
                vCollapse := q.vCollapse.getD 0 }) ∧
              (t.engine e).evalAsked = true)

/-- The evaluator answers the engine that asked: with the captured temperature, P_exp, I_set and the
reservation; or with OUT_OF_CONDITIONS or NO_CAPACITY, which the engine in RESERVE takes and closes with.
The reservation joins the feed wait list and the list is tested: it waits outside NORMAL or when it does
not fit, and otherwise is admitted and its engine is in ACQUIRE, with its bank request still to be made.
That the submission and the test come within the step of the evaluation is the model's reading (log 37,
from file 95), and so is that the work of the other engines comes before it. -/
def Obligations.EvaluatorAnswersTheEngine : Prop :=
  ∀ (s : State) (e : EngineIx) (c : WorkingCopy) (p : DerateParams), s.held = false →
    (s.engine e).phase = .reserve → (s.engine e).evalAsked = true →
    (s.engine e).copy = some c → c.params = .derate p → (s.engine e).verdict = none →
    (s.engine e).stop = none → s.feed.waits = [] → s.ownWork = none →
    let closed := fun o : StepOutcome => ∃ t, exec (.derateEvaluation e) s = .next t ∧
      t.engine e = Engine.free ∧ (∀ f, f ≠ e → t.engine f = s.engine f) ∧
      t.outbox = s.outbox.put e (s.outbox.get e ++
        [.close c.handle c.index c.kind o none none c.attempt false]) ∧
      t = { s with engines := t.engines, outbox := t.outbox }
    (((s.sense c.bay).sense ≠ .fresh ∨ (s.sense c.bay).sample = none) →
      closed .outOfConditions) ∧
    ∀ x, (s.sense c.bay).sense = .fresh → (s.sense c.bay).sample = some x →
      (x.overT = true ∨ x.overVin = true ∨ x.vIn < p.vMin → closed .outOfConditions) ∧
      (x.overT = false → x.overVin = false → p.vMin ≤ x.vIn →
        let pT := (curvePower p.curve x.temp).toNat
        let pTV := if p.vKnee ≤ x.vIn then pT else pT * x.vIn / p.vKnee
        let pExp := min (pTV * c.mPresent / p.mRated) p.pCap
        let iSet := min (pExp * (1000 + p.overPpt) / p.vNom) 20000
        let amount := (iSet * p.vNom / 1000 * 100 + p.effPpt - 1) / p.effPpt
        (pExp = 0 → closed .outOfConditions) ∧
        (pExp ≠ 0 → s.totalOnline < iSet → closed .noCapacity) ∧
        (pExp ≠ 0 → iSet ≤ s.totalOnline →
          ∃ t, exec (.derateEvaluation e) s = .next t ∧
            t = { s with engines := t.engines, feed := t.feed } ∧
            let answered := { s.engine e with
              evalAsked := false, captured := x.temp, pExp := pExp, stepLevel := iSet }
            (s.feed.window ≠ .normal ∨ s.feed.budget - s.feed.guard < s.feed.total + amount →
              t.engines = s.engines.put e { answered with reservation := .waiting amount } ∧
              t.feed = { s.feed with
                waits := [⟨e, amount, c.priority, c.bay, s.feed.nextJoin⟩]
                nextJoin := s.feed.nextJoin + 1 }) ∧
            (s.feed.window = .normal → s.feed.total + amount ≤ s.feed.budget - s.feed.guard →
              t.engines = s.engines.put e
                { answered with reservation := .held amount, phase := .acquire } ∧
              t.feed = { s.feed with
                nextJoin := s.feed.nextJoin + 1
                reservations := s.feed.reservations ++
                  [⟨e, amount, c.priority, s.feed.nextNumber, false⟩]
                total := s.feed.total + amount
                nextNumber := s.feed.nextNumber + 1 })))

/-- The power that a curve allows at a temperature, and the line factor. -/
def Obligations.CurveAndLineFactor : Prop :=
  (∀ (ks : List Knot) (T : Int), 2 ≤ ks.length → ks.length ≤ 6 →
    ks.Pairwise (fun a b => a.temp < b.temp) →
    (∀ k, ks.head? = some k → T ≤ k.temp → curvePower ks T = k.power) ∧
    (∀ k, ks.getLast? = some k → k.temp ≤ T → curvePower ks T = k.power) ∧
    (∀ (n : Nat) (k : Knot), ks[n]? = some k → T = k.temp → curvePower ks T = k.power) ∧
    (∀ (n : Nat) (k k' : Knot), ks[n]? = some k → ks[n + 1]? = some k' → k.temp ≤ T → T < k'.temp →
      let product := ((k'.power : Int) - k.power) * (T - k.temp)
      let quotient := product.tdiv (k'.temp - k.temp)
      curvePower ks T = k.power + quotient ∧ 1 ≤ k'.temp - k.temp ∧
      quotient.natAbs ≤ ((k'.power : Int) - k.power).natAbs ∧
      min (k.power : Int) k'.power ≤ curvePower ks T ∧
      curvePower ks T ≤ max (k.power : Int) k'.power ∧
      (k'.power < k.power →
        product ≤ (curvePower ks T - k.power) * (k'.temp - k.temp)) ∧
      (k.inRange = true → k'.inRange = true → product.natAbs ≤ 197880000)) ∧
    (∀ pCap : Nat, (∀ k ∈ ks, k.power ≤ pCap) →
      0 ≤ curvePower ks T ∧ curvePower ks T ≤ pCap)) ∧
  (∀ pT vIn vKnee : Nat,
    (vKnee ≤ vIn → linePower pT vIn vKnee = pT) ∧
    (vIn < vKnee → linePower pT vIn vKnee = pT * vIn / vKnee ∧ 1 ≤ vKnee) ∧
    linePower pT vIn vKnee ≤ pT ∧ linePower pT vKnee vKnee = pT ∧
    (pT ≤ 120000 → vIn < vKnee → vKnee ≤ 3000 → pT * vIn < 360000000)) ∧
  (∀ (p : DerateParams) (k : BaySense) (x : Sample),
    startConditions p k = some x → p.vMin ≤ x.vIn) ∧
  ∀ (x : Model) (pT : Nat), x.firstFault = none →
    x.derateParams.vMin < x.derateParams.vKnee ∧
    linePower pT x.derateParams.vMin x.derateParams.vKnee =
      pT * x.derateParams.vMin / x.derateParams.vKnee

/-- The shares of a complete grant sum to the need, each within its bank's capability. The banks chosen are
the IDLE ones of greatest capability, ties to the lower address, and no more of them than the need takes.
On an empty queue the engine admitted first of those that have not asked for banks makes its request, in a
step of its own (log 37): a need above the total is answered NO_CAPACITY, another waits, or goes into
service when it is the only one and can be met. A step level of 0 needs no bank: the engine goes through
LOAD to WATCH at once with detection armed, an indicator already active ends the step, and a bay that is
not FRESH ends it with SENSE_LOST; that SENSE_LOST comes first when the indicator is active too is the
model's choice (log 38). -/
def Obligations.SharesSumToTheNeed : Prop :=
  (∀ (need : Nat) (caps : List Nat), caps ≠ [] → (∀ c ∈ caps, 0 < c) → need ≤ caps.sum →
    let shares := State.sharesOf need caps
    let r := need - (caps.map fun c => need * c / caps.sum).sum
    shares.length = caps.length ∧ shares.sum = need ∧ r < caps.length ∧
    (∀ (n : Nat) (c : Nat), caps[n]? = some c →
      shares[n]? = some (need * c / caps.sum + if n < r then 1 else 0) ∧
      ∀ h, shares[n]? = some h → h ≤ c) ∧
    (need = caps.sum → shares = caps)) ∧
  (∀ (s : State) (need : Nat),
    let cap := fun b => (s.bank b).cap
    (∀ banks, s.chooseBanks need 0 s.idleBanks = some banks →
      need ≤ (banks.map cap).sum ∧
      (∀ b ∈ banks, (s.bank b).state = .idle ∧ 0 < cap b ∧ b.val < s.straps.banks) ∧
      banks.Pairwise (fun a b => cap b < cap a ∨ (cap a = cap b ∧ a < b)) ∧
      (∀ b c, b ∈ banks → c ∉ banks → c.val < s.straps.banks → (s.bank c).state = .idle →
        cap c < cap b ∨ (cap c = cap b ∧ b < c)) ∧
      ∀ front last, banks = front ++ [last] → (front.map cap).sum < need) ∧
    (s.chooseBanks need 0 s.idleBanks = none →
      ((s.addresses.filter fun b => (s.bank b).state = .idle).map cap).sum < need)) ∧
  ∀ (s : State) (e : EngineIx) (c : WorkingCopy) (pre post : List Reservation) (r : Reservation),
    s.pending = [] → s.held = false → s.feed.reservations = pre ++ r :: post → r.engine = e →
    (∀ y ∈ pre, s.asksBanks y.engine = false) → (s.engine e).phase = .acquire →
    (s.engine e).bankReq = .notMade → (s.engine e).copy = some c → (s.engine e).verdict = none →
    (s.engine e).stop = none →
    let need := (s.engine e).stepLevel
    let asked : BankWait := ⟨e, need, c.priority, c.bay, s.arb.nextJoin⟩
    let closed := fun (o : StepOutcome) (value : Option Nat) (cause : Option DetectCause) =>
      ∃ t, step s = .next t ∧ t.engines = s.engines.put e Engine.free ∧
        t.outbox = s.outbox.put e (s.outbox.get e ++
          [.close c.handle c.index c.kind o value cause c.attempt false]) ∧
        t.feed.reservations = s.feed.reservations.filter (·.engine ≠ e) ∧
        t = { s with engines := t.engines, outbox := t.outbox, feed := t.feed }
    (need ≠ 0 → s.totalOnline < need → s.feed.waits = [] → closed .noCapacity none none) ∧
    (need ≠ 0 → need ≤ s.totalOnline →
      s.arb.service ≠ none ∨ (∀ w ∈ asked :: s.arb.waits,
        ((s.addresses.filter fun b => (s.bank b).state = .idle).map
          fun b => (s.bank b).cap).sum < w.need) →
      ∃ t, step s = .next t ∧ t.arb.waits.Perm (asked :: s.arb.waits) ∧
        (s.WaitListsOrdered → t.WaitListsOrdered) ∧
        t = { s with
          engines := s.engines.put e { s.engine e with bankReq := .waiting }
          arb := { s.arb with waits := t.arb.waits, nextJoin := s.arb.nextJoin + 1 } }) ∧
    (∀ b bs, need ≠ 0 → need ≤ s.totalOnline → s.arb.service = none → s.arb.waits = [] →
      s.chooseBanks need 0 s.idleBanks = some (b :: bs) →
      ∃ t, step s = .next t ∧
        (∀ y, t.bank y =
          if y ∈ b :: bs then { s.bank y with state := .connecting } else s.bank y) ∧
        t = { s with
          engines := s.engines.put e { s.engine e with bankReq := .connecting }
          arb := { s.arb with
            roster := t.arb.roster
            nextJoin := s.arb.nextJoin + 1
            asked := s.arb.asked ++ [⟨b, .connect c.bay, false⟩]
            service := some ⟨e, need, c.bay, s.arb.nextJoin, b :: bs, .active⟩ } }) ∧
    (need = 0 → (s.sense c.bay).sense = .fresh → (s.bay c.bay).indicator = false →
      step s = .next { s with engines := s.engines.put e { s.engine e with
        phase := .watch, watch := true, grant := [], granted := some s.now, setSent := true
        detection := .armed
        tripFrom := if c.kind = .trip then some s.now else none
        holdFrom := if c.kind = .hold then some s.now else (s.engine e).holdFrom
        settleFrom := if c.kind = .derate then some s.now else (s.engine e).settleFrom } }) ∧
    (need = 0 → (s.sense c.bay).sense ≠ .fresh → s.feed.waits = [] →
      closed .senseLost none none) ∧
    (need = 0 → (s.sense c.bay).sense = .fresh → (s.bay c.bay).indicator = true →
      s.feed.waits = [] →
      (∀ p, c.params = .hold p → closed .holdTripped none (some .indicator)) ∧
      (∀ p, c.params = .derate p → closed .derateTripped none (some .indicator)) ∧
      (∀ p k, c.kind = .trip → c.params = .trip p k → 0 < p.tMin →
        closed .tripEarly (some 0) (some .indicator)))

/-! ### The load link -/

/-- A turn sends the oldest unload-class request whose bank has no open exchange and no older request
queued, else the oldest normal-class one, else it polls the open exchange polled least recently; a link
with nothing to do stays idle. The first SET of a load step arms detection; an indicator that is active
then is a detection at that tick, at the elapsed time 0 of a TRIP step. -/
def Obligations.LinkTurnsFollowTheQueue : Prop :=
  ∀ s : State, s.held = false → s.ownWork = none →
    let timed := fun t : State => (s.arb.turn = none → t.now = s.now) ∧
      (s.arb.turn ≠ none → t.now = s.now + 1)
    let blocked := fun (l : List Asked) (unload : Bool) => ∀ pre x post, l = pre ++ x :: post →
      x.request.unload = unload → ¬s.Eligible pre x
    (∀ pre a post, s.arb.asked = pre ++ a :: post → s.Eligible pre a →
      (a.request.unload = true ∧ blocked pre true) ∨
        (a.request.unload = false ∧ blocked s.arb.asked true ∧ blocked pre false) →
      ∃ t, exec .linkTurn s = .next t ∧ timed t ∧
        t.exchange a.bank = some ⟨a.request, t.now, t.now⟩ ∧
        (∀ c, c ≠ a.bank → t.exchange c = s.exchange c) ∧
        t.arb.turn = some ⟨a.bank, false, withCrc8 (byteOf a.bank.val :: match a.request with
          | .identify => [0x01#8, 0x00#8, 0x00#8, 0x00#8]
          | .connect b => [0x02#8, 0x00#8, byteOf b.val, 0x00#8]
          | .set n => 0x03#8 :: (be16 n ++ [0x00#8])
          | .release => [0x04#8, 0x00#8, 0x00#8, 0x00#8])⟩ ∧
        (a.load = false → t.arb.asked = pre ++ post ∧ t.arb.roster = s.arb.roster ∧
          t = { s with now := t.now, arb := t.arb }) ∧
        (∀ e c, a.load = true → (s.bank a.bank).engine = some e →
          (s.engine e).phase = .load → (s.engine e).setSent = false →
          (s.engine e).copy = some c → (s.bay c.bay).indicator = false →
          t.arb.asked = pre ++ post ∧ t.arb.roster = s.arb.roster ∧ t.feed = s.feed ∧
          t.engines = s.engines.put e { s.engine e with
            setSent := true, detection := .armed,
            tripFrom := if c.kind = .trip then some t.now else none }) ∧
        (∀ e c, a.load = true → (s.bank a.bank).engine = some e →
          (s.engine e).phase = .load → (s.engine e).setSent = false →
          (s.engine e).copy = some c → (s.engine e).grant ≠ [] →
          (s.bay c.bay).indicator = true → s.feed.waits = [] →
          (∀ f, f ≠ e → t.engine f = s.engine f) ∧ t.store = s.store ∧ t.bays = s.bays ∧
          t.senses = s.senses ∧
          let ended := fun (o : StepOutcome) (value : Option Nat) =>
            (t.engine e).phase = .unload ∧ (t.engine e).watch = false ∧
              (t.engine e).copy = some c ∧ t.outbox = s.outbox ∧
              (t.engine e).verdict = some ⟨o, value, some .indicator⟩ ∧
              (t.engine e).grant.map (·.bank) = (s.engine e).grant.map (·.bank) ∧
              ∀ g ∈ (s.engine e).grant, (t.bank g.bank).level = 0 ∧
                ((s.bank g.bank).level ≠ 0 → ⟨g.bank, .set 0, false⟩ ∈ t.arb.asked)
          (∀ p, c.params = .hold p → ended .holdTripped none) ∧
          (∀ p, c.params = .derate p → ended .derateTripped none) ∧
          (∀ p k, c.kind = .trip → c.params = .trip p k →
            (0 < p.tMin → ended .tripEarly (some 0)) ∧
            (p.tMin = 0 → (t.engine e).phase = .watch ∧ (t.engine e).verdict = none ∧
              (t.engine e).copy = some { c with index := c.index + 1, kind := .restart } ∧
              t.outbox = s.outbox.put e (s.outbox.get e ++
                [.passage c.handle c.index 0 .indicator c.attempt]))))) ∧
    (blocked s.arb.asked true → blocked s.arb.asked false →
      (∀ b x, b.val < s.straps.banks → s.exchange b = some x →
        (∀ c y, c.val < s.straps.banks → c ≠ b → s.exchange c = some y →
          x.polled < y.polled ∨ (x.polled = y.polled ∧ b < c)) →
        ∃ t, exec .linkTurn s = .next t ∧ timed t ∧
          t.exchange b = some { x with polled := t.now } ∧
          (∀ c, c ≠ b → t.exchange c = s.exchange c) ∧
          t.arb.turn =
            some ⟨b, true, withCrc8 [byteOf b.val, 0x05#8, 0x00#8, 0x00#8, 0x00#8]⟩ ∧
          t.arb.asked = s.arb.asked ∧ t.arb.roster = s.arb.roster ∧
          t = { s with now := t.now, arb := t.arb }) ∧
      ((∀ b, b.val < s.straps.banks → s.exchange b = none) →
        ∃ t, exec .linkTurn s = .next t ∧ timed t ∧
          t = { s with now := t.now, arb := { s.arb with turn := none } }))

/-- IDENT makes an OFFLINE bank IDLE with its clamped capability; READY connects a chosen bank and asks the
next CONNECT, or completes the grant, whose SETs are asked in grant order; the READY of a service that has
failed or been withdrawn is answered with a RELEASE and ends the service, and the engine of a withdrawn one
closes with its stop cause; WAIT keeps the exchange open; RELEASED returns a bank to IDLE, and the engine
whose last bank it was closes its step. A reply with a wrong check code, outside a POLL of its bank, or of a
kind or with a byte 4 that does not answer the open exchange, is discarded. That a reply outside a POLL is
discarded also while an exchange is open is the model's reading (log 20), that one with any of bits 7 to 3
of its address byte set is discarded is its choice (log 41), and so is that the SETs are asked in the step
that completes the grant (log 17) and that the engines' work that waits comes before a reply taken (log 37).
-/
def Obligations.BankRepliesAreTaken : Prop :=
  (∀ (s : State) (bytes : List Byte), crc8Ok bytes = false ∨ s.arb.turn = none →
    ∀ c ∈ [Instr.identReply bytes, .readyReply bytes, .levelReply bytes, .releasedReply bytes,
      .waitReply bytes, .faultReply bytes], exec c s = .next s) ∧
  (∀ (s : State) (a k v1 v0 m : Byte),
    let bytes := withCrc8 [a, k, v1, v0, m]
    (∀ b : BankIx, a.toNat = b.val → s.awaits b = false ∨ s.exchange b = none) →
    ∀ c ∈ [Instr.identReply bytes, .readyReply bytes, .levelReply bytes, .releasedReply bytes,
      .waitReply bytes, .faultReply bytes], exec c s = .next s) ∧
  (∀ (s : State) (b : BankIx) (x : Exchange) (k v1 v0 m : Byte), s.Polled b x →
    let bytes := withCrc8 [byteOf b.val, k, v1, v0, m]
    (k ≠ 0x81#8 ∨ x.request ≠ .identify ∨ m ≠ 0x00#8 → exec (.identReply bytes) s = .next s) ∧
    (k ≠ 0x82#8 ∨ (∀ y, x.request ≠ .connect y) ∨ m ≠ 0x00#8 →
      exec (.readyReply bytes) s = .next s) ∧
    (k ≠ 0x83#8 ∨ (∀ n, x.request ≠ .set n) ∨ (m ≠ 0x00#8 ∧ m ≠ 0x01#8) →
      exec (.levelReply bytes) s = .next s) ∧
    (k ≠ 0x84#8 ∨ x.request ≠ .release ∨ m ≠ 0x00#8 →
      exec (.releasedReply bytes) s = .next s) ∧
    (k ≠ 0x85#8 ∨ m ≠ 0x00#8 → exec (.waitReply bytes) s = .next s) ∧
    (k ≠ 0x86#8 → exec (.faultReply bytes) s = .next s)) ∧
  ∀ (s : State) (b : BankIx) (x : Exchange) (v1 v0 : Byte), s.Polled b x → s.ownWork = none →
    (x.request = .identify → s.arb.waits = [] ∨ s.arb.service ≠ none →
      ∃ t, exec (.identReply (withCrc8 [byteOf b.val, 0x81#8, v1, v0, 0x00#8])) s = .next t ∧
        s.ExchangeClosed t b ∧
        t = { s with arb := { s.arb with
          roster := t.arb.roster, exchanges := t.arb.exchanges, turn := t.arb.turn } } ∧
        (∀ c, c ≠ b → t.bank c = s.bank c) ∧
        ((s.bank b).state = .offline → t.bank b =
          ⟨.idle, min (v1.toNat * 256 + v0.toNat) 20000, none, none, 0, none⟩) ∧
        ((s.bank b).state ≠ .offline → t.bank b = s.bank b)) ∧
    (∀ y v, x.request = .connect y → s.arb.service = some v → v.status = .active →
      b ∈ v.chosen → (s.bank b).state = .connecting →
      ∃ t, exec (.readyReply (withCrc8 [byteOf b.val, 0x82#8, v1, v0, 0x00#8])) s = .next t ∧
        s.ExchangeClosed t b ∧ t.store = s.store ∧
        (∀ c, v.chosen.find? (fun c => c ≠ b && (s.bank c).state = .connecting) = some c →
          t.arb.asked = s.arb.asked ++ [⟨c, .connect v.bay, false⟩] ∧
          t.bank b = { s.bank b with
            state := .connected, bay := some v.bay, engine := some v.engine, level := 0 } ∧
          t = { s with arb := { s.arb with
            roster := t.arb.roster, exchanges := t.arb.exchanges, turn := t.arb.turn,
            asked := t.arb.asked } }) ∧
        (∀ k, (∀ c ∈ v.chosen, c ≠ b → (s.bank c).state ≠ .connecting) →
          s.arb.waits = [] → (s.engine v.engine).copy = some k →
          (s.sense k.bay).sense = .fresh →
          let shares := State.sharesOf v.need (v.chosen.map fun c => (s.bank c).cap)
          t.arb.service = none ∧ t.feed = s.feed ∧ (t.engine v.engine).phase = .load ∧
          (t.engine v.engine).watch = true ∧ (t.engine v.engine).bankReq = .granted ∧
          (t.engine v.engine).granted = some s.now ∧
          (t.engine v.engine).grant.map (·.bank) = v.chosen ∧
          (t.engine v.engine).grant.map (·.share) = shares ∧
          (∀ g ∈ (t.engine v.engine).grant, g.load = true) ∧
          t.arb.asked = s.arb.asked ++
            (v.chosen.zip shares).map (fun p => ⟨p.1, .set p.2, true⟩))) ∧
    (∀ y v, x.request = .connect y → s.arb.service = some v → v.status ≠ .active →
      b ∈ v.chosen → (s.bank b).state = .connecting → s.feed.waits = [] →
      (∀ w ∈ s.arb.waits, ((s.addresses.filter fun c => (s.bank c).state = .idle).map
        fun c => (s.bank c).cap).sum < w.need) →
      ∃ t, exec (.readyReply (withCrc8 [byteOf b.val, 0x82#8, v1, v0, 0x00#8])) s = .next t ∧
        s.ExchangeClosed t b ∧ t.arb.service = none ∧ t.arb.waits = s.arb.waits ∧
        t.arb.asked = s.arb.asked ++ [⟨b, .release, false⟩] ∧
        t.bank b = { s.bank b with
          state := .releasing, bay := some v.bay, engine := none, level := 0 } ∧
        (∀ c, c ≠ b → t.bank c = s.bank c) ∧
        (v.status = .failed → t = { s with arb := t.arb }) ∧
        (∀ k why, v.status = .withdrawn → (s.engine v.engine).copy = some k →
          (s.engine v.engine).stop = some why → (s.engine v.engine).verdict = none →
          t.engines = s.engines.put v.engine Engine.free ∧
          t.outbox = s.outbox.put v.engine (s.outbox.get v.engine ++
            [.close k.handle k.index k.kind why.outcome none none k.attempt false]) ∧
          t.feed.reservations = s.feed.reservations.filter (·.engine ≠ v.engine) ∧
          t = { s with
            arb := t.arb, engines := t.engines, outbox := t.outbox, feed := t.feed })) ∧
    (∃ t, exec (.waitReply (withCrc8 [byteOf b.val, 0x85#8, v1, v0, 0x00#8])) s = .next t ∧
      t.arb.turn = s.arb.turn.map (fun u => { u with awaiting := false }) ∧
      t = { s with arb := { s.arb with turn := t.arb.turn } }) ∧
    (x.request = .release → (s.bank b).state = .releasing → s.arb.waits = [] →
      ∃ t, exec (.releasedReply (withCrc8 [byteOf b.val, 0x84#8, v1, v0, 0x00#8])) s = .next t ∧
        s.ExchangeClosed t b ∧ t.bank b =
          { s.bank b with state := .idle, bay := none, engine := none, level := 0 } ∧
        ((s.bank b).engine = none → t = { s with arb := t.arb } ∧
          (∀ c, c ≠ b → t.bank c = s.bank c)) ∧
        (∀ e c v, (s.bank b).engine = some e → (s.engine e).phase = .unload →
          (s.engine e).releasing = true → (s.engine e).copy = some c →
          (s.engine e).verdict = some v → (s.engine e).stop = none →
          (∀ f, f ≠ e → t.engine f = s.engine f) ∧ (∀ c, c ≠ b → t.bank c = s.bank c) ∧
          ((∀ g ∈ (s.engine e).grant, g.bank = b) → t.engine e = Engine.free ∧
            t.outbox = s.outbox.put e (s.outbox.get e ++
              [.close c.handle c.index c.kind v.outcome v.value v.cause c.attempt false])) ∧
          ((∃ g ∈ (s.engine e).grant, g.bank ≠ b) → t.outbox = s.outbox ∧
            t.engine e = { s.engine e with
              grant := (s.engine e).grant.filter (·.bank ≠ b) })))

/-- LEVEL: the last reply of a load step takes the engine to WATCH and starts a HOLD step's duration or
a DERATE step's settle time; a bank that reports "limited" ends a HOLD step; the last SET 0 of UNLOAD
releases the reservation and asks RELEASE of every bank held. In the WATCH of a RESTART step the reply to a
load SET of the TRIP step brings the SET 0 that waited for it, and the last SET 0 answered releases the
reservation, with the banks held. -/
def Obligations.LevelRepliesMoveTheEngine : Prop :=
  ∀ (s : State) (b : BankIx) (x : Exchange) (v1 v0 mark : Byte) (e : EngineIx) (c : WorkingCopy)
    (n : Nat), s.Polled b x → s.ownWork = none → x.request = .set n → (s.bank b).engine = some e →
    (s.engine e).copy = some c → mark = 0x00#8 ∨ mark = 0x01#8 → s.feed.waits = [] →
    ∃ t, exec (.levelReply (withCrc8 [byteOf b.val, 0x83#8, v1, v0, mark])) s = .next t ∧
      s.ExchangeClosed t b ∧ (∀ f, f ≠ e → t.engine f = s.engine f) ∧ t.store = s.store ∧
      t.models = s.models ∧ t.bays = s.bays ∧ t.senses = s.senses ∧
      ((s.engine e).phase = .load → mark = 0x00#8 ∨ c.kind ≠ .hold →
        (∀ g ∈ (s.engine e).grant, g.bank ≠ b → g.load = false) →
        (t.engine e).phase = .watch ∧ (t.engine e).copy = some c ∧
        (c.kind = .hold → (t.engine e).holdFrom = some s.now) ∧
        (c.kind = .derate → (t.engine e).settleFrom = some s.now) ∧ t.feed = s.feed) ∧
      ((s.engine e).phase = .load → mark = 0x00#8 ∨ c.kind ≠ .hold →
        (∃ g ∈ (s.engine e).grant, g.bank ≠ b ∧ g.load = true) →
        (t.engine e).phase = .load ∧ t.feed = s.feed) ∧
      ((s.engine e).phase = .load → mark = 0x01#8 → c.kind = .hold →
        (s.engine e).grant ≠ [] → s.Unloads t e ∧
        (t.engine e).verdict = some ⟨.holdLimited, none, none⟩) ∧
      ((s.engine e).phase = .unload → (s.engine e).releasing = false → n = 0 →
        (s.engine e).grant ≠ [] → (∀ g ∈ (s.engine e).grant, g.rezero = false ∧
          (g.bank = b → g.zeros = 1) ∧ (g.bank ≠ b → g.zeros = 0)) →
        (t.engine e).phase = .unload ∧ (t.engine e).releasing = true ∧
        (t.engine e).reservation = .none ∧ (∀ r ∈ t.feed.reservations, r.engine ≠ e) ∧
        ∀ g ∈ (s.engine e).grant, (t.bank g.bank).state = .releasing ∧
          ⟨g.bank, .release, false⟩ ∈ t.arb.asked) ∧
      ((s.engine e).phase = .watch → c.kind = .restart →
        (∃ g ∈ (s.engine e).grant, g.bank = b ∧ g.rezero = true) →
        ⟨b, .set 0, false⟩ ∈ t.arb.asked ∧ (t.bank b).level = 0 ∧ t.feed = s.feed ∧
        (t.engine e).phase = .watch ∧ (t.engine e).copy = some c ∧
        (t.engine e).reservation = (s.engine e).reservation) ∧
      (∀ a, (s.engine e).phase = .watch → c.kind = .restart → n = 0 →
        (s.engine e).reservation = .held a → (∀ g ∈ (s.engine e).grant, g.rezero = false) →
        ((∀ g ∈ (s.engine e).grant, (g.bank = b → g.zeros ≤ 1) ∧ (g.bank ≠ b → g.zeros = 0)) →
          (t.engine e).reservation = .none ∧
          t.feed.reservations = s.feed.reservations.filter (·.engine ≠ e) ∧
          (t.engine e).phase = .watch ∧ (t.engine e).copy = some c ∧
          (t.engine e).grant.map (·.bank) = (s.engine e).grant.map (·.bank) ∧
          t.arb.asked = s.arb.asked ∧ t.arb.roster = s.arb.roster) ∧
        ((∃ g ∈ (s.engine e).grant, g.bank ≠ b ∧ g.zeros ≠ 0) →
          t.feed = s.feed ∧ (t.engine e).reservation = .held a ∧ (t.engine e).phase = .watch ∧
          t.arb.asked = s.arb.asked ∧ t.arb.roster = s.arb.roster))

/-- FAULT, and an exchange open 250 ms after its request, lose the bank: it is OFFLINE, its queued
requests are removed, and the engine whose grant held it takes BANK_FAULT, or, with no bank left, closes with
it. A RELEASING bank leaves the engine that asked, if one did. A bank lost while it is being connected, or
CONNECTED already, ends the service: the other banks chosen go back to IDLE or are released, a CONNECT that is
open is waited for, and the request waits again with its time of joining, or goes into service again at once
when the IDLE banks meet it, or is answered NO_CAPACITY when its need is above the total. The last bank lost
of a service withdrawn closes its engine with the stop cause; of a failed one, it lets the waiting request go
into service. A request that waits and has come to need more than the total is answered NO_CAPACITY. The
rediscovery timer asks IDENTIFY of every OFFLINE bank that has none queued or open. -/
def Obligations.LostBanksAreRediscovered : Prop :=
  (∀ (s : State) (b : BankIx) (x : Exchange) (cmd : Instr) (code : Option Nat), s.held = false →
    s.ownWork = none → s.exchange b = some x → s.feed.waits = [] →
    (s.Polled b x ∧ ∃ v1 v0 m : Byte, code = some m.toNat ∧
        cmd = .faultReply (withCrc8 [byteOf b.val, 0x86#8, v1, v0, m])) ∨
      (code = none ∧ cmd = .exchangeTimeout b) →
    let online := ((s.addresses.filter fun y => y ≠ b && (s.bank y).state ≠ .offline).map
      fun y => (s.bank y).cap).sum
    let idleSum := ((s.addresses.filter fun y => y ≠ b && (s.bank y).state = .idle).map
      fun y => (s.bank y).cap).sum
    let unheld := (s.bank b).state = .offline ∨ (s.bank b).state = .idle ∨
      ((s.bank b).state = .releasing ∧ (s.bank b).engine = none)
    ∃ t, exec cmd s = .next t ∧ t.exchange b = none ∧
      (∀ c, c ≠ b → t.exchange c = s.exchange c) ∧
      (cmd = .exchangeTimeout b → t.now = max s.now (x.sent + 251)) ∧
      (cmd ≠ .exchangeTimeout b → t.now = s.now) ∧
      (s.arb.waits = [] →
        (unheld → t.bank b = { s.bank b with
            state := .offline, bay := none, engine := none, level := 0,
            fault := code <|> (s.bank b).fault } ∧
          t.arb.asked = s.arb.asked.filter (·.bank ≠ b) ∧
          (∀ c, c ≠ b → t.bank c = s.bank c) ∧ t = { s with now := t.now, arb := t.arb }) ∧
        (∀ e c v, (s.bank b).state = .releasing → (s.bank b).engine = some e →
          (s.engine e).phase = .unload → (s.engine e).releasing = true →
          (s.engine e).copy = some c → (s.engine e).verdict = some v → (s.engine e).stop = none →
          (t.bank b).state = .offline ∧ (∀ f, f ≠ e → t.engine f = s.engine f) ∧
          ((∀ g ∈ (s.engine e).grant, g.bank = b) → t.engine e = Engine.free ∧
            t.outbox = s.outbox.put e (s.outbox.get e ++
              [.close c.handle c.index c.kind v.outcome v.value v.cause c.attempt false])) ∧
          ((∃ g ∈ (s.engine e).grant, g.bank ≠ b) → t.outbox = s.outbox ∧
            t.engine e = { s.engine e with
              grant := (s.engine e).grant.filter (·.bank ≠ b) })) ∧
        (∀ e c, (s.bank b).state = .connected → (∀ v, s.arb.service = some v → b ∉ v.chosen) →
          (s.bank b).engine = some e → s.OnLoad e c →
          (t.bank b).state = .offline ∧ (t.bank b).fault = (code <|> (s.bank b).fault) ∧
          t.store = s.store ∧
          ((∀ g ∈ (s.engine e).grant, g.bank = b) → s.Closes t e c .bankFault none none) ∧
          ((∃ g ∈ (s.engine e).grant, g.bank ≠ b) →
            (t.engine e).stop = some .bankFault ∧ (t.engine e).phase = .unload ∧
            (t.engine e).grant.map (·.bank) =
              ((s.engine e).grant.map (·.bank)).filter (· ≠ b) ∧
            (∀ f, f ≠ e → t.engine f = s.engine f))) ∧
        (∀ v c, s.arb.service = some v → b ∈ v.chosen →
          (s.bank b).state = .connecting ∨
            (v.status = .active ∧ (s.bank b).state = .connected ∧ (s.bank b).engine ≠ none) →
          (s.engine v.engine).phase = .acquire → (s.engine v.engine).copy = some c →
          (s.engine v.engine).verdict = none →
          (v.status = .active → (s.engine v.engine).stop = none →
            let stillOpen := ∃ y ∈ v.chosen, y ≠ b ∧ (s.bank y).state = .connecting ∧
              s.exchange y ≠ none
            let freed := fun y : BankIx => y ∈ v.chosen ∧ (s.bank y).state = .connecting
            let idle := ((s.addresses.filter fun y =>
              y ≠ b && ((s.bank y).state = .idle || freed y)).map fun y => (s.bank y).cap).sum
            let returned : BankWait := ⟨v.engine, v.need, c.priority, v.bay, v.joined⟩
            let back := t.arb.waits = [returned] ∧ t.outbox = s.outbox ∧ t.feed = s.feed ∧
              t.engine v.engine = { s.engine v.engine with bankReq := .waiting } ∧
              ∀ y ∈ v.chosen, y ≠ b → (s.bank y).state = .connecting → s.exchange y = none →
                t.bank y = { s.bank y with state := .idle } ∧ ∀ z ∈ t.arb.asked, z.bank ≠ y
            (t.bank b).state = .offline ∧ (t.bank b).fault = (code <|> (s.bank b).fault) ∧
            (∀ f, f ≠ v.engine → t.engine f = s.engine f) ∧ t.store = s.store ∧
            (∀ y ∈ v.chosen, y ≠ b → (s.bank y).state = .connected →
              t.bank y = { s.bank y with state := .releasing, engine := none } ∧
              ⟨y, .release, false⟩ ∈ t.arb.asked) ∧
            (stillOpen → t.arb.service = some { v with status := .failed } ∧
              ∀ y ∈ v.chosen, y ≠ b → (s.bank y).state = .connecting → s.exchange y ≠ none →
                t.bank y = s.bank y) ∧
            (online < v.need → t.engine v.engine = Engine.free ∧
              t.outbox = s.outbox.put v.engine (s.outbox.get v.engine ++
                [.close c.handle c.index c.kind .noCapacity none none c.attempt false]) ∧
              (¬stillOpen → t.arb.service = none)) ∧
            (v.need ≤ online → stillOpen → back) ∧
            (v.need ≤ online → ¬stillOpen → idle < v.need → t.arb.service = none ∧ back) ∧
            (v.need ≠ 0 → ¬stillOpen → v.need ≤ online → v.need ≤ idle →
              t.arb.waits = [] ∧ t.outbox = s.outbox ∧ t.feed = s.feed ∧
              t.engine v.engine = { s.engine v.engine with bankReq := .connecting } ∧
              ∃ d ds, t.arb.service = some
                  ⟨v.engine, v.need, v.bay, v.joined, d :: ds, .active⟩ ∧
                v.need ≤ ((d :: ds).map fun y => (s.bank y).cap).sum ∧
                ⟨d, .connect v.bay, false⟩ ∈ t.arb.asked ∧
                ∀ y ∈ d :: ds, y ≠ b ∧ (t.bank y).state = .connecting)) ∧
          (v.status = .failed → t.arb.service = none ∧ t.engines = s.engines ∧
            t.outbox = s.outbox ∧ t.feed = s.feed) ∧
          (∀ why, v.status = .withdrawn → (s.engine v.engine).stop = some why →
            t.arb.service = none ∧ t.engines = s.engines.put v.engine Engine.free ∧
            t.outbox = s.outbox.put v.engine (s.outbox.get v.engine ++
              [.close c.handle c.index c.kind why.outcome none none c.attempt false]) ∧
            t.feed.reservations = s.feed.reservations.filter (·.engine ≠ v.engine)))) ∧
      (∀ w c, s.arb.waits = [w] → (s.engine w.engine).phase = .acquire →
        (s.engine w.engine).bankReq = .waiting → (s.engine w.engine).copy = some c →
        (s.engine w.engine).verdict = none → (s.engine w.engine).stop = none →
        let refused := t.arb.waits = [] ∧ s.Closes t w.engine c .noCapacity none none
        let waits := t.arb.waits = [w] ∧ t.engines = s.engines ∧ t.outbox = s.outbox ∧
          t.feed = s.feed
        (unheld → t.arb.service = s.arb.service ∧ (online < w.need → refused) ∧
          (w.need ≤ online → waits)) ∧
        (∀ v, (s.bank b).state = .connecting → s.arb.service = some v → v.status = .failed →
          b ∈ v.chosen →
          (online < w.need → t.arb.service = none ∧ refused) ∧
          (w.need ≤ online → idleSum < w.need → t.arb.service = none ∧ waits) ∧
          (w.need ≠ 0 → w.need ≤ online → w.need ≤ idleSum →
            t.arb.waits = [] ∧ t.outbox = s.outbox ∧ t.feed = s.feed ∧
            t.engines = s.engines.put w.engine
              { s.engine w.engine with bankReq := .connecting } ∧
            ∃ d ds, t.arb.service = some
                ⟨w.engine, w.need, w.bay, w.joined, d :: ds, .active⟩ ∧
              ⟨d, .connect w.bay, false⟩ ∈ t.arb.asked)))) ∧
  ∀ s : State, s.held = false → s.ownWork = none → ∃ t, exec .rediscoveryTimer s = .next t ∧
    s.PassedTo t (s.arb.sweepFrom + 5000) ∧ t.arb.sweepFrom = t.now ∧
    t.arb.asked = s.arb.asked ++ (s.addresses.filter fun b => (s.bank b).state = .offline &&
      (s.exchange b).map (·.request) ≠ some .identify &&
      s.arb.asked.all fun a => a.bank ≠ b || a.request ≠ .identify).map
        (fun b => ⟨b, .identify, false⟩) ∧
    t = { s with now := t.now, arb := { s.arb with
      turn := t.arb.turn, asked := t.arb.asked, sweepFrom := t.arb.sweepFrom } }

/-! ### Step timers and messages -/

/-- The duration of a HOLD step ends in PASS, the window of a TRIP step in NO_TRIP and that of a RESTART
step in NO_RESTART, each at its tick, and the engine unloads; a step of level 0, which holds no bank, closes
at once. -/
def Obligations.StepTimersGiveVerdicts : Prop :=
  ∀ (s : State) (e : EngineIx) (c : WorkingCopy) (z : Nat), s.held = false → s.OnStep e c →
    s.feed.waits = [] → s.ownWork = none →
    let ends := fun (cmd : Instr) (tick : Nat) (o : StepOutcome) =>
      ∃ t, exec cmd s = .next t ∧ s.PassedTo t tick ∧
        s.Reaches t e c ⟨o, none, none⟩ ∧
        (t.engine e).holdFrom = none ∧ (t.engine e).tripFrom = none ∧
        (t.engine e).restartFrom = none ∧ (t.engine e).detection ≠ .armed ∧
        t = { s with now := t.now, engines := t.engines, feed := t.feed, arb := t.arb,
                     outbox := t.outbox }
    (∀ p, c.params = .hold p → (s.engine e).holdFrom = some z →
      ends (.holdDurationExpiry e) (z + p.duration) .pass) ∧
    (∀ p k, c.params = .trip p k → (s.engine e).tripFrom = some z →
      ends (.tripWindowClose e) (z + p.tMax + 1) .noTrip) ∧
    (∀ p k, c.params = .trip p k → (s.engine e).restartFrom = some z →
      ends (.restartWindowClose e) (z + k.window + 1) .noRestart)

/-- The settle time of a DERATE step ends in the start of its collection. The latch observe time ends in the
re-arm pulse, which turns the bay's output off; the pulse's end at 500 ms starts the restart timer of the
engine that waits for it, and the output is on again when the record is RUNNING and seated. An attention
pulse ends 1 ms after the latest join. -/
def Obligations.SettleLatchAndPulseTimers : Prop :=
  (∀ (s : State) (e : EngineIx) (c : WorkingCopy) (z : Nat), s.held = false →
    s.ownWork = none → (s.engine e).copy = some c →
    (∀ p, c.params = .derate p → (s.engine e).settleFrom = some z →
      ∃ t, exec (.settleExpiry e) s = .next t ∧ s.PassedTo t (z + p.settleMs) ∧
        t = { s with
          now := t.now
          arb := { s.arb with turn := t.arb.turn }
          engines := s.engines.put e { s.engine e with
            settleFrom := none, collection := some ⟨0, 0, 0⟩ } }) ∧
    (∀ p k w i r, c.params = .trip p k → k.latchObserve = some w →
      (s.engine e).latchFrom = some z → s.EngagedOn e i r c.bay →
      ∃ t, exec (.latchObserveExpiry e) s = .next t ∧
        s.PassedTo t (z + w + 1) ∧ t.enableOutput c.bay = false ∧
        t = { s with
          now := t.now
          arb := { s.arb with turn := t.arb.turn }
          engines := s.engines.put e { s.engine e with latchFrom := none, awaitRearm := true }
          bays := s.bays.put c.bay { s.bay c.bay with rearm := some (t.now, e) } })) ∧
  (∀ (s : State) (b : BayIx) (z : Nat) (e : EngineIx), s.held = false →
    (s.bay b).rearm = some (z, e) → s.ownWork = none →
    ∃ t, exec (.rearmPulseEnd b) s = .next t ∧ s.PassedTo t (z + 500) ∧
      t.bays = s.bays.put b { s.bay b with rearm := none } ∧
      (∀ f i r, s.EngagedOn f i r b → b.val < s.straps.bays → (s.bay b).seated = true →
        (s.bay b).seatLost = false → s.enableOutput b = false ∧ t.enableOutput b = true) ∧
      t = { s with
        now := t.now, arb := { s.arb with turn := t.arb.turn }, bays := t.bays,
        engines := t.engines } ∧
      ((s.engine e).awaitRearm = true → (s.engine e).copy.map (·.bay) = some b →
        t.engines = s.engines.put e { s.engine e with
          awaitRearm := false, restartFrom := some t.now }) ∧
      ((s.engine e).awaitRearm = false ∨ (s.engine e).copy.map (·.bay) ≠ some b →
        t.engines = s.engines)) ∧
  ∀ (s : State) (z : Nat), s.held = false → s.store.pulse = some z → s.ownWork = none →
    ∃ t, exec .attentionPulseEnd s = .next t ∧ s.PassedTo t (z + 1) ∧
      t = { s with now := t.now, arb := { s.arb with turn := t.arb.turn },
                   store := { s.store with pulse := none } } ∧
      (s.straps.pulse = true → t.attentionActive = false)

/-- A passage write puts the TRIP entry into the results and moves the cursor to the RESTART step. A
close writes its entry and the cursor, retry count and state that its outcome gives: a close that
would queue the record holds it with UNSEATED when the seat is down and with MODEL_DOUBT when its model
is DOUBTFUL, and a DOUBT writes nothing. The record gains the attention reason VERDICT for an outcome that
is a verdict and PASSED, FAILED or HELD for the state it comes to: joining the list it makes the attention
line active and starts a pulse, and one listed already starts none. A LOOKUP that waits for the record is
answered with it as the close left it, or as DOUBTFUL. A message of an engine that the record
no longer names, or that names a DOUBTFUL record, writes nothing. A close that finds the record with a code
that does not match makes it DOUBTFUL and writes no result, and changes nothing when it is so already; that
this comparison is made whichever engine the record names is the model's reading (log 15), and that a record
which reads DOUBTFUL and stands in the start queue is not so already is the model's choice (log 32). -/
def Obligations.EngineMessagesWriteTheRecord : Prop :=
  (∀ (s : State) (e : EngineIx) (h : Handle) (i : SlotIx) (r : ShelfRecord) (rest : List Message)
    n k o v cause att late, s.held = false → h = s.handleOf i → s.record i = some r →
    r.intact = false →
    s.outbox.get e = .close h n k o v cause att late :: rest →
    (r.state = .doubtful → i ∉ s.store.queue → (∀ f, s.holds f h = false) →
      exec (.stepClose e) s = .next { s with outbox := s.outbox.put e rest }) ∧
    (r.state ≠ .doubtful ∨ i ∈ s.store.queue →
    ∃ t r', exec (.stepClose e) s = .next t ∧ t.slot i = ⟨(s.slot i).gen, some r'⟩ ∧
      r' = { r with state := .doubtful, hold := none, engaged := none, code := r'.code } ∧
      r'.intact = true ∧ s.OtherSlotsKept t i ∧ i ∉ t.store.queue ∧ t.models = s.models ∧
      s.LookupsCompleted t h r' ∧ t.attentionActive = (!s.straps.pulse || t.store.pulse.isSome) ∧
      ((∀ y ∈ s.store.attention, y.handle ≠ h) →
        t.store.attention = s.store.attention ++ [⟨h, ⟨false, false, false, false, true⟩⟩] ∧
        t.store.pulse = (if s.straps.pulse then some s.now else s.store.pulse)))) ∧
  ∀ (s : State) (e : EngineIx) (h : Handle) (i : SlotIx) (r : ShelfRecord) (rest : List Message),
    s.held = false → h = s.handleOf i → s.record i = some r → r.intact = true →
    r.results.Pairwise (fun a b => a.index < b.index) →
    let listed := fun (r' : ShelfRecord) (x : ResultEntry) =>
      r'.results.Pairwise (fun a b => a.index < b.index) ∧
      ∀ y, y ∈ r'.results ↔ y = x ∨ (y ∈ r.results ∧ y.index ≠ x.index)
    (∀ n v cause att, s.outbox.get e = .passage h n v cause att :: rest →
      ∃ t, exec (.passageWrite e) s = .next t ∧ t.outbox = s.outbox.put e rest ∧
        s.OtherSlotsKept t i ∧
        t = { s with store := { s.store with slots := t.store.slots }, outbox := t.outbox } ∧
        (r.engaged ≠ some e ∨ r.state = .doubtful → t.slot i = s.slot i) ∧
        (r.engaged = some e → r.state ≠ .doubtful → ∃ r', t.slot i = ⟨(s.slot i).gen, some r'⟩ ∧
          listed r' ⟨n, .trip, .pass, some v, some cause, att⟩ ∧ r'.intact = true ∧
          r' = { r with results := r'.results, cursor := n + 1, code := r'.code })) ∧
    (∀ n k o v cause att late, s.outbox.get e = .close h n k o v cause att late :: rest →
      ∃ t, exec (.stepClose e) s = .next t ∧ t.outbox = s.outbox.put e rest ∧
        s.OtherSlotsKept t i ∧ t.models = s.models ∧ t.engines = s.engines ∧
        t.feed = s.feed ∧ t.arb = s.arb ∧
        (r.engaged ≠ some e ∨ r.state = .doubtful ∨ o = .doubt →
          t = { s with outbox := t.outbox }) ∧
        (∀ m x b, r.engaged = some e → r.state ≠ .doubtful → o ≠ .doubt →
          r.model = s.modelHandleOf m → s.model m = some x → r.bay = some b →
          ∃ r', t.slot i = ⟨(s.slot i).gen, some r'⟩ ∧ listed r' ⟨n, k, o, v, cause, att⟩ ∧
            r'.intact = true ∧ r'.engaged = none ∧
            r' = { r with results := r'.results, cursor := r'.cursor, retry := r'.retry,
                          state := r'.state, hold := r'.hold, engaged := none,
                          code := r'.code } ∧
            (t.bay b).seatLost = false ∧ (t.bay b).rearm = none ∧ s.LookupsCompleted t h r' ∧
            (r'.state = .queued → i ∈ t.store.queue) ∧
            (let why : Reasons :=
                { verdict := o ∉ [.shed, .bankFault, .senseLost, .feedLost, .aborted, .unseated,
                    .noCapacity, .outOfConditions]
                  passed := r'.state = .passed, failed := r'.state = .failed,
                  held := r'.state = .held, doubt := false };
              (why = ⟨false, false, false, false, false⟩ →
                t.store.attention = s.store.attention) ∧
              (why ≠ ⟨false, false, false, false, false⟩ →
                ((∀ y ∈ s.store.attention, y.handle ≠ h) →
                  t.store.attention = s.store.attention ++ [⟨h, why⟩] ∧ t.attentionActive = true ∧
                  t.store.pulse = (if s.straps.pulse then some s.now else s.store.pulse)) ∧
                ((∃ y ∈ s.store.attention, y.handle = h) → t.store.pulse = s.store.pulse) ∧
                ∃ y ∈ t.store.attention, y.handle = h ∧
                  (why.verdict = true → y.reasons.verdict = true) ∧
                  (why.passed = true → y.reasons.passed = true) ∧
                  (why.failed = true → y.reasons.failed = true) ∧
                  (why.held = true → y.reasons.held = true))) ∧
            let queues := fun (cursor retry : Nat) =>
              ((s.bay b).seated = false →
                r'.cursor = cursor ∧ r'.retry = retry ∧ r'.state = .held ∧
                r'.hold = some .unseated) ∧
              ((s.bay b).seated = true → x.state = .doubtful →
                r'.cursor = cursor ∧ r'.retry = retry ∧ r'.state = .held ∧
                r'.hold = some .modelDoubt) ∧
              ((s.bay b).seated = true → x.state ≠ .doubtful →
                r'.cursor = (if x.plan[cursor]? = some .restart then cursor - 1 else cursor) ∧
                r'.retry = retry ∧ r'.state = .queued ∧ r'.hold = none)
            let holds := fun why : HoldReason =>
              r'.cursor = r.cursor ∧ r'.retry = r.retry ∧ r'.state = .held ∧ r'.hold = some why
            match o with
            | .pass =>
              (x.plan.length ≤ n + 1 → r'.cursor = x.plan.length ∧ r'.retry = 0 ∧
                r'.state = .passed ∧ r'.hold = none) ∧
              (n + 1 < x.plan.length → late = true → r'.cursor = n + 1 ∧ r'.retry = 0 ∧
                r'.state = .held ∧ r'.hold = some .host) ∧
              (n + 1 < x.plan.length → late = false → queues (n + 1) 0)
            | .shed | .bankFault | .senseLost =>
              (r.retry < 3 → queues r.cursor (r.retry + 1)) ∧
              (3 ≤ r.retry → holds .retryLimit)
            | .feedLost => queues r.cursor r.retry
            | .aborted => holds .host
            | .unseated => holds .unseated
            | .noCapacity => holds .noCapacity
            | .outOfConditions => holds .conditions
            | _ => r'.cursor = r.cursor ∧ r'.retry = r.retry ∧ r'.state = .failed ∧
                r'.hold = none))
end

