-- ==== Sys2Proof/Laws/State.lean ====
section
/-! SUPPORT. One lemma for each field of the state after each update, and the reads of a table after a write to it. -/

namespace Sys2Proof.Machine

variable (s : State)

/-! ### `setSlot` -/

@[simp] theorem State.setSlot_pending (i : SlotIx) (x : ShelfSlot) : (s.setSlot i x).pending = s.pending := rfl
@[simp] theorem State.setSlot_now (i : SlotIx) (x : ShelfSlot) : (s.setSlot i x).now = s.now := rfl
@[simp] theorem State.setSlot_held (i : SlotIx) (x : ShelfSlot) : (s.setSlot i x).held = s.held := rfl
@[simp] theorem State.setSlot_straps (i : SlotIx) (x : ShelfSlot) : (s.setSlot i x).straps = s.straps := rfl
@[simp] theorem State.setSlot_store (i : SlotIx) (x : ShelfSlot) :
    (s.setSlot i x).store = { s.store with slots := s.store.slots.put i x } := rfl
@[simp] theorem State.setSlot_models (i : SlotIx) (x : ShelfSlot) : (s.setSlot i x).models = s.models := rfl
@[simp] theorem State.setSlot_bays (i : SlotIx) (x : ShelfSlot) : (s.setSlot i x).bays = s.bays := rfl
@[simp] theorem State.setSlot_senses (i : SlotIx) (x : ShelfSlot) : (s.setSlot i x).senses = s.senses := rfl
@[simp] theorem State.setSlot_feedSense (i : SlotIx) (x : ShelfSlot) : (s.setSlot i x).feedSense = s.feedSense := rfl
@[simp] theorem State.setSlot_engines (i : SlotIx) (x : ShelfSlot) : (s.setSlot i x).engines = s.engines := rfl
@[simp] theorem State.setSlot_outbox (i : SlotIx) (x : ShelfSlot) : (s.setSlot i x).outbox = s.outbox := rfl
@[simp] theorem State.setSlot_feed (i : SlotIx) (x : ShelfSlot) : (s.setSlot i x).feed = s.feed := rfl
@[simp] theorem State.setSlot_arb (i : SlotIx) (x : ShelfSlot) : (s.setSlot i x).arb = s.arb := rfl
@[simp] theorem State.setSlot_execLink (i : SlotIx) (x : ShelfSlot) : (s.setSlot i x).execLink = s.execLink := rfl
@[simp] theorem State.setSlot_consoleLink (i : SlotIx) (x : ShelfSlot) : (s.setSlot i x).consoleLink = s.consoleLink := rfl
@[simp] theorem State.setSlot_rx (i : SlotIx) (x : ShelfSlot) : (s.setSlot i x).rx = s.rx := rfl
@[simp] theorem State.setSlot_spiOut (i : SlotIx) (x : ShelfSlot) : (s.setSlot i x).spiOut = s.spiOut := rfl

/-! ### `setModelSlot` -/

@[simp] theorem State.setModelSlot_pending (m : ModelIx) (x : ModelSlot) : (s.setModelSlot m x).pending = s.pending := rfl
@[simp] theorem State.setModelSlot_now (m : ModelIx) (x : ModelSlot) : (s.setModelSlot m x).now = s.now := rfl
@[simp] theorem State.setModelSlot_held (m : ModelIx) (x : ModelSlot) : (s.setModelSlot m x).held = s.held := rfl
@[simp] theorem State.setModelSlot_straps (m : ModelIx) (x : ModelSlot) : (s.setModelSlot m x).straps = s.straps := rfl
@[simp] theorem State.setModelSlot_store (m : ModelIx) (x : ModelSlot) : (s.setModelSlot m x).store = s.store := rfl
@[simp] theorem State.setModelSlot_models (m : ModelIx) (x : ModelSlot) :
    (s.setModelSlot m x).models = { s.models with slots := s.models.slots.put m x } := rfl
@[simp] theorem State.setModelSlot_bays (m : ModelIx) (x : ModelSlot) : (s.setModelSlot m x).bays = s.bays := rfl
@[simp] theorem State.setModelSlot_senses (m : ModelIx) (x : ModelSlot) : (s.setModelSlot m x).senses = s.senses := rfl
@[simp] theorem State.setModelSlot_feedSense (m : ModelIx) (x : ModelSlot) : (s.setModelSlot m x).feedSense = s.feedSense := rfl
@[simp] theorem State.setModelSlot_engines (m : ModelIx) (x : ModelSlot) : (s.setModelSlot m x).engines = s.engines := rfl
@[simp] theorem State.setModelSlot_outbox (m : ModelIx) (x : ModelSlot) : (s.setModelSlot m x).outbox = s.outbox := rfl
@[simp] theorem State.setModelSlot_feed (m : ModelIx) (x : ModelSlot) : (s.setModelSlot m x).feed = s.feed := rfl
@[simp] theorem State.setModelSlot_arb (m : ModelIx) (x : ModelSlot) : (s.setModelSlot m x).arb = s.arb := rfl
@[simp] theorem State.setModelSlot_execLink (m : ModelIx) (x : ModelSlot) : (s.setModelSlot m x).execLink = s.execLink := rfl
@[simp] theorem State.setModelSlot_consoleLink (m : ModelIx) (x : ModelSlot) : (s.setModelSlot m x).consoleLink = s.consoleLink := rfl
@[simp] theorem State.setModelSlot_rx (m : ModelIx) (x : ModelSlot) : (s.setModelSlot m x).rx = s.rx := rfl
@[simp] theorem State.setModelSlot_spiOut (m : ModelIx) (x : ModelSlot) : (s.setModelSlot m x).spiOut = s.spiOut := rfl

/-! ### `setBay` -/

@[simp] theorem State.setBay_pending (b : BayIx) (x : Bay) : (s.setBay b x).pending = s.pending := rfl
@[simp] theorem State.setBay_now (b : BayIx) (x : Bay) : (s.setBay b x).now = s.now := rfl
@[simp] theorem State.setBay_held (b : BayIx) (x : Bay) : (s.setBay b x).held = s.held := rfl
@[simp] theorem State.setBay_straps (b : BayIx) (x : Bay) : (s.setBay b x).straps = s.straps := rfl
@[simp] theorem State.setBay_store (b : BayIx) (x : Bay) : (s.setBay b x).store = s.store := rfl
@[simp] theorem State.setBay_models (b : BayIx) (x : Bay) : (s.setBay b x).models = s.models := rfl
@[simp] theorem State.setBay_bays (b : BayIx) (x : Bay) :
    (s.setBay b x).bays = s.bays.put b x := rfl
@[simp] theorem State.setBay_senses (b : BayIx) (x : Bay) : (s.setBay b x).senses = s.senses := rfl
@[simp] theorem State.setBay_feedSense (b : BayIx) (x : Bay) : (s.setBay b x).feedSense = s.feedSense := rfl
@[simp] theorem State.setBay_engines (b : BayIx) (x : Bay) : (s.setBay b x).engines = s.engines := rfl
@[simp] theorem State.setBay_outbox (b : BayIx) (x : Bay) : (s.setBay b x).outbox = s.outbox := rfl
@[simp] theorem State.setBay_feed (b : BayIx) (x : Bay) : (s.setBay b x).feed = s.feed := rfl
@[simp] theorem State.setBay_arb (b : BayIx) (x : Bay) : (s.setBay b x).arb = s.arb := rfl
@[simp] theorem State.setBay_execLink (b : BayIx) (x : Bay) : (s.setBay b x).execLink = s.execLink := rfl
@[simp] theorem State.setBay_consoleLink (b : BayIx) (x : Bay) : (s.setBay b x).consoleLink = s.consoleLink := rfl
@[simp] theorem State.setBay_rx (b : BayIx) (x : Bay) : (s.setBay b x).rx = s.rx := rfl
@[simp] theorem State.setBay_spiOut (b : BayIx) (x : Bay) : (s.setBay b x).spiOut = s.spiOut := rfl

/-! ### `setSense` -/

@[simp] theorem State.setSense_pending (b : BayIx) (x : BaySense) : (s.setSense b x).pending = s.pending := rfl
@[simp] theorem State.setSense_now (b : BayIx) (x : BaySense) : (s.setSense b x).now = s.now := rfl
@[simp] theorem State.setSense_held (b : BayIx) (x : BaySense) : (s.setSense b x).held = s.held := rfl
@[simp] theorem State.setSense_straps (b : BayIx) (x : BaySense) : (s.setSense b x).straps = s.straps := rfl
@[simp] theorem State.setSense_store (b : BayIx) (x : BaySense) : (s.setSense b x).store = s.store := rfl
@[simp] theorem State.setSense_models (b : BayIx) (x : BaySense) : (s.setSense b x).models = s.models := rfl
@[simp] theorem State.setSense_bays (b : BayIx) (x : BaySense) : (s.setSense b x).bays = s.bays := rfl
@[simp] theorem State.setSense_senses (b : BayIx) (x : BaySense) :
    (s.setSense b x).senses = s.senses.put b x := rfl
@[simp] theorem State.setSense_feedSense (b : BayIx) (x : BaySense) : (s.setSense b x).feedSense = s.feedSense := rfl
@[simp] theorem State.setSense_engines (b : BayIx) (x : BaySense) : (s.setSense b x).engines = s.engines := rfl
@[simp] theorem State.setSense_outbox (b : BayIx) (x : BaySense) : (s.setSense b x).outbox = s.outbox := rfl
@[simp] theorem State.setSense_feed (b : BayIx) (x : BaySense) : (s.setSense b x).feed = s.feed := rfl
@[simp] theorem State.setSense_arb (b : BayIx) (x : BaySense) : (s.setSense b x).arb = s.arb := rfl
@[simp] theorem State.setSense_execLink (b : BayIx) (x : BaySense) : (s.setSense b x).execLink = s.execLink := rfl
@[simp] theorem State.setSense_consoleLink (b : BayIx) (x : BaySense) : (s.setSense b x).consoleLink = s.consoleLink := rfl
@[simp] theorem State.setSense_rx (b : BayIx) (x : BaySense) : (s.setSense b x).rx = s.rx := rfl
@[simp] theorem State.setSense_spiOut (b : BayIx) (x : BaySense) : (s.setSense b x).spiOut = s.spiOut := rfl

/-! ### `setEngine` -/

@[simp] theorem State.setEngine_pending (e : EngineIx) (x : Engine) : (s.setEngine e x).pending = s.pending := rfl
@[simp] theorem State.setEngine_now (e : EngineIx) (x : Engine) : (s.setEngine e x).now = s.now := rfl
@[simp] theorem State.setEngine_held (e : EngineIx) (x : Engine) : (s.setEngine e x).held = s.held := rfl
@[simp] theorem State.setEngine_straps (e : EngineIx) (x : Engine) : (s.setEngine e x).straps = s.straps := rfl
@[simp] theorem State.setEngine_store (e : EngineIx) (x : Engine) : (s.setEngine e x).store = s.store := rfl
@[simp] theorem State.setEngine_models (e : EngineIx) (x : Engine) : (s.setEngine e x).models = s.models := rfl
@[simp] theorem State.setEngine_bays (e : EngineIx) (x : Engine) : (s.setEngine e x).bays = s.bays := rfl
@[simp] theorem State.setEngine_senses (e : EngineIx) (x : Engine) : (s.setEngine e x).senses = s.senses := rfl
@[simp] theorem State.setEngine_feedSense (e : EngineIx) (x : Engine) : (s.setEngine e x).feedSense = s.feedSense := rfl
@[simp] theorem State.setEngine_engines (e : EngineIx) (x : Engine) :
    (s.setEngine e x).engines = s.engines.put e x := rfl
@[simp] theorem State.setEngine_outbox (e : EngineIx) (x : Engine) : (s.setEngine e x).outbox = s.outbox := rfl
@[simp] theorem State.setEngine_feed (e : EngineIx) (x : Engine) : (s.setEngine e x).feed = s.feed := rfl
@[simp] theorem State.setEngine_arb (e : EngineIx) (x : Engine) : (s.setEngine e x).arb = s.arb := rfl
@[simp] theorem State.setEngine_execLink (e : EngineIx) (x : Engine) : (s.setEngine e x).execLink = s.execLink := rfl
@[simp] theorem State.setEngine_consoleLink (e : EngineIx) (x : Engine) : (s.setEngine e x).consoleLink = s.consoleLink := rfl
@[simp] theorem State.setEngine_rx (e : EngineIx) (x : Engine) : (s.setEngine e x).rx = s.rx := rfl
@[simp] theorem State.setEngine_spiOut (e : EngineIx) (x : Engine) : (s.setEngine e x).spiOut = s.spiOut := rfl

/-! ### `modEngine` -/

@[simp] theorem State.modEngine_pending (e : EngineIx) (f : Engine → Engine) : (s.modEngine e f).pending = s.pending := rfl
@[simp] theorem State.modEngine_now (e : EngineIx) (f : Engine → Engine) : (s.modEngine e f).now = s.now := rfl
@[simp] theorem State.modEngine_held (e : EngineIx) (f : Engine → Engine) : (s.modEngine e f).held = s.held := rfl
@[simp] theorem State.modEngine_straps (e : EngineIx) (f : Engine → Engine) : (s.modEngine e f).straps = s.straps := rfl
@[simp] theorem State.modEngine_store (e : EngineIx) (f : Engine → Engine) : (s.modEngine e f).store = s.store := rfl
@[simp] theorem State.modEngine_models (e : EngineIx) (f : Engine → Engine) : (s.modEngine e f).models = s.models := rfl
@[simp] theorem State.modEngine_bays (e : EngineIx) (f : Engine → Engine) : (s.modEngine e f).bays = s.bays := rfl
@[simp] theorem State.modEngine_senses (e : EngineIx) (f : Engine → Engine) : (s.modEngine e f).senses = s.senses := rfl
@[simp] theorem State.modEngine_feedSense (e : EngineIx) (f : Engine → Engine) : (s.modEngine e f).feedSense = s.feedSense := rfl
@[simp] theorem State.modEngine_engines (e : EngineIx) (f : Engine → Engine) :
    (s.modEngine e f).engines = s.engines.put e (f (s.engine e)) := rfl
@[simp] theorem State.modEngine_outbox (e : EngineIx) (f : Engine → Engine) : (s.modEngine e f).outbox = s.outbox := rfl
@[simp] theorem State.modEngine_feed (e : EngineIx) (f : Engine → Engine) : (s.modEngine e f).feed = s.feed := rfl
@[simp] theorem State.modEngine_arb (e : EngineIx) (f : Engine → Engine) : (s.modEngine e f).arb = s.arb := rfl
@[simp] theorem State.modEngine_execLink (e : EngineIx) (f : Engine → Engine) : (s.modEngine e f).execLink = s.execLink := rfl
@[simp] theorem State.modEngine_consoleLink (e : EngineIx) (f : Engine → Engine) : (s.modEngine e f).consoleLink = s.consoleLink := rfl
@[simp] theorem State.modEngine_rx (e : EngineIx) (f : Engine → Engine) : (s.modEngine e f).rx = s.rx := rfl
@[simp] theorem State.modEngine_spiOut (e : EngineIx) (f : Engine → Engine) : (s.modEngine e f).spiOut = s.spiOut := rfl

/-! ### `setFeed` -/

@[simp] theorem State.setFeed_pending (x : Feed) : (s.setFeed x).pending = s.pending := rfl
@[simp] theorem State.setFeed_now (x : Feed) : (s.setFeed x).now = s.now := rfl
@[simp] theorem State.setFeed_held (x : Feed) : (s.setFeed x).held = s.held := rfl
@[simp] theorem State.setFeed_straps (x : Feed) : (s.setFeed x).straps = s.straps := rfl
@[simp] theorem State.setFeed_store (x : Feed) : (s.setFeed x).store = s.store := rfl
@[simp] theorem State.setFeed_models (x : Feed) : (s.setFeed x).models = s.models := rfl
@[simp] theorem State.setFeed_bays (x : Feed) : (s.setFeed x).bays = s.bays := rfl
@[simp] theorem State.setFeed_senses (x : Feed) : (s.setFeed x).senses = s.senses := rfl
@[simp] theorem State.setFeed_feedSense (x : Feed) : (s.setFeed x).feedSense = s.feedSense := rfl
@[simp] theorem State.setFeed_engines (x : Feed) : (s.setFeed x).engines = s.engines := rfl
@[simp] theorem State.setFeed_outbox (x : Feed) : (s.setFeed x).outbox = s.outbox := rfl
@[simp] theorem State.setFeed_feed (x : Feed) :
    (s.setFeed x).feed = x := rfl
@[simp] theorem State.setFeed_arb (x : Feed) : (s.setFeed x).arb = s.arb := rfl
@[simp] theorem State.setFeed_execLink (x : Feed) : (s.setFeed x).execLink = s.execLink := rfl
@[simp] theorem State.setFeed_consoleLink (x : Feed) : (s.setFeed x).consoleLink = s.consoleLink := rfl
@[simp] theorem State.setFeed_rx (x : Feed) : (s.setFeed x).rx = s.rx := rfl
@[simp] theorem State.setFeed_spiOut (x : Feed) : (s.setFeed x).spiOut = s.spiOut := rfl

/-! ### `setArb` -/

@[simp] theorem State.setArb_pending (x : Arbiter) : (s.setArb x).pending = s.pending := rfl
@[simp] theorem State.setArb_now (x : Arbiter) : (s.setArb x).now = s.now := rfl
@[simp] theorem State.setArb_held (x : Arbiter) : (s.setArb x).held = s.held := rfl
@[simp] theorem State.setArb_straps (x : Arbiter) : (s.setArb x).straps = s.straps := rfl
@[simp] theorem State.setArb_store (x : Arbiter) : (s.setArb x).store = s.store := rfl
@[simp] theorem State.setArb_models (x : Arbiter) : (s.setArb x).models = s.models := rfl
@[simp] theorem State.setArb_bays (x : Arbiter) : (s.setArb x).bays = s.bays := rfl
@[simp] theorem State.setArb_senses (x : Arbiter) : (s.setArb x).senses = s.senses := rfl
@[simp] theorem State.setArb_feedSense (x : Arbiter) : (s.setArb x).feedSense = s.feedSense := rfl
@[simp] theorem State.setArb_engines (x : Arbiter) : (s.setArb x).engines = s.engines := rfl
@[simp] theorem State.setArb_outbox (x : Arbiter) : (s.setArb x).outbox = s.outbox := rfl
@[simp] theorem State.setArb_feed (x : Arbiter) : (s.setArb x).feed = s.feed := rfl
@[simp] theorem State.setArb_arb (x : Arbiter) :
    (s.setArb x).arb = x := rfl
@[simp] theorem State.setArb_execLink (x : Arbiter) : (s.setArb x).execLink = s.execLink := rfl
@[simp] theorem State.setArb_consoleLink (x : Arbiter) : (s.setArb x).consoleLink = s.consoleLink := rfl
@[simp] theorem State.setArb_rx (x : Arbiter) : (s.setArb x).rx = s.rx := rfl
@[simp] theorem State.setArb_spiOut (x : Arbiter) : (s.setArb x).spiOut = s.spiOut := rfl

/-! ### `setBank` -/

@[simp] theorem State.setBank_pending (b : BankIx) (x : Bank) : (s.setBank b x).pending = s.pending := rfl
@[simp] theorem State.setBank_now (b : BankIx) (x : Bank) : (s.setBank b x).now = s.now := rfl
@[simp] theorem State.setBank_held (b : BankIx) (x : Bank) : (s.setBank b x).held = s.held := rfl
@[simp] theorem State.setBank_straps (b : BankIx) (x : Bank) : (s.setBank b x).straps = s.straps := rfl
@[simp] theorem State.setBank_store (b : BankIx) (x : Bank) : (s.setBank b x).store = s.store := rfl
@[simp] theorem State.setBank_models (b : BankIx) (x : Bank) : (s.setBank b x).models = s.models := rfl
@[simp] theorem State.setBank_bays (b : BankIx) (x : Bank) : (s.setBank b x).bays = s.bays := rfl
@[simp] theorem State.setBank_senses (b : BankIx) (x : Bank) : (s.setBank b x).senses = s.senses := rfl
@[simp] theorem State.setBank_feedSense (b : BankIx) (x : Bank) : (s.setBank b x).feedSense = s.feedSense := rfl
@[simp] theorem State.setBank_engines (b : BankIx) (x : Bank) : (s.setBank b x).engines = s.engines := rfl
@[simp] theorem State.setBank_outbox (b : BankIx) (x : Bank) : (s.setBank b x).outbox = s.outbox := rfl
@[simp] theorem State.setBank_feed (b : BankIx) (x : Bank) : (s.setBank b x).feed = s.feed := rfl
@[simp] theorem State.setBank_arb (b : BankIx) (x : Bank) :
    (s.setBank b x).arb = { s.arb with roster := s.arb.roster.put b x } := rfl
@[simp] theorem State.setBank_execLink (b : BankIx) (x : Bank) : (s.setBank b x).execLink = s.execLink := rfl
@[simp] theorem State.setBank_consoleLink (b : BankIx) (x : Bank) : (s.setBank b x).consoleLink = s.consoleLink := rfl
@[simp] theorem State.setBank_rx (b : BankIx) (x : Bank) : (s.setBank b x).rx = s.rx := rfl
@[simp] theorem State.setBank_spiOut (b : BankIx) (x : Bank) : (s.setBank b x).spiOut = s.spiOut := rfl

/-! ### `modBank` -/

@[simp] theorem State.modBank_pending (b : BankIx) (f : Bank → Bank) : (s.modBank b f).pending = s.pending := rfl
@[simp] theorem State.modBank_now (b : BankIx) (f : Bank → Bank) : (s.modBank b f).now = s.now := rfl
@[simp] theorem State.modBank_held (b : BankIx) (f : Bank → Bank) : (s.modBank b f).held = s.held := rfl
@[simp] theorem State.modBank_straps (b : BankIx) (f : Bank → Bank) : (s.modBank b f).straps = s.straps := rfl
@[simp] theorem State.modBank_store (b : BankIx) (f : Bank → Bank) : (s.modBank b f).store = s.store := rfl
@[simp] theorem State.modBank_models (b : BankIx) (f : Bank → Bank) : (s.modBank b f).models = s.models := rfl
@[simp] theorem State.modBank_bays (b : BankIx) (f : Bank → Bank) : (s.modBank b f).bays = s.bays := rfl
@[simp] theorem State.modBank_senses (b : BankIx) (f : Bank → Bank) : (s.modBank b f).senses = s.senses := rfl
@[simp] theorem State.modBank_feedSense (b : BankIx) (f : Bank → Bank) : (s.modBank b f).feedSense = s.feedSense := rfl
@[simp] theorem State.modBank_engines (b : BankIx) (f : Bank → Bank) : (s.modBank b f).engines = s.engines := rfl
@[simp] theorem State.modBank_outbox (b : BankIx) (f : Bank → Bank) : (s.modBank b f).outbox = s.outbox := rfl
@[simp] theorem State.modBank_feed (b : BankIx) (f : Bank → Bank) : (s.modBank b f).feed = s.feed := rfl
@[simp] theorem State.modBank_arb (b : BankIx) (f : Bank → Bank) :
    (s.modBank b f).arb = { s.arb with roster := s.arb.roster.put b (f (s.bank b)) } := rfl
@[simp] theorem State.modBank_execLink (b : BankIx) (f : Bank → Bank) : (s.modBank b f).execLink = s.execLink := rfl
@[simp] theorem State.modBank_consoleLink (b : BankIx) (f : Bank → Bank) : (s.modBank b f).consoleLink = s.consoleLink := rfl
@[simp] theorem State.modBank_rx (b : BankIx) (f : Bank → Bank) : (s.modBank b f).rx = s.rx := rfl
@[simp] theorem State.modBank_spiOut (b : BankIx) (f : Bank → Bank) : (s.modBank b f).spiOut = s.spiOut := rfl

/-! ### `setExchange` -/

@[simp] theorem State.setExchange_pending (b : BankIx) (x : Option Exchange) : (s.setExchange b x).pending = s.pending := rfl
@[simp] theorem State.setExchange_now (b : BankIx) (x : Option Exchange) : (s.setExchange b x).now = s.now := rfl
@[simp] theorem State.setExchange_held (b : BankIx) (x : Option Exchange) : (s.setExchange b x).held = s.held := rfl
@[simp] theorem State.setExchange_straps (b : BankIx) (x : Option Exchange) : (s.setExchange b x).straps = s.straps := rfl
@[simp] theorem State.setExchange_store (b : BankIx) (x : Option Exchange) : (s.setExchange b x).store = s.store := rfl
@[simp] theorem State.setExchange_models (b : BankIx) (x : Option Exchange) : (s.setExchange b x).models = s.models := rfl
@[simp] theorem State.setExchange_bays (b : BankIx) (x : Option Exchange) : (s.setExchange b x).bays = s.bays := rfl
@[simp] theorem State.setExchange_senses (b : BankIx) (x : Option Exchange) : (s.setExchange b x).senses = s.senses := rfl
@[simp] theorem State.setExchange_feedSense (b : BankIx) (x : Option Exchange) : (s.setExchange b x).feedSense = s.feedSense := rfl
@[simp] theorem State.setExchange_engines (b : BankIx) (x : Option Exchange) : (s.setExchange b x).engines = s.engines := rfl
@[simp] theorem State.setExchange_outbox (b : BankIx) (x : Option Exchange) : (s.setExchange b x).outbox = s.outbox := rfl
@[simp] theorem State.setExchange_feed (b : BankIx) (x : Option Exchange) : (s.setExchange b x).feed = s.feed := rfl
@[simp] theorem State.setExchange_arb (b : BankIx) (x : Option Exchange) :
    (s.setExchange b x).arb = { s.arb with exchanges := s.arb.exchanges.put b x } := rfl
@[simp] theorem State.setExchange_execLink (b : BankIx) (x : Option Exchange) : (s.setExchange b x).execLink = s.execLink := rfl
@[simp] theorem State.setExchange_consoleLink (b : BankIx) (x : Option Exchange) : (s.setExchange b x).consoleLink = s.consoleLink := rfl
@[simp] theorem State.setExchange_rx (b : BankIx) (x : Option Exchange) : (s.setExchange b x).rx = s.rx := rfl
@[simp] theorem State.setExchange_spiOut (b : BankIx) (x : Option Exchange) : (s.setExchange b x).spiOut = s.spiOut := rfl

/-! ### `send` -/

@[simp] theorem State.send_pending (e : EngineIx) (m : Message) : (s.send e m).pending = s.pending := rfl
@[simp] theorem State.send_now (e : EngineIx) (m : Message) : (s.send e m).now = s.now := rfl
@[simp] theorem State.send_held (e : EngineIx) (m : Message) : (s.send e m).held = s.held := rfl
@[simp] theorem State.send_straps (e : EngineIx) (m : Message) : (s.send e m).straps = s.straps := rfl
@[simp] theorem State.send_store (e : EngineIx) (m : Message) : (s.send e m).store = s.store := rfl
@[simp] theorem State.send_models (e : EngineIx) (m : Message) : (s.send e m).models = s.models := rfl
@[simp] theorem State.send_bays (e : EngineIx) (m : Message) : (s.send e m).bays = s.bays := rfl
@[simp] theorem State.send_senses (e : EngineIx) (m : Message) : (s.send e m).senses = s.senses := rfl
@[simp] theorem State.send_feedSense (e : EngineIx) (m : Message) : (s.send e m).feedSense = s.feedSense := rfl
@[simp] theorem State.send_engines (e : EngineIx) (m : Message) : (s.send e m).engines = s.engines := rfl
@[simp] theorem State.send_outbox (e : EngineIx) (m : Message) :
    (s.send e m).outbox = s.outbox.put e (s.outbox.get e ++ [m]) := rfl
@[simp] theorem State.send_feed (e : EngineIx) (m : Message) : (s.send e m).feed = s.feed := rfl
@[simp] theorem State.send_arb (e : EngineIx) (m : Message) : (s.send e m).arb = s.arb := rfl
@[simp] theorem State.send_execLink (e : EngineIx) (m : Message) : (s.send e m).execLink = s.execLink := rfl
@[simp] theorem State.send_consoleLink (e : EngineIx) (m : Message) : (s.send e m).consoleLink = s.consoleLink := rfl
@[simp] theorem State.send_rx (e : EngineIx) (m : Message) : (s.send e m).rx = s.rx := rfl
@[simp] theorem State.send_spiOut (e : EngineIx) (m : Message) : (s.send e m).spiOut = s.spiOut := rfl

/-! ### `setQueue` -/

@[simp] theorem State.setQueue_pending (q : List SlotIx) : (s.setQueue q).pending = s.pending := rfl
@[simp] theorem State.setQueue_now (q : List SlotIx) : (s.setQueue q).now = s.now := rfl
@[simp] theorem State.setQueue_held (q : List SlotIx) : (s.setQueue q).held = s.held := rfl
@[simp] theorem State.setQueue_straps (q : List SlotIx) : (s.setQueue q).straps = s.straps := rfl
@[simp] theorem State.setQueue_store (q : List SlotIx) :
    (s.setQueue q).store = { s.store with queue := q } := rfl
@[simp] theorem State.setQueue_models (q : List SlotIx) : (s.setQueue q).models = s.models := rfl
@[simp] theorem State.setQueue_bays (q : List SlotIx) : (s.setQueue q).bays = s.bays := rfl
@[simp] theorem State.setQueue_senses (q : List SlotIx) : (s.setQueue q).senses = s.senses := rfl
@[simp] theorem State.setQueue_feedSense (q : List SlotIx) : (s.setQueue q).feedSense = s.feedSense := rfl
@[simp] theorem State.setQueue_engines (q : List SlotIx) : (s.setQueue q).engines = s.engines := rfl
@[simp] theorem State.setQueue_outbox (q : List SlotIx) : (s.setQueue q).outbox = s.outbox := rfl
@[simp] theorem State.setQueue_feed (q : List SlotIx) : (s.setQueue q).feed = s.feed := rfl
@[simp] theorem State.setQueue_arb (q : List SlotIx) : (s.setQueue q).arb = s.arb := rfl
@[simp] theorem State.setQueue_execLink (q : List SlotIx) : (s.setQueue q).execLink = s.execLink := rfl
@[simp] theorem State.setQueue_consoleLink (q : List SlotIx) : (s.setQueue q).consoleLink = s.consoleLink := rfl
@[simp] theorem State.setQueue_rx (q : List SlotIx) : (s.setQueue q).rx = s.rx := rfl
@[simp] theorem State.setQueue_spiOut (q : List SlotIx) : (s.setQueue q).spiOut = s.spiOut := rfl

/-! ### `ask` -/

@[simp] theorem State.ask_pending (a : Asked) : (s.ask a).pending = s.pending := rfl
@[simp] theorem State.ask_now (a : Asked) : (s.ask a).now = s.now := rfl
@[simp] theorem State.ask_held (a : Asked) : (s.ask a).held = s.held := rfl
@[simp] theorem State.ask_straps (a : Asked) : (s.ask a).straps = s.straps := rfl
@[simp] theorem State.ask_store (a : Asked) : (s.ask a).store = s.store := rfl
@[simp] theorem State.ask_models (a : Asked) : (s.ask a).models = s.models := rfl
@[simp] theorem State.ask_bays (a : Asked) : (s.ask a).bays = s.bays := rfl
@[simp] theorem State.ask_senses (a : Asked) : (s.ask a).senses = s.senses := rfl
@[simp] theorem State.ask_feedSense (a : Asked) : (s.ask a).feedSense = s.feedSense := rfl
@[simp] theorem State.ask_engines (a : Asked) : (s.ask a).engines = s.engines := rfl
@[simp] theorem State.ask_outbox (a : Asked) : (s.ask a).outbox = s.outbox := rfl
@[simp] theorem State.ask_feed (a : Asked) : (s.ask a).feed = s.feed := rfl
@[simp] theorem State.ask_arb (a : Asked) :
    (s.ask a).arb = { s.arb with asked := s.arb.asked ++ [a] } := rfl
@[simp] theorem State.ask_execLink (a : Asked) : (s.ask a).execLink = s.execLink := rfl
@[simp] theorem State.ask_consoleLink (a : Asked) : (s.ask a).consoleLink = s.consoleLink := rfl
@[simp] theorem State.ask_rx (a : Asked) : (s.ask a).rx = s.rx := rfl
@[simp] theorem State.ask_spiOut (a : Asked) : (s.ask a).spiOut = s.spiOut := rfl

/-! ### `setService` -/

@[simp] theorem State.setService_pending (v : Option Service) : (s.setService v).pending = s.pending := rfl
@[simp] theorem State.setService_now (v : Option Service) : (s.setService v).now = s.now := rfl
@[simp] theorem State.setService_held (v : Option Service) : (s.setService v).held = s.held := rfl
@[simp] theorem State.setService_straps (v : Option Service) : (s.setService v).straps = s.straps := rfl
@[simp] theorem State.setService_store (v : Option Service) : (s.setService v).store = s.store := rfl
@[simp] theorem State.setService_models (v : Option Service) : (s.setService v).models = s.models := rfl
@[simp] theorem State.setService_bays (v : Option Service) : (s.setService v).bays = s.bays := rfl
@[simp] theorem State.setService_senses (v : Option Service) : (s.setService v).senses = s.senses := rfl
@[simp] theorem State.setService_feedSense (v : Option Service) : (s.setService v).feedSense = s.feedSense := rfl
@[simp] theorem State.setService_engines (v : Option Service) : (s.setService v).engines = s.engines := rfl
@[simp] theorem State.setService_outbox (v : Option Service) : (s.setService v).outbox = s.outbox := rfl
@[simp] theorem State.setService_feed (v : Option Service) : (s.setService v).feed = s.feed := rfl
@[simp] theorem State.setService_arb (v : Option Service) :
    (s.setService v).arb = { s.arb with service := v } := rfl
@[simp] theorem State.setService_execLink (v : Option Service) : (s.setService v).execLink = s.execLink := rfl
@[simp] theorem State.setService_consoleLink (v : Option Service) : (s.setService v).consoleLink = s.consoleLink := rfl
@[simp] theorem State.setService_rx (v : Option Service) : (s.setService v).rx = s.rx := rfl
@[simp] theorem State.setService_spiOut (v : Option Service) : (s.setService v).spiOut = s.spiOut := rfl

/-! ### `setBankWaits` -/

@[simp] theorem State.setBankWaits_pending (w : List BankWait) : (s.setBankWaits w).pending = s.pending := rfl
@[simp] theorem State.setBankWaits_now (w : List BankWait) : (s.setBankWaits w).now = s.now := rfl
@[simp] theorem State.setBankWaits_held (w : List BankWait) : (s.setBankWaits w).held = s.held := rfl
@[simp] theorem State.setBankWaits_straps (w : List BankWait) : (s.setBankWaits w).straps = s.straps := rfl
@[simp] theorem State.setBankWaits_store (w : List BankWait) : (s.setBankWaits w).store = s.store := rfl
@[simp] theorem State.setBankWaits_models (w : List BankWait) : (s.setBankWaits w).models = s.models := rfl
@[simp] theorem State.setBankWaits_bays (w : List BankWait) : (s.setBankWaits w).bays = s.bays := rfl
@[simp] theorem State.setBankWaits_senses (w : List BankWait) : (s.setBankWaits w).senses = s.senses := rfl
@[simp] theorem State.setBankWaits_feedSense (w : List BankWait) : (s.setBankWaits w).feedSense = s.feedSense := rfl
@[simp] theorem State.setBankWaits_engines (w : List BankWait) : (s.setBankWaits w).engines = s.engines := rfl
@[simp] theorem State.setBankWaits_outbox (w : List BankWait) : (s.setBankWaits w).outbox = s.outbox := rfl
@[simp] theorem State.setBankWaits_feed (w : List BankWait) : (s.setBankWaits w).feed = s.feed := rfl
@[simp] theorem State.setBankWaits_arb (w : List BankWait) :
    (s.setBankWaits w).arb = { s.arb with waits := w } := rfl
@[simp] theorem State.setBankWaits_execLink (w : List BankWait) : (s.setBankWaits w).execLink = s.execLink := rfl
@[simp] theorem State.setBankWaits_consoleLink (w : List BankWait) : (s.setBankWaits w).consoleLink = s.consoleLink := rfl
@[simp] theorem State.setBankWaits_rx (w : List BankWait) : (s.setBankWaits w).rx = s.rx := rfl
@[simp] theorem State.setBankWaits_spiOut (w : List BankWait) : (s.setBankWaits w).spiOut = s.spiOut := rfl

/-! ### `dropAsked` -/

@[simp] theorem State.dropAsked_pending (b : BankIx) : (s.dropAsked b).pending = s.pending := rfl
@[simp] theorem State.dropAsked_now (b : BankIx) : (s.dropAsked b).now = s.now := rfl
@[simp] theorem State.dropAsked_held (b : BankIx) : (s.dropAsked b).held = s.held := rfl
@[simp] theorem State.dropAsked_straps (b : BankIx) : (s.dropAsked b).straps = s.straps := rfl
@[simp] theorem State.dropAsked_store (b : BankIx) : (s.dropAsked b).store = s.store := rfl
@[simp] theorem State.dropAsked_models (b : BankIx) : (s.dropAsked b).models = s.models := rfl
@[simp] theorem State.dropAsked_bays (b : BankIx) : (s.dropAsked b).bays = s.bays := rfl
@[simp] theorem State.dropAsked_senses (b : BankIx) : (s.dropAsked b).senses = s.senses := rfl
@[simp] theorem State.dropAsked_feedSense (b : BankIx) : (s.dropAsked b).feedSense = s.feedSense := rfl
@[simp] theorem State.dropAsked_engines (b : BankIx) : (s.dropAsked b).engines = s.engines := rfl
@[simp] theorem State.dropAsked_outbox (b : BankIx) : (s.dropAsked b).outbox = s.outbox := rfl
@[simp] theorem State.dropAsked_feed (b : BankIx) : (s.dropAsked b).feed = s.feed := rfl
@[simp] theorem State.dropAsked_arb (b : BankIx) :
    (s.dropAsked b).arb = { s.arb with asked := s.arb.asked.filter (·.bank ≠ b) } := rfl
@[simp] theorem State.dropAsked_execLink (b : BankIx) : (s.dropAsked b).execLink = s.execLink := rfl
@[simp] theorem State.dropAsked_consoleLink (b : BankIx) : (s.dropAsked b).consoleLink = s.consoleLink := rfl
@[simp] theorem State.dropAsked_rx (b : BankIx) : (s.dropAsked b).rx = s.rx := rfl
@[simp] theorem State.dropAsked_spiOut (b : BankIx) : (s.dropAsked b).spiOut = s.spiOut := rfl

/-! ### `setTurn` -/

@[simp] theorem State.setTurn_pending (t : Option Turn) : (s.setTurn t).pending = s.pending := rfl
@[simp] theorem State.setTurn_now (t : Option Turn) : (s.setTurn t).now = s.now := rfl
@[simp] theorem State.setTurn_held (t : Option Turn) : (s.setTurn t).held = s.held := rfl
@[simp] theorem State.setTurn_straps (t : Option Turn) : (s.setTurn t).straps = s.straps := rfl
@[simp] theorem State.setTurn_store (t : Option Turn) : (s.setTurn t).store = s.store := rfl
@[simp] theorem State.setTurn_models (t : Option Turn) : (s.setTurn t).models = s.models := rfl
@[simp] theorem State.setTurn_bays (t : Option Turn) : (s.setTurn t).bays = s.bays := rfl
@[simp] theorem State.setTurn_senses (t : Option Turn) : (s.setTurn t).senses = s.senses := rfl
@[simp] theorem State.setTurn_feedSense (t : Option Turn) : (s.setTurn t).feedSense = s.feedSense := rfl
@[simp] theorem State.setTurn_engines (t : Option Turn) : (s.setTurn t).engines = s.engines := rfl
@[simp] theorem State.setTurn_outbox (t : Option Turn) : (s.setTurn t).outbox = s.outbox := rfl
@[simp] theorem State.setTurn_feed (t : Option Turn) : (s.setTurn t).feed = s.feed := rfl
@[simp] theorem State.setTurn_arb (t : Option Turn) :
    (s.setTurn t).arb = { s.arb with turn := t } := rfl
@[simp] theorem State.setTurn_execLink (t : Option Turn) : (s.setTurn t).execLink = s.execLink := rfl
@[simp] theorem State.setTurn_consoleLink (t : Option Turn) : (s.setTurn t).consoleLink = s.consoleLink := rfl
@[simp] theorem State.setTurn_rx (t : Option Turn) : (s.setTurn t).rx = s.rx := rfl
@[simp] theorem State.setTurn_spiOut (t : Option Turn) : (s.setTurn t).spiOut = s.spiOut := rfl

/-! ### `setLink` -/

@[simp] theorem State.setLink_pending (l : Link) (x : LinkState) : (s.setLink l x).pending = s.pending := by
  cases l <;> rfl
@[simp] theorem State.setLink_now (l : Link) (x : LinkState) : (s.setLink l x).now = s.now := by
  cases l <;> rfl
@[simp] theorem State.setLink_held (l : Link) (x : LinkState) : (s.setLink l x).held = s.held := by
  cases l <;> rfl
@[simp] theorem State.setLink_straps (l : Link) (x : LinkState) : (s.setLink l x).straps = s.straps := by
  cases l <;> rfl
@[simp] theorem State.setLink_store (l : Link) (x : LinkState) : (s.setLink l x).store = s.store := by
  cases l <;> rfl
@[simp] theorem State.setLink_models (l : Link) (x : LinkState) : (s.setLink l x).models = s.models := by
  cases l <;> rfl
@[simp] theorem State.setLink_bays (l : Link) (x : LinkState) : (s.setLink l x).bays = s.bays := by
  cases l <;> rfl
@[simp] theorem State.setLink_senses (l : Link) (x : LinkState) : (s.setLink l x).senses = s.senses := by
  cases l <;> rfl
@[simp] theorem State.setLink_feedSense (l : Link) (x : LinkState) : (s.setLink l x).feedSense = s.feedSense := by
  cases l <;> rfl
@[simp] theorem State.setLink_engines (l : Link) (x : LinkState) : (s.setLink l x).engines = s.engines := by
  cases l <;> rfl
@[simp] theorem State.setLink_outbox (l : Link) (x : LinkState) : (s.setLink l x).outbox = s.outbox := by
  cases l <;> rfl
@[simp] theorem State.setLink_feed (l : Link) (x : LinkState) : (s.setLink l x).feed = s.feed := by
  cases l <;> rfl
@[simp] theorem State.setLink_arb (l : Link) (x : LinkState) : (s.setLink l x).arb = s.arb := by
  cases l <;> rfl
@[simp] theorem State.setLink_rx (l : Link) (x : LinkState) : (s.setLink l x).rx = s.rx := by
  cases l <;> rfl
@[simp] theorem State.setLink_spiOut (l : Link) (x : LinkState) : (s.setLink l x).spiOut = s.spiOut := by
  cases l <;> rfl

@[simp] theorem State.link_setLink_same (l : Link) (x : LinkState) : (s.setLink l x).link l = x := by
  cases l <;> rfl

@[simp] theorem State.link_setLink_other (l : Link) (x : LinkState) :
    (s.setLink l x).link (otherLink l) = s.link (otherLink l) := by
  cases l <;> rfl

/-! ### `formAnswer` -/

@[simp] theorem State.formAnswer_pending (l : Link) (tag : Byte) (c : Code) (body : List Byte) :
    (s.formAnswer l tag c body).pending = s.pending := by
  cases l <;> rfl
@[simp] theorem State.formAnswer_now (l : Link) (tag : Byte) (c : Code) (body : List Byte) :
    (s.formAnswer l tag c body).now = s.now := by
  cases l <;> rfl
@[simp] theorem State.formAnswer_held (l : Link) (tag : Byte) (c : Code) (body : List Byte) :
    (s.formAnswer l tag c body).held = s.held := by
  cases l <;> rfl
@[simp] theorem State.formAnswer_straps (l : Link) (tag : Byte) (c : Code) (body : List Byte) :
    (s.formAnswer l tag c body).straps = s.straps := by
  cases l <;> rfl
@[simp] theorem State.formAnswer_store (l : Link) (tag : Byte) (c : Code) (body : List Byte) :
    (s.formAnswer l tag c body).store = s.store := by
  cases l <;> rfl
@[simp] theorem State.formAnswer_models (l : Link) (tag : Byte) (c : Code) (body : List Byte) :
    (s.formAnswer l tag c body).models = s.models := by
  cases l <;> rfl
@[simp] theorem State.formAnswer_bays (l : Link) (tag : Byte) (c : Code) (body : List Byte) :
    (s.formAnswer l tag c body).bays = s.bays := by
  cases l <;> rfl
@[simp] theorem State.formAnswer_senses (l : Link) (tag : Byte) (c : Code) (body : List Byte) :
    (s.formAnswer l tag c body).senses = s.senses := by
  cases l <;> rfl
@[simp] theorem State.formAnswer_feedSense (l : Link) (tag : Byte) (c : Code) (body : List Byte) :
    (s.formAnswer l tag c body).feedSense = s.feedSense := by
  cases l <;> rfl
@[simp] theorem State.formAnswer_engines (l : Link) (tag : Byte) (c : Code) (body : List Byte) :
    (s.formAnswer l tag c body).engines = s.engines := by
  cases l <;> rfl
@[simp] theorem State.formAnswer_outbox (l : Link) (tag : Byte) (c : Code) (body : List Byte) :
    (s.formAnswer l tag c body).outbox = s.outbox := by
  cases l <;> rfl
@[simp] theorem State.formAnswer_feed (l : Link) (tag : Byte) (c : Code) (body : List Byte) :
    (s.formAnswer l tag c body).feed = s.feed := by
  cases l <;> rfl
@[simp] theorem State.formAnswer_arb (l : Link) (tag : Byte) (c : Code) (body : List Byte) :
    (s.formAnswer l tag c body).arb = s.arb := by
  cases l <;> rfl
@[simp] theorem State.formAnswer_rx (l : Link) (tag : Byte) (c : Code) (body : List Byte) :
    (s.formAnswer l tag c body).rx = s.rx := by
  cases l <;> rfl
@[simp] theorem State.formAnswer_spiOut (l : Link) (tag : Byte) (c : Code) (body : List Byte) :
    (s.formAnswer l tag c body).spiOut = s.spiOut := by
  cases l <;> rfl

/-! ### `passTo` -/

@[simp] theorem State.passTo_pending (t : Nat) : (s.passTo t).pending = s.pending := by
  unfold State.passTo; split <;> rfl
@[simp] theorem State.passTo_held (t : Nat) : (s.passTo t).held = s.held := by
  unfold State.passTo; split <;> rfl
@[simp] theorem State.passTo_straps (t : Nat) : (s.passTo t).straps = s.straps := by
  unfold State.passTo; split <;> rfl
@[simp] theorem State.passTo_store (t : Nat) : (s.passTo t).store = s.store := by
  unfold State.passTo; split <;> rfl
@[simp] theorem State.passTo_models (t : Nat) : (s.passTo t).models = s.models := by
  unfold State.passTo; split <;> rfl
@[simp] theorem State.passTo_bays (t : Nat) : (s.passTo t).bays = s.bays := by
  unfold State.passTo; split <;> rfl
@[simp] theorem State.passTo_senses (t : Nat) : (s.passTo t).senses = s.senses := by
  unfold State.passTo; split <;> rfl
@[simp] theorem State.passTo_feedSense (t : Nat) : (s.passTo t).feedSense = s.feedSense := by
  unfold State.passTo; split <;> rfl
@[simp] theorem State.passTo_engines (t : Nat) : (s.passTo t).engines = s.engines := by
  unfold State.passTo; split <;> rfl
@[simp] theorem State.passTo_outbox (t : Nat) : (s.passTo t).outbox = s.outbox := by
  unfold State.passTo; split <;> rfl
@[simp] theorem State.passTo_feed (t : Nat) : (s.passTo t).feed = s.feed := by
  unfold State.passTo; split <;> rfl
@[simp] theorem State.passTo_execLink (t : Nat) : (s.passTo t).execLink = s.execLink := by
  unfold State.passTo; split <;> rfl
@[simp] theorem State.passTo_consoleLink (t : Nat) : (s.passTo t).consoleLink = s.consoleLink := by
  unfold State.passTo; split <;> rfl
@[simp] theorem State.passTo_rx (t : Nat) : (s.passTo t).rx = s.rx := by
  unfold State.passTo; split <;> rfl
@[simp] theorem State.passTo_spiOut (t : Nat) : (s.passTo t).spiOut = s.spiOut := by
  unfold State.passTo; split <;> rfl

@[simp] theorem State.passTo_now (t : Nat) : (s.passTo t).now = max s.now t := by
  unfold State.passTo; split <;> simp <;> omega

@[simp] theorem State.passTo_roster (t : Nat) : (s.passTo t).arb.roster = s.arb.roster := by
  unfold State.passTo; split <;> rfl

@[simp] theorem State.passTo_waits (t : Nat) : (s.passTo t).arb.waits = s.arb.waits := by
  unfold State.passTo; split <;> rfl

@[simp] theorem State.passTo_service (t : Nat) : (s.passTo t).arb.service = s.arb.service := by
  unfold State.passTo; split <;> rfl

@[simp] theorem State.passTo_asked (t : Nat) : (s.passTo t).arb.asked = s.arb.asked := by
  unfold State.passTo; split <;> rfl

@[simp] theorem State.passTo_exchanges (t : Nat) :
    (s.passTo t).arb.exchanges = s.arb.exchanges := by
  unfold State.passTo; split <;> rfl

@[simp] theorem State.passTo_sweepFrom (t : Nat) :
    (s.passTo t).arb.sweepFrom = s.arb.sweepFrom := by
  unfold State.passTo; split <;> rfl

@[simp] theorem State.passTo_nextJoin (t : Nat) : (s.passTo t).arb.nextJoin = s.arb.nextJoin := by
  unfold State.passTo; split <;> rfl

/-! ### Reads after writes -/

theorem State.slot_setSlot (i j : SlotIx) (x : ShelfSlot) :
    (s.setSlot i x).slot j = if j = i then x else s.slot j := Tab.get_put _ _ _ _

theorem State.modelSlot_setModelSlot (m n : ModelIx) (x : ModelSlot) :
    (s.setModelSlot m x).modelSlot n = if n = m then x else s.modelSlot n := Tab.get_put _ _ _ _

theorem State.bay_setBay (b c : BayIx) (x : Bay) :
    (s.setBay b x).bay c = if c = b then x else s.bay c := Tab.get_put _ _ _ _

theorem State.sense_setSense (b c : BayIx) (x : BaySense) :
    (s.setSense b x).sense c = if c = b then x else s.sense c := Tab.get_put _ _ _ _

theorem State.engine_setEngine (e f : EngineIx) (x : Engine) :
    (s.setEngine e x).engine f = if f = e then x else s.engine f := Tab.get_put _ _ _ _

theorem State.engine_modEngine (e f : EngineIx) (g : Engine → Engine) :
    (s.modEngine e g).engine f = if f = e then g (s.engine e) else s.engine f :=
  Tab.get_put _ _ _ _

theorem State.bank_setBank (b c : BankIx) (x : Bank) :
    (s.setBank b x).bank c = if c = b then x else s.bank c := Tab.get_put _ _ _ _

theorem State.bank_modBank (b c : BankIx) (g : Bank → Bank) :
    (s.modBank b g).bank c = if c = b then g (s.bank b) else s.bank c := Tab.get_put _ _ _ _

theorem State.exchange_setExchange (b c : BankIx) (x : Option Exchange) :
    (s.setExchange b x).exchange c = if c = b then x else s.exchange c := Tab.get_put _ _ _ _

theorem State.outbox_send (e f : EngineIx) (m : Message) :
    (s.send e m).outbox.get f =
      if f = e then s.outbox.get e ++ [m] else s.outbox.get f := Tab.get_put _ _ _ _

/-! ### The bays whose binding names a record -/

theorem State.mem_boundBays (h : Handle) (b : BayIx) :
    b ∈ s.boundBays h ↔ (s.bay b).binding = some h := by
  simp [State.boundBays]

/-- A change of one bay at a time, over a list of bays, changes nothing but those bays. -/
theorem State.foldl_setBay (f : Bay → Bay) (hf : ∀ x, f (f x) = f x) (l : List BayIx) :
    let t := l.foldl (fun t b => t.setBay b (f (t.bay b))) s
    t = { s with bays := t.bays } ∧ ∀ c, t.bay c = if c ∈ l then f (s.bay c) else s.bay c := by
  induction l generalizing s with
  | nil => simp
  | cons b l ih =>
    obtain ⟨h1, h2⟩ := ih (s.setBay b (f (s.bay b)))
    simp only [List.foldl_cons]
    refine ⟨h1, fun c => ?_⟩
    rw [h2, State.bay_setBay]
    by_cases hc : c = b
    · subst hc; simp [hf]
    · simp [hc]

/-- R69: every bay whose binding names the record is freed, and nothing else changes. -/
theorem State.freeBound_spec (h : Handle) :
    s.freeBound h = { s with bays := (s.freeBound h).bays } ∧
    ∀ b, (s.freeBound h).bay b = if (s.bay b).binding = some h
      then { s.bay b with binding := none, seatLost := false, rearm := none } else s.bay b := by
  have := s.foldl_setBay (fun x => { x with binding := none, seatLost := false, rearm := none })
    (fun _ => rfl) (s.boundBays h)
  simp only [State.mem_boundBays] at this
  exact this

/-- R24, R76: every bay whose binding names the record loses its seat-lost mark and its re-arm pulse, and
nothing else changes. -/
theorem State.clearBound_spec (h : Handle) :
    s.clearBound h = { s with bays := (s.clearBound h).bays } ∧
    ∀ b, (s.clearBound h).bay b = if (s.bay b).binding = some h
      then { s.bay b with seatLost := false, rearm := none } else s.bay b := by
  have := s.foldl_setBay (fun x => { x with seatLost := false, rearm := none })
    (fun _ => rfl) (s.boundBays h)
  simp only [State.mem_boundBays] at this
  exact this

end Sys2Proof.Machine
end

