-- ==== Sys2Proof/Laws/Shell.lean ====
section
/-! SUPPORT. What the operations of the engines, the feed supervisor's lists and the bank arbiter can change: one lemma for each operation says that the rest of the machine, its shell, stands. -/

namespace Sys2Proof.Machine

/-- The part of the feed that no list operation writes. -/
def Feed.shell (f : Feed) : Feed :=
  { f with reservations := [], total := 0, waits := [], nextNumber := 0, nextJoin := 0 }

/-- The part of the arbiter that no request, grant or release writes. -/
def Arbiter.shell (a : Arbiter) : Arbiter :=
  { a with roster := Tab.fill 8 Bank.atRelease, waits := [], service := none, asked := [],
           nextJoin := 0 }

/-- The machine without its engines, their messages, and the lists of the feed and of the arbiter. -/
def State.shell (s : State) : State :=
  { s with engines := Tab.fill 6 Engine.free, outbox := Tab.fill 6 [], feed := s.feed.shell,
           arb := s.arb.shell }

/-! ### What equal shells give -/

section
variable {s t : State} (h : t.shell = s.shell)
include h

theorem State.shell_pending : t.pending = s.pending := by
  have k := congrArg State.pending h
  exact k
theorem State.shell_now : t.now = s.now := by
  have k := congrArg State.now h
  exact k
theorem State.shell_held : t.held = s.held := by
  have k := congrArg State.held h
  exact k
theorem State.shell_straps : t.straps = s.straps := by
  have k := congrArg State.straps h
  exact k
theorem State.shell_store : t.store = s.store := by
  have k := congrArg State.store h
  exact k
theorem State.shell_models : t.models = s.models := by
  have k := congrArg State.models h
  exact k
theorem State.shell_bays : t.bays = s.bays := by
  have k := congrArg State.bays h
  exact k
theorem State.shell_senses : t.senses = s.senses := by
  have k := congrArg State.senses h
  exact k
theorem State.shell_feedSense : t.feedSense = s.feedSense := by
  have k := congrArg State.feedSense h
  exact k
theorem State.shell_execLink : t.execLink = s.execLink := by
  have k := congrArg State.execLink h
  exact k
theorem State.shell_consoleLink : t.consoleLink = s.consoleLink := by
  have k := congrArg State.consoleLink h
  exact k
theorem State.shell_rx : t.rx = s.rx := by
  have k := congrArg State.rx h
  exact k
theorem State.shell_spiOut : t.spiOut = s.spiOut := by
  have k := congrArg State.spiOut h
  exact k
theorem State.shell_feed : t.feed.shell = s.feed.shell := by
  have k := congrArg State.feed h
  exact k
theorem State.shell_arb : t.arb.shell = s.arb.shell := by
  have k := congrArg State.arb h
  exact k
theorem State.shell_turn : t.arb.turn = s.arb.turn := by
  have k := congrArg (fun u : State => u.arb.turn) h
  exact k
theorem State.shell_exchanges : t.arb.exchanges = s.arb.exchanges := by
  have k := congrArg (fun u : State => u.arb.exchanges) h
  exact k
theorem State.shell_sweepFrom : t.arb.sweepFrom = s.arb.sweepFrom := by
  have k := congrArg (fun u : State => u.arb.sweepFrom) h
  exact k
theorem State.shell_window : t.feed.window = s.feed.window := by
  have k := congrArg (fun u : State => u.feed.window) h
  exact k

/-- Equal shells: only engines, messages, feed and arbiter can differ. -/
theorem State.shell_frame :
    t = { s with engines := t.engines, outbox := t.outbox, feed := t.feed, arb := t.arb } := by
  obtain ⟨⟩ := t
  obtain ⟨⟩ := s
  simp only [State.shell, State.mk.injEq] at h ⊢
  tauto

end

/-! ### Folds -/

theorem foldl_keeps {α β γ : Type} (g : β → γ) (f : β → α → β) (h : ∀ b a, g (f b a) = g b)
    (l : List α) (b : β) : g (l.foldl f b) = g b := by
  induction l generalizing b with
  | nil => rfl
  | cons a l ih => rw [List.foldl_cons, ih, h]

/-! ### Engines, messages, feed lists -/

variable (s : State)

@[simp] theorem State.setEngine_shell (e : EngineIx) (x : Engine) :
    (s.setEngine e x).shell = s.shell := rfl

@[simp] theorem State.modEngine_shell (e : EngineIx) (f : Engine → Engine) :
    (s.modEngine e f).shell = s.shell := rfl

@[simp] theorem State.send_shell (e : EngineIx) (m : Message) : (s.send e m).shell = s.shell := rfl

theorem State.setFeed_shell {f : Feed} (h : f.shell = s.feed.shell) :
    (s.setFeed f).shell = s.shell := by simp [State.shell, State.setFeed, h]

@[simp] theorem Feed.drop_shell (f : Feed) (e : EngineIx) : (f.drop e).shell = f.shell := rfl

@[simp] theorem Feed.join_shell (f : Feed) (e : EngineIx) (n p : Nat) (b : BayIx) :
    (f.join e n p b).shell = f.shell := rfl

@[simp] theorem Feed.withdraw_shell (f : Feed) (e : EngineIx) :
    (f.withdraw e).shell = f.shell := rfl

@[simp] theorem Feed.admitted_shell (f : Feed) (w : FeedWait) :
    (f.admitted w).shell = f.shell := rfl

@[simp] theorem Feed.markSent_shell (f : Feed) (e : EngineIx) :
    (f.markSent e).shell = f.shell := rfl

@[simp] theorem Feed.reprioritise_shell (f : Feed) (e : EngineIx) (p : Nat) :
    (f.reprioritise e p).shell = f.shell := rfl

@[simp] theorem State.feedRelease_shell (e : EngineIx) : (s.feedRelease e).shell = s.shell := by
  unfold State.feedRelease
  rw [State.modEngine_shell, State.setFeed_shell]
  simp

@[simp] theorem State.feedWithdraw_shell (e : EngineIx) :
    (s.feedWithdraw e).shell = s.shell := by
  unfold State.feedWithdraw
  rw [State.modEngine_shell, State.setFeed_shell]
  simp

/-! ### Arbiter -/

@[simp] theorem State.setBank_shell (b : BankIx) (x : Bank) : (s.setBank b x).shell = s.shell := rfl

@[simp] theorem State.modBank_shell (b : BankIx) (f : Bank → Bank) :
    (s.modBank b f).shell = s.shell := rfl

@[simp] theorem State.ask_shell (a : Asked) : (s.ask a).shell = s.shell := rfl

@[simp] theorem State.askSet_shell (b : BankIx) (n : Nat) (l : Bool) :
    (s.askSet b n l).shell = s.shell := rfl

@[simp] theorem State.askRelease_shell (b : BankIx) : (s.askRelease b).shell = s.shell := rfl

@[simp] theorem State.askOwnRelease_shell (b : BankIx) : (s.askOwnRelease b).shell = s.shell := rfl

@[simp] theorem State.dropAsked_shell (b : BankIx) : (s.dropAsked b).shell = s.shell := rfl

@[simp] theorem State.setService_shell (v : Option Service) : (s.setService v).shell = s.shell := rfl

@[simp] theorem State.setBankWaits_shell (w : List BankWait) :
    (s.setBankWaits w).shell = s.shell := rfl

@[simp] theorem State.joinBankWaits_shell (w : BankWait) : (s.joinBankWaits w).shell = s.shell := rfl

@[simp] theorem State.bankWithdraw_shell (e : EngineIx) : (s.bankWithdraw e).shell = s.shell := rfl

@[simp] theorem State.bankReprioritise_shell (e : EngineIx) (p : Nat) :
    (s.bankReprioritise e p).shell = s.shell := by
  unfold State.bankReprioritise; split <;> simp

@[simp] theorem State.bankTest_shell : s.bankTest.shell = s.shell := by
  unfold State.bankTest
  split
  · split
    · simp only [State.modEngine_shell, State.ask_shell]
      rw [foldl_keeps State.shell _ fun t c => State.modBank_shell t c _]
      simp
    · rfl
  · rfl

@[simp] theorem State.unchoose_shell (b : BankIx) : (s.unchoose b).shell = s.shell := by
  unfold State.unchoose
  split
  · split <;> simp
  · simp
  · rfl

@[simp] theorem State.endService_shell (v : Service) (st : ServiceStatus) :
    (s.endService v st).shell = s.shell := by
  unfold State.endService
  simp only [State.setService_shell]
  exact foldl_keeps State.shell _ (fun t c => State.unchoose_shell t c) _ _

@[simp] theorem State.returnRequest_shell (v : Service) : (s.returnRequest v).shell = s.shell := by
  unfold State.returnRequest; simp

/-! ### Close and unload -/

@[simp] theorem State.engineClose_shell (e : EngineIx) : (s.engineClose e).shell = s.shell := by
  unfold State.engineClose; dsimp only; split <;> simp

@[simp] theorem State.acquireExit_shell (e : EngineIx) : (s.acquireExit e).shell = s.shell := by
  unfold State.acquireExit; simp

@[simp] theorem State.unloadAdvance_shell (e : EngineIx) :
    (s.unloadAdvance e).shell = s.shell := by
  unfold State.unloadAdvance
  dsimp only
  split
  · rfl
  split
  · split <;> simp
  split
  · split
    · simp
    · rw [State.modEngine_shell, foldl_keeps State.shell _ fun t g => State.askRelease_shell t _]
      simp
  · rfl

@[simp] theorem State.enterUnload_shell (e : EngineIx) : (s.enterUnload e).shell = s.shell := by
  unfold State.enterUnload
  simp only [State.unloadAdvance_shell, State.modEngine_shell]
  exact foldl_keeps State.shell _ (fun t g => State.askSet_shell t _ _ _) _ _

@[simp] theorem State.withdrawComplete_shell (e : EngineIx) :
    (s.withdrawComplete e).shell = s.shell := by
  unfold State.withdrawComplete; simp

@[simp] theorem State.withdraw_shell (e : EngineIx) : (s.withdraw e).shell = s.shell := by
  unfold State.withdraw
  split
  · split
    · dsimp only; split <;> simp
    · simp
  · simp

@[simp] theorem State.recallSets_shell (e : EngineIx) : (s.recallSets e).shell = s.shell := by
  unfold State.recallSets
  rw [State.modEngine_shell]
  exact foldl_keeps State.shell _ (fun t g => by simp) _ _

@[simp] theorem State.takeStop_shell (e : EngineIx) (c : StopCause) :
    (s.takeStop e c).shell = s.shell := by
  unfold State.takeStop
  dsimp only
  split
  · rfl
  · rfl
  split
  · rfl
  · split <;> simp
  split
  · simp
  · split <;> simp
  · rw [State.enterUnload_shell]; split <;> simp
  · simp
  · simp

@[simp] theorem State.reachVerdict_shell (e : EngineIx) (v : Verdict) :
    (s.reachVerdict e v).shell = s.shell := by
  unfold State.reachVerdict; simp

@[simp] theorem State.passageAdvance_shell (e : EngineIx) :
    (s.passageAdvance e).shell = s.shell := by
  unfold State.passageAdvance
  dsimp only
  split
  · split <;> simp
  · rfl

@[simp] theorem State.passage_shell (e : EngineIx) (c : WorkingCopy) (r : RestartParams) (t : Nat)
    (cause : DetectCause) : (s.passage e c r t cause).shell = s.shell := by
  unfold State.passage
  simp only [State.passageAdvance_shell, State.modEngine_shell]
  rw [foldl_keeps State.shell _ fun t g => State.askSet_shell t _ _ _]
  simp

@[simp] theorem State.detect_shell (e : EngineIx) (cause : DetectCause) (tick : Nat) :
    (s.detect e cause tick).shell = s.shell := by
  unfold State.detect
  dsimp only
  split
  · split
    · simp
    · simp
    split
    · rfl
    split
    · rfl
    split <;> simp
  · rfl

@[simp] theorem State.arm_shell (e : EngineIx) : (s.arm e).shell = s.shell := by
  unfold State.arm
  split
  · rfl
  dsimp only
  split <;> simp

@[simp] theorem State.enterWatch_shell (e : EngineIx) : (s.enterWatch e).shell = s.shell := rfl

/-! ### Loading and admission -/

@[simp] theorem State.enterLoad_shell (e : EngineIx) (g : List GrantBank) :
    (s.enterLoad e g).shell = s.shell := by
  unfold State.enterLoad
  split
  · rfl
  dsimp only
  split
  · simp
  split
  · split <;> simp
  · rw [State.modEngine_shell, foldl_keeps State.shell _ fun t g => State.askSet_shell t _ _ _]
    simp

theorem State.setArb_shell {a : Arbiter} (h : a.shell = s.arb.shell) :
    (s.setArb a).shell = s.shell := by simp [State.shell, State.setArb, h]

@[simp] theorem State.bankRequest_shell (e : EngineIx) (c : WorkingCopy) (n : Nat) :
    (s.bankRequest e c n).shell = s.shell := by
  unfold State.bankRequest
  split
  · simp
  · simp only [State.bankTest_shell, State.modEngine_shell]
    rfl

@[simp] theorem State.askBanks_shell (e : EngineIx) : (s.askBanks e).shell = s.shell := by
  unfold State.askBanks
  split
  · rfl
  split <;> simp

@[simp] theorem State.admitHead_shell (w : FeedWait) : (s.admitHead w).shell = s.shell := by
  unfold State.admitHead
  rw [State.modEngine_shell, State.setFeed_shell]
  simp

@[simp] theorem State.feedTestUpTo_shell (n : Nat) : (State.feedTestUpTo n s).shell = s.shell := by
  induction n generalizing s with
  | zero => rfl
  | succ n ih =>
    unfold State.feedTestUpTo
    split
    · rfl
    split
    · rw [ih, State.admitHead_shell]
    · rfl

@[simp] theorem State.feedTest_shell : s.feedTest.shell = s.shell := State.feedTestUpTo_shell s _

@[simp] theorem State.feedRetest_shell (b : State) : (State.feedRetest b s).shell = s.shell := by
  unfold State.feedRetest; split <;> simp

@[simp] theorem State.stopEngine_shell (e : EngineIx) (c : StopCause) :
    (s.stopEngine e c).shell = s.shell := by
  unfold State.stopEngine; simp

@[simp] theorem State.joinFeedWaits_shell (e : EngineIx) (c : WorkingCopy) (n : Nat) :
    (s.joinFeedWaits e c n).shell = s.shell := by
  unfold State.joinFeedWaits
  rw [State.modEngine_shell, State.setFeed_shell]
  simp

@[simp] theorem State.submit_shell (e : EngineIx) (c : WorkingCopy) (n : Nat) :
    (s.submit e c n).shell = s.shell := by
  unfold State.submit
  rw [State.feedTest_shell, State.joinFeedWaits_shell]

@[simp] theorem State.askBanks_feedRetest_shell (e : EngineIx) :
    (State.feedRetest s (s.askBanks e)).shell = s.shell := by
  rw [State.feedRetest_shell, State.askBanks_shell]

/-- Everything the block's own work can be: the bank request of an engine in ACQUIRE that has made none, or
the submission of an engine in RESERVE that has made none. -/
theorem State.ownWork_cases {s t : State} (h : s.ownWork = some t) :
    (∃ e, s.bankAsker = some e ∧ t = s.feedRetest (s.askBanks e)) ∨
      ∃ e c n, s.bankAsker = none ∧ s.submitter = some e ∧
        (s.engine e).submission = some (c, n) ∧ t = s.submit e c n := by
  unfold State.ownWork at h
  split at h
  · exact .inl ⟨_, ‹_›, (Option.some.inj h).symm⟩
  · obtain ⟨e, he, h⟩ := Option.bind_eq_some_iff.mp h
    obtain ⟨⟨c, n⟩, hc, h⟩ := Option.map_eq_some_iff.mp h
    exact .inr ⟨e, c, n, ‹_›, he, hc, h.symm⟩

/-- The block's own work leaves the shell as it is. -/
theorem State.ownWork_shell {s t : State} (h : s.ownWork = some t) : t.shell = s.shell := by
  obtain ⟨e, -, rfl⟩ | ⟨e, c, n, -, -, -, rfl⟩ := State.ownWork_cases h <;> simp

@[simp] theorem State.settleUpTo_shell (n : Nat) : (State.settleUpTo n s).shell = s.shell := by
  induction n generalizing s with
  | zero => rfl
  | succ n ih =>
    unfold State.settleUpTo
    split
    · rw [ih, State.ownWork_shell ‹_›]
    · rfl

@[simp] theorem State.settled_shell : s.settled.shell = s.shell := State.settleUpTo_shell s _

/-- A state in which no own work waits is settled already. -/
theorem State.settled_of_ownWork {s : State} (h : s.ownWork = none) : s.settled = s := by
  simp [State.settled, State.settleUpTo, h]

/-- With no own work waiting, `atTick` is the passing of the time base alone. -/
theorem State.atTick_of_ownWork {s : State} (h : s.ownWork = none) (n : Nat) :
    s.atTick n = s.passTo n := by
  unfold State.atTick State.passTo
  split
  · rw [State.settled_of_ownWork h]; simp [*]
  · rfl

/-- A tick that is not ahead changes nothing, and one ahead is passed to behind the own work. -/
theorem State.atTick_cases (n : Nat) :
    (n ≤ s.now ∧ s.atTick n = s) ∨ (s.now < n ∧ s.atTick n = s.settled.passTo n) := by
  unfold State.atTick
  split
  · exact .inr ⟨‹_›, rfl⟩
  · exact .inl ⟨by omega, rfl⟩

/-- A property that own work keeps holds of the settled state. -/
theorem State.settled_induct {P : State → Prop} (step : ∀ s t, P s → s.ownWork = some t → P t)
    {s : State} (h : P s) : P s.settled := by
  have : ∀ n s, P s → P (State.settleUpTo n s) := by
    intro n
    induction n with
    | zero => exact fun s h => h
    | succ n ih =>
      intro s h
      unfold State.settleUpTo
      split
      · exact ih _ (step _ _ h ‹_›)
      · exact h
  exact this _ _ h

@[simp] theorem State.stopHolder_shell (i : SlotIx) (r : ShelfRecord) (c : StopCause) :
    (s.stopHolder i r c).shell = s.shell := by
  unfold State.stopHolder
  split
  · split <;> simp
  · rfl

@[simp] theorem State.passPriority_shell (e : EngineIx) (p : Nat) :
    (s.passPriority e p).shell = s.shell := by
  unfold State.passPriority
  extract_lets s1 s2 s3 s4
  have h2 : s2.shell = s.shell := rfl
  have h3 : s3.shell = s.shell := by
    unfold s3
    split
    · exact h2
    · rw [State.feedTest_shell, h2]
  have h4 : s4.shell = s.shell := by rw [State.bankReprioritise_shell, h3]
  split
  · exact h4
  · rw [State.bankTest_shell, h4]

@[simp] theorem State.passToHolder_shell (i : SlotIx) (r : ShelfRecord) (p : Nat) :
    (s.passToHolder i r p).shell = s.shell := by
  unfold State.passToHolder
  split
  · split <;> simp
  · rfl

end Sys2Proof.Machine
end

