-- ==== Sys2Proof/Laws/Engine.lean ====
section
/-! SUPPORT. What an engine does when it enters UNLOAD, reaches a verdict, takes a stop cause or closes. -/

namespace Sys2Proof.Machine

variable (s : State)

/-! ### Asking SET and RELEASE of a grant's banks -/

/-- Asking SET of a list of banks: the requests join the queue in order; engines, messages and feed
stand. -/
theorem State.foldl_askSet (l : List GrantBank) (v : GrantBank → Nat) (ld : Bool) :
    let t := l.foldl (fun t g => t.askSet g.bank (v g) ld) s
    t.engines = s.engines ∧ t.outbox = s.outbox ∧ t.feed = s.feed ∧
      t.arb.service = s.arb.service ∧ t.arb.waits = s.arb.waits ∧
      t.arb.nextJoin = s.arb.nextJoin ∧
      t.arb.asked = s.arb.asked ++ l.map fun g => ⟨g.bank, .set (v g), ld⟩ := by
  induction l generalizing s with
  | nil => simp
  | cons g l ih =>
    simp only [List.foldl_cons]
    obtain ⟨h1, h2, h3, h4, h5, h6, h7⟩ := ih (s.askSet g.bank (v g) ld)
    refine ⟨h1, h2, h3, h4, h5, h6, ?_⟩
    rw [h7]
    simp [State.askSet]

/-- Asking SET 0 of a list of banks writes the commanded level of those banks alone. -/
theorem State.bank_foldl_askSet_zero (l : List GrantBank) (ld : Bool) (b : BankIx) :
    (l.foldl (fun t g => t.askSet g.bank 0 ld) s).bank b =
      if b ∈ l.map (·.bank) then { s.bank b with level := 0 } else s.bank b := by
  induction l generalizing s with
  | nil => simp
  | cons g l ih =>
    rw [List.foldl_cons, ih]
    have h : (s.askSet g.bank 0 ld).bank b =
        if b = g.bank then { s.bank b with level := 0 } else s.bank b := by
      refine (State.bank_modBank s g.bank b fun k => { k with level := 0 }).trans ?_
      split <;> simp_all
    by_cases hb : b = g.bank
    · subst hb; simp [h]
    · simp [h, hb]

/-- Asking RELEASE of a list of banks makes those banks RELEASING. -/
theorem State.foldl_askRelease (l : List GrantBank) :
    let t := l.foldl (fun t g => t.askRelease g.bank) s
    t.engines = s.engines ∧ t.outbox = s.outbox ∧ t.feed = s.feed ∧
      t.arb.service = s.arb.service ∧ t.arb.waits = s.arb.waits ∧
      t.arb.nextJoin = s.arb.nextJoin ∧
      t.arb.asked = s.arb.asked ++ l.map (fun g => ⟨g.bank, .release, false⟩) ∧
      ∀ b, t.bank b =
        if b ∈ l.map (·.bank) then { s.bank b with state := .releasing } else s.bank b := by
  induction l generalizing s with
  | nil => simp
  | cons g l ih =>
    simp only [List.foldl_cons]
    obtain ⟨h1, h2, h3, h4, h5, h6, h7, h8⟩ := ih (s.askRelease g.bank)
    refine ⟨h1, h2, h3, h4, h5, h6, ?_, fun b => ?_⟩
    · rw [h7]; simp [State.askRelease]
    · have h : (s.askRelease g.bank).bank b =
          if b = g.bank then { s.bank b with state := .releasing } else s.bank b := by
        refine (State.bank_modBank s g.bank b fun k => { k with state := .releasing }).trans ?_
        split <;> simp_all
      rw [h8, h]
      by_cases hb : b = g.bank
      · subst hb; simp
      · simp [hb]

/-! ### Reservation -/

theorem Feed.drop_waits (f : Feed) (e : EngineIx) : (f.drop e).waits = f.waits := rfl

/-- A released engine holds no reservation of the set. -/
theorem Feed.drop_reservations (f : Feed) (e : EngineIx) :
    (f.drop e).reservations = f.reservations.filter (·.engine ≠ e) := rfl

/-- With no submission waiting, the supervisor's test changes nothing. -/
theorem State.feedTest_of_waits (h : s.feed.waits = []) : s.feedTest = s := by
  simp [State.feedTest, h, State.feedTestUpTo]

theorem State.feedRetest_of_waits (b : State) (h : s.feed.waits = []) :
    State.feedRetest b s = s := by
  unfold State.feedRetest
  split
  · rfl
  · exact s.feedTest_of_waits h

/-! ### UNLOAD -/

/-- The second stage of UNLOAD for an engine that holds banks: it waits while a SET 0 is outstanding,
and otherwise releases its reservation and asks RELEASE of every bank. -/
theorem State.unloadAdvance_held (e : EngineIx) (hp : (s.engine e).phase = .unload)
    (hr : (s.engine e).releasing = false) (hg : (s.engine e).grant ≠ []) :
    ((s.engine e).zerosDone = false → s.unloadAdvance e = s) ∧
    ((s.engine e).zerosDone = true →
      let t := s.unloadAdvance e
      t.engine e = { s.engine e with reservation := .none, releasing := true } ∧
        (∀ f, f ≠ e → t.engine f = s.engine f) ∧ t.feed = s.feed.drop e ∧
        t.outbox = s.outbox ∧ t.arb.service = s.arb.service ∧ t.arb.waits = s.arb.waits ∧
        t.arb.asked = s.arb.asked ++
          (s.engine e).grant.map (fun g => ⟨g.bank, .release, false⟩) ∧
        ∀ b, t.bank b = if b ∈ (s.engine e).grant.map (·.bank)
          then { s.bank b with state := .releasing } else s.bank b) := by
  constructor
  · intro hz
    simp [State.unloadAdvance, hp, hr, hz]
  · intro hz
    have hu : s.unloadAdvance e =
        ((s.engine e).grant.foldl (fun t g => t.askRelease g.bank)
          (s.feedRelease e)).modEngine e fun en => { en with releasing := true } := by
      simp [State.unloadAdvance, hp, hr, hz, hg]
    obtain ⟨h1, h2, h3, h4, h5, -, h7, h8⟩ :=
      (s.feedRelease e).foldl_askRelease (s.engine e).grant
    have he : ∀ f, ((s.engine e).grant.foldl (fun t g => t.askRelease g.bank)
        (s.feedRelease e)).engine f = (s.feedRelease e).engine f :=
      fun f => congrArg (fun x : Tab Engine 6 => x.get f) h1
    have hf : ∀ f, (s.feedRelease e).engine f =
        if f = e then { s.engine e with reservation := .none } else s.engine f := fun f => by
      unfold State.feedRelease
      rw [State.engine_modEngine]; rfl
    rw [hu]
    refine ⟨?_, fun f hfe => ?_, ?_, ?_, ?_, ?_, ?_, fun b => ?_⟩
    · rw [State.engine_modEngine, he, hf]; simp
    · rw [State.engine_modEngine, if_neg hfe, he, hf, if_neg hfe]
    · exact h3
    · exact h2
    · exact h4
    · exact h5
    · exact h7
    · exact h8 b

/-- An engine with banks that enters UNLOAD does what `Unloads` says; its feed reservation stands or is
released, and no message is sent. -/
theorem State.enterUnload_unloads (e : EngineIx) (hg : (s.engine e).grant ≠ []) :
    let t := s.enterUnload e
    s.Unloads t e ∧ t.outbox = s.outbox ∧ (t.feed = s.feed ∨ t.feed = s.feed.drop e) ∧
      t.arb.service = s.arb.service ∧ t.arb.waits = s.arb.waits ∧
      (∃ g r v, t.engine e = { (s.engine e).quiet with
        phase := .unload, watch := false, grant := g, reservation := r, releasing := v } ∧
        (r = (s.engine e).reservation ∨ r = .none)) ∧
      (∀ b, (t.bank b).fault = (s.bank b).fault ∧ (t.bank b).cap = (s.bank b).cap ∧
        (b ∉ (s.engine e).grant.map (·.bank) → t.bank b = s.bank b)) ∧
      (∀ a ∈ s.arb.asked, a ∈ t.arb.asked) := by
  let loaded : GrantBank → Bool := fun g => decide ((s.bank g.bank).level ≠ 0)
  let s1 := ((s.engine e).grant.filter loaded).foldl (fun t g => t.askSet g.bank 0 false) s
  let grant := (s.engine e).grant.map fun g =>
    { g with rezero := false, zeros := if (s.bank g.bank).level ≠ 0 then g.zeros + 1 else g.zeros }
  let s2 := s1.modEngine e fun en =>
    { en.quiet with
      phase := .unload, watch := false, releasing := false
      grant := en.grant.map fun g =>
        { g with rezero := false, zeros := if (s.bank g.bank).level ≠ 0 then g.zeros + 1 else g.zeros } }
  have hdef : s.enterUnload e = s2.unloadAdvance e := rfl
  obtain ⟨h1, h2, h3, h4, h5, h6, h7⟩ := s.foldl_askSet ((s.engine e).grant.filter loaded)
    (fun _ => 0) false
  have hb := s.bank_foldl_askSet_zero ((s.engine e).grant.filter loaded) false
  have he1 : s1.engine e = s.engine e := congrArg (fun x : Tab Engine 6 => x.get e) h1
  have he2 : s2.engine e = { (s.engine e).quiet with
      phase := .unload, watch := false, releasing := false, grant := grant } := by
    show (s1.modEngine e _).engine e = _
    rw [State.engine_modEngine, if_pos rfl, he1]
  have hf2 : ∀ f, f ≠ e → s2.engine f = s.engine f := fun f hf => by
    show (s1.modEngine e _).engine f = _
    rw [State.engine_modEngine, if_neg hf]
    exact congrArg (fun x : Tab Engine 6 => x.get f) h1
  have hbank2 : ∀ b, s2.bank b = s1.bank b := fun b => rfl
  have hgrant : grant.map (·.bank) = (s.engine e).grant.map (·.bank) := by
    simp [grant, Function.comp_def]
  have hne : (s2.engine e).grant ≠ [] := by rw [he2]; simp [grant, hg]
  have hcopy : ((s.engine e).quiet).copy = (s.engine e).copy := rfl
  have hres : ((s.engine e).quiet).reservation = (s.engine e).reservation := rfl
  obtain ⟨hwait, hgo⟩ := s2.unloadAdvance_held e (by rw [he2]) (by rw [he2]) hne
  have hasked2 : s2.arb.asked = s.arb.asked ++ ((s.engine e).grant.filter loaded).map
      fun g => ⟨g.bank, .set 0, false⟩ := h7
  cases hz : (s2.engine e).zerosDone with
  | false =>
    rw [hdef, hwait hz]
    refine ⟨⟨by rw [he2], by rw [he2], by rw [he2]; rfl, by rw [he2]; exact hgrant, ?_, hf2⟩,
      h2, Or.inl h3, h4, h5, ⟨_, _, _, he2, Or.inl hres⟩, ?_, ?_⟩
    · intro g hgm
      constructor
      · rw [hbank2]
        show (State.bank s1 g.bank).level = 0
        rw [hb]
        split
        · rfl
        · next hn =>
          by_contra hl
          exact hn (List.mem_map.mpr
            ⟨g, List.mem_filter.mpr ⟨hgm, by simpa [loaded] using hl⟩, rfl⟩)
      · intro hlv _
        rw [hasked2]
        refine List.mem_append_right _ (List.mem_map.mpr ⟨g, List.mem_filter.mpr
          ⟨hgm, by simpa [loaded] using hlv⟩, rfl⟩)
    · intro b
      rw [hbank2, hb]
      refine ⟨by split <;> rfl, by split <;> rfl, fun hn => ?_⟩
      rw [if_neg]
      intro hm
      obtain ⟨g, hg1, hg2⟩ := List.mem_map.mp hm
      exact hn (List.mem_map.mpr ⟨g, (List.mem_filter.mp hg1).1, hg2⟩)
    · intro a ha
      rw [hasked2]
      exact List.mem_append_left _ ha
  | true =>
    obtain ⟨g1, g2, g3, g4, g5, g6, g7, g8⟩ := hgo hz
    have hnone : ∀ g ∈ (s.engine e).grant, loaded g = false := by
      intro g hgm
      by_contra hl
      rw [he2] at hz
      simp only [Engine.zerosDone, List.all_eq_true] at hz
      have := hz _ (List.mem_map.mpr ⟨g, hgm, rfl⟩)
      have hlv : (s.bank g.bank).level ≠ 0 := by simpa [loaded] using hl
      simp [hlv] at this
    have hfil : (s.engine e).grant.filter loaded = [] :=
      List.filter_eq_nil_iff.mpr fun g hgm => by simp [hnone g hgm]
    have hs1 : s1 = s := by show List.foldl _ s _ = s; rw [hfil]; rfl
    rw [hdef]
    refine ⟨⟨by rw [g1, he2], by rw [g1, he2], by rw [g1, he2]; rfl,
        by rw [g1, he2]; exact hgrant, ?_, fun f hf => by rw [g2 f hf, hf2 f hf]⟩,
      g4.trans h2, Or.inr (by rw [g3]; exact congrArg (Feed.drop · e) h3), g5.trans h4, g6.trans h5,
      ⟨grant, .none, true, by rw [g1, he2], Or.inr rfl⟩, ?_, ?_⟩
    · intro g hgm
      have hl0 : (s.bank g.bank).level = 0 := by simpa [loaded] using hnone g hgm
      have hb0 : s2.bank g.bank = s.bank g.bank := by rw [hbank2, hs1]
      refine ⟨?_, fun hlv => absurd hl0 hlv⟩
      rw [g8, hb0]
      split <;> exact hl0
    · intro b
      have hb0 : s2.bank b = s.bank b := by rw [hbank2, hs1]
      rw [g8, hb0]
      refine ⟨by split <;> rfl, by split <;> rfl, fun hn => ?_⟩
      rw [if_neg]
      rw [he2]
      rwa [hgrant]
    · intro a ha
      rw [g7, hasked2]
      exact List.mem_append_left _ (List.mem_append_left _ ha)

/-- A change of the engine that keeps its copy and its banks, and whether its grant is just complete, before
it enters UNLOAD, does not change what `Unloads` says. -/
theorem State.Unloads.of_modEngine {s t : State} {e : EngineIx} {f : Engine → Engine}
    (h : (s.modEngine e f).Unloads t e) (hc : (f (s.engine e)).copy = (s.engine e).copy)
    (hg : (f (s.engine e)).grant = (s.engine e).grant)
    (hj : ∀ n, (f (s.engine e)).justGranted n = (s.engine e).justGranted n) : s.Unloads t e := by
  have he : (s.modEngine e f).engine e = f (s.engine e) := by
    rw [State.engine_modEngine, if_pos rfl]
  obtain ⟨h1, h2, h3, h4, h5, h6⟩ := h
  rw [he] at h3 h4 h5
  rw [hc] at h3
  rw [hg] at h4 h5
  rw [hj] at h5
  refine ⟨h1, h2, h3, h4, h5, fun g hne => ?_⟩
  rw [h6 g hne, State.engine_modEngine, if_neg hne]

/-- A verdict at an engine with banks: it is stored, and the engine unloads. -/
theorem State.reachVerdict_unloads (e : EngineIx) (v : Verdict) (hg : (s.engine e).grant ≠ []) :
    let t := s.reachVerdict e v
    s.Unloads t e ∧ (t.engine e).verdict = some v ∧ t.outbox = s.outbox ∧
      t.feed.waits = s.feed.waits ∧ t.arb.service = s.arb.service ∧
      t.arb.waits = s.arb.waits ∧ (t.engine e).detection ≠ .armed ∧
      (t.engine e).holdFrom = none ∧ (t.engine e).tripFrom = none ∧
      (t.engine e).restartFrom = none := by
  have he : (s.modEngine e fun en => { en with verdict := some v }).engine e =
      { s.engine e with verdict := some v } := by rw [State.engine_modEngine, if_pos rfl]
  obtain ⟨h1, h2, h3, h4, h5, ⟨g, r, b, h6, -⟩, -, -⟩ :=
    (s.modEngine e fun en => { en with verdict := some v }).enterUnload_unloads e (by rw [he]; exact hg)
  refine ⟨h1.of_modEngine rfl rfl fun _ => rfl, ?_, h2, ?_, h4, h5, ?_, ?_, ?_, ?_⟩
  · exact (congrArg Engine.verdict h6).trans (by rw [he]; rfl)
  · rcases h3 with h3 | h3
    · exact congrArg Feed.waits h3
    · exact (congrArg Feed.waits h3).trans (Feed.drop_waits _ _)
  · intro hd
    have := (congrArg Engine.detection h6).symm.trans hd
    rw [he] at this
    simp only [Engine.quiet] at this
    split at this <;> simp_all
  · exact (congrArg Engine.holdFrom h6).trans rfl
  · exact (congrArg Engine.tripFrom h6).trans rfl
  · exact (congrArg Engine.restartFrom h6).trans rfl

/-- The SETs of a list of banks are taken back: those banks are at level 0 with nothing queued, and engines,
messages and feed stand. -/
theorem State.foldl_recall (l : List GrantBank) :
    let t := l.foldl
      (fun t g => (t.modBank g.bank fun k => { k with level := 0 }).dropAsked g.bank) s
    t.engines = s.engines ∧ t.outbox = s.outbox ∧ t.feed = s.feed ∧
      t.arb.service = s.arb.service ∧ t.arb.waits = s.arb.waits ∧
      t.arb.asked = s.arb.asked.filter (fun a => a.bank ∉ l.map (·.bank)) ∧
      ∀ b, t.bank b = if b ∈ l.map (·.bank) then { s.bank b with level := 0 } else s.bank b := by
  induction l generalizing s with
  | nil => simp
  | cons g l ih =>
    simp only [List.foldl_cons]
    obtain ⟨h1, h2, h3, h4, h5, h6, h7⟩ :=
      ih ((s.modBank g.bank fun k => { k with level := 0 }).dropAsked g.bank)
    refine ⟨h1, h2, h3, h4, h5, ?_, fun b => ?_⟩
    · rw [h6]
      simp only [State.dropAsked, List.filter_filter, List.map_cons, List.mem_cons, not_or]
      exact List.filter_congr fun a _ => by simp [Bool.and_comm]
    · have h : ((s.modBank g.bank fun k => { k with level := 0 }).dropAsked g.bank).bank b =
          if b = g.bank then { s.bank b with level := 0 } else s.bank b := by
        refine (State.bank_modBank s g.bank b fun k => { k with level := 0 }).trans ?_
        split <;> simp_all
      rw [h7, h]
      by_cases hb : b = g.bank
      · subst hb; simp
      · simp [hb]

/-- R119: an engine whose grant is just complete has its SETs taken back: it holds the same banks, each at
level 0, with no reply outstanding and no request queued. -/
theorem State.recallSets_spec (e : EngineIx) :
    let t := s.recallSets e
    t.engine e = { s.engine e with
        grant := (s.engine e).grant.map fun g => { g with load := false, zeros := 0 } } ∧
      (∀ f, f ≠ e → t.engine f = s.engine f) ∧ t.outbox = s.outbox ∧ t.feed = s.feed ∧
      t.arb.service = s.arb.service ∧ t.arb.waits = s.arb.waits ∧
      t.arb.asked = s.arb.asked.filter (fun a => a.bank ∉ (s.engine e).grant.map (·.bank)) ∧
      ∀ b, t.bank b = if b ∈ (s.engine e).grant.map (·.bank)
        then { s.bank b with level := 0 } else s.bank b := by
  obtain ⟨h1, h2, h3, h4, h5, h6, h7⟩ := s.foldl_recall (s.engine e).grant
  have he : ∀ f, State.engine ((s.engine e).grant.foldl
      (fun t g => (t.modBank g.bank fun k => { k with level := 0 }).dropAsked g.bank) s) f =
        s.engine f := fun f => congrArg (fun x : Tab Engine 6 => x.get f) h1
  refine ⟨?_, fun f hf => ?_, h2, h3, h4, h5, h6, h7⟩
  · unfold State.recallSets
    rw [State.engine_modEngine, if_pos rfl, he]
  · unfold State.recallSets
    rw [State.engine_modEngine, if_neg hf, he]

/-- A stop cause at an engine on a load step with banks: it is taken, and the engine unloads. -/
theorem State.takeStop_unloads (e : EngineIx) (c : WorkingCopy) (x : StopCause)
    (h : s.OnLoad e c) :
    let t := s.takeStop e x
    s.Unloads t e ∧ (t.engine e).stop = some x ∧ (t.engine e).verdict = none ∧
      t.outbox = s.outbox ∧ t.feed.waits = s.feed.waits ∧ t.arb.service = s.arb.service ∧
      t.arb.waits = s.arb.waits ∧ (t.feed = s.feed ∨ t.feed = s.feed.drop e) := by
  obtain ⟨-, hp, hv, hs, hg⟩ := h
  let s1 := s.modEngine e fun en => { en.quiet with stop := some x }
  have he : s1.engine e = { (s.engine e).quiet with stop := some x } := by
    show (s.modEngine e _).engine e = _
    rw [State.engine_modEngine, if_pos rfl]
  have hf1 : ∀ f, f ≠ e → s1.engine f = s.engine f := fun f hf => by
    show (s.modEngine e _).engine f = _
    rw [State.engine_modEngine, if_neg hf]
  have hdef : s.takeStop e x =
      (if (s.engine e).justGranted s.now then s1.recallSets e else s1).enterUnload e := by
    unfold State.takeStop
    rcases hp with hp | hp
    · simp only [hp, hv, hs]; rfl
    · have : (s.engine e).justGranted s.now = false := by simp [Engine.justGranted, hp]
      simp only [hp, hv, hs, this]; rfl
  rw [hdef]
  cases hj : (s.engine e).justGranted s.now with
  | false =>
    obtain ⟨h1, h2, h3, h4, h5, ⟨g, r, b, h6, -⟩, -, -⟩ :=
      s1.enterUnload_unloads e (by rw [he]; exact hg)
    refine ⟨h1.of_modEngine rfl rfl fun _ => rfl, ?_, ?_, h2, ?_, h4, h5, h3⟩
    · exact (congrArg Engine.stop h6).trans (by rw [he]; rfl)
    · exact (congrArg Engine.verdict h6).trans (by rw [he]; exact hv)
    · rcases h3 with h3 | h3
      · exact congrArg Feed.waits h3
      · exact (congrArg Feed.waits h3).trans (Feed.drop_waits _ _)
  | true =>
    obtain ⟨r1, r2, r3, r4, r5, r6, -, -⟩ := s1.recallSets_spec e
    have hnow2 : (s1.recallSets e).now = s.now := State.shell_now (by simp [s1])
    have r7 : ∀ f, f ≠ e → (s1.recallSets e).engine f = s.engine f :=
      fun f hf => (r2 f hf).trans (hf1 f hf)
    rw [he] at r1
    have hr3 : (s1.recallSets e).outbox = s.outbox := r3
    have hr4 : (s1.recallSets e).feed = s.feed := r4
    have hr5 : (s1.recallSets e).arb.service = s.arb.service := r5
    have hr6 : (s1.recallSets e).arb.waits = s.arb.waits := r6
    rw [if_pos rfl]
    generalize s1.recallSets e = s2 at r1 hnow2 r7 hr3 hr4 hr5 hr6 ⊢
    have hbanks : (s2.engine e).grant.map (·.bank) = (s.engine e).grant.map (·.bank) := by
      rw [r1]
      exact (List.map_map ..).trans rfl
    have hne : (s2.engine e).grant ≠ [] := fun hn => hg (by
      rw [hn] at hbanks
      exact List.map_eq_nil_iff.mp hbanks.symm)
    have hnow : (s2.enterUnload e).now = s.now := (State.shell_now (by simp)).trans hnow2
    obtain ⟨⟨u1, u2, u3, u4, u5, u6⟩, h2, h3, h4, h5, ⟨g, r, b, h6, -⟩, -, -⟩ :=
      s2.enterUnload_unloads e hne
    generalize s2.enterUnload e = t at u1 u2 u3 u4 u5 u6 h2 h3 h4 h5 h6 hnow ⊢
    refine ⟨⟨u1, u2, u3.trans (by rw [r1]; rfl), u4.trans hbanks, fun k hk => ⟨?_, ?_⟩,
        fun f hf => (u6 f hf).trans (r7 f hf)⟩, ?_, ?_, h2.trans hr3, ?_,
      h4.trans hr5, h5.trans hr6, ?_⟩
    · have hm : k.bank ∈ (s2.engine e).grant.map (·.bank) := by
        rw [hbanks]
        exact List.mem_map_of_mem hk
      obtain ⟨k', hk', hkb⟩ := List.mem_map.mp hm
      have := (u5 k' hk').1
      rwa [hkb] at this
    · intro _ hn
      rw [hnow, hj] at hn
      exact absurd hn (by decide)
    · exact (congrArg Engine.stop h6).trans (by rw [r1]; rfl)
    · exact (congrArg Engine.verdict h6).trans (by rw [r1]; exact hv)
    · rcases h3 with h3 | h3
      · exact (congrArg Feed.waits h3).trans (congrArg Feed.waits hr4)
      · exact ((congrArg Feed.waits h3).trans (Feed.drop_waits _ _)).trans (congrArg Feed.waits hr4)
    · exact h3.imp (·.trans hr4) (·.trans (congrArg (Feed.drop · e) hr4))

/-- With no submission waiting, a stop cause at an engine on a load step leaves the supervisor's list
untested. -/
theorem State.stopEngine_onLoad (e : EngineIx) (c : WorkingCopy) (x : StopCause)
    (h : s.OnLoad e c) (hw : s.feed.waits = []) : s.stopEngine e x = s.takeStop e x := by
  unfold State.stopEngine
  exact State.feedRetest_of_waits _ _ ((s.takeStop_unloads e c x h).2.2.2.2.1.trans hw)

/-! ### Detection and the passage -/

/-- An engine that has recorded a detection. -/
theorem State.detect_armed (e : EngineIx) (c : WorkingCopy) (cause : DetectCause) (tick : Nat)
    (hd : (s.engine e).detection = .armed) (hc : (s.engine e).copy = some c) :
    let s1 := s.modEngine e fun en => { en with detection := .made cause tick }
    (∀ p, c.params = .hold p →
      s.detect e cause tick = s1.reachVerdict e ⟨.holdTripped, none, some cause⟩) ∧
    (∀ p, c.params = .derate p →
      s.detect e cause tick = s1.reachVerdict e ⟨.derateTripped, none, some cause⟩) ∧
    (∀ p r z, c.params = .trip p r → (s.engine e).tripFrom = some z →
      s.detect e cause tick =
        if p.tMax < tick - z then s
        else if tick - z < p.tMin then s1.reachVerdict e ⟨.tripEarly, some (tick - z), some cause⟩
        else s1.passage e c r (tick - z) cause) := by
  refine ⟨fun p hp => ?_, fun p hp => ?_, fun p r z hp hz => ?_⟩
  · simp [State.detect, hd, hc, hp]
  · simp [State.detect, hd, hc, hp]
  · simp [State.detect, hd, hc, hp, hz]

/-- The passage at an engine that holds banks: the passage write is sent, SET 0 is asked of every bank
whose load SET has been answered, and the engine goes on with the RESTART step in WATCH. -/
theorem State.passage_held (e : EngineIx) (c : WorkingCopy) (r : RestartParams) (t : Nat)
    (cause : DetectCause) (hg : (s.engine e).grant ≠ []) :
    let u := s.passage e c r t cause
    u.engine e = { (s.engine e).quiet with
        phase := .watch
        copy := some { c with index := c.index + 1, kind := .restart }
        verdict := none
        takeTick := s.now
        grant := (s.engine e).grant.map fun g =>
          if g.load then { g with rezero := true } else { g with zeros := g.zeros + 1 }
        goodLevel := r.goodLevel
        lowSeen := cause = .collapse
        restartFrom := if r.mode = .hiccup then some s.now else none
        latchFrom := if r.mode = .latch then some s.now else none } ∧
      (∀ f, f ≠ e → u.engine f = s.engine f) ∧ u.feed = s.feed ∧
      u.outbox = s.outbox.put e
        (s.outbox.get e ++ [.passage c.handle c.index t cause c.attempt]) ∧
      u.arb.asked = s.arb.asked ++
        ((s.engine e).grant.filter fun g => !g.load).map fun g => ⟨g.bank, .set 0, false⟩ := by
  let s1 := s.send e (.passage c.handle c.index t cause c.attempt)
  let s2 := ((s.engine e).grant.filter fun g => !g.load).foldl
    (fun t g => t.askSet g.bank 0 false) s1
  let s3 := s2.modEngine e fun en =>
    { en.quiet with
      phase := .watch
      copy := some { c with index := c.index + 1, kind := .restart }
      verdict := none
      takeTick := s.now
      grant := en.grant.map fun g =>
        if g.load then { g with rezero := true } else { g with zeros := g.zeros + 1 }
      goodLevel := r.goodLevel
      lowSeen := cause = .collapse
      restartFrom := if r.mode = .hiccup then some s.now else none
      latchFrom := if r.mode = .latch then some s.now else none }
  have hdef : s.passage e c r t cause = s3.passageAdvance e := rfl
  obtain ⟨h1, h2, h3, -, -, -, h7⟩ :=
    s1.foldl_askSet ((s.engine e).grant.filter fun g => !g.load) (fun _ => 0) false
  have he2 : ∀ f, s2.engine f = s.engine f :=
    fun f => congrArg (fun x : Tab Engine 6 => x.get f) h1
  have he3 := s2.engine_modEngine e e fun en =>
    { en.quiet with
      phase := .watch
      copy := some { c with index := c.index + 1, kind := .restart }
      verdict := none
      takeTick := s.now
      grant := en.grant.map fun g =>
        if g.load then { g with rezero := true } else { g with zeros := g.zeros + 1 }
      goodLevel := r.goodLevel
      lowSeen := cause = .collapse
      restartFrom := if r.mode = .hiccup then some s.now else none
      latchFrom := if r.mode = .latch then some s.now else none }
  rw [if_pos rfl, he2] at he3
  have hz : (s3.engine e).zerosDone = false := by
    obtain ⟨g, gs, hgs⟩ := List.exists_cons_of_ne_nil hg
    have hgr := congrArg Engine.grant he3
    have hgr' : (s3.engine e).grant = (s.engine e).grant.map fun g =>
        if g.load then { g with rezero := true } else { g with zeros := g.zeros + 1 } := hgr
    unfold Engine.zerosDone
    rw [hgr', hgs]
    cases hl : g.load <;> simp [hl]
  have hpa : s3.passageAdvance e = s3 := by simp [State.passageAdvance, hz]
  rw [hdef, hpa]
  refine ⟨he3, fun f hf => ?_, h3, h2, h7⟩
  show (s2.modEngine e _).engine f = _
  rw [State.engine_modEngine, if_neg hf, he2]

/-! ### The block's own work (log 37) and the writes of engine messages -/

/-- R111: the engine that asks for banks is in ACQUIRE, has made no request and holds a working copy. -/
theorem State.bankAsker_spec {s : State} {e : EngineIx} (h : s.bankAsker = some e) :
    (s.engine e).phase = .acquire ∧ (s.engine e).bankReq = .notMade ∧
      (s.engine e).copy.isSome = true := by
  have := List.find?_some h
  simpa [State.asksBanks, and_assoc] using this

/-- R110: the engine that submits is in RESERVE with a working copy and has submitted nothing. -/
theorem State.submitter_spec {s : State} {e : EngineIx} {c : WorkingCopy} {n : Nat}
    (h : (s.engine e).submission = some (c, n)) :
    (s.engine e).phase = .reserve ∧ (s.engine e).reservation = .none ∧
      (s.engine e).copy = some c ∧ ∃ p, c.params.loadTerms = some p ∧
        n = reservationOf (stepPower (s.engine e).stepLevel p.1) p.2 := by
  unfold Engine.submission at h
  split at h
  · obtain ⟨p, hp, h⟩ := Option.map_eq_some_iff.mp h
    obtain ⟨rfl, rfl⟩ := Prod.mk.inj h
    exact ⟨‹_›, ‹_›, ‹_›, p, hp, rfl⟩
  · cases h

/-- Everything an empty queue can do: time passes, the block does its own work, or the internal step that
is due is taken. -/
theorem idle_cases {s t : State} (h : idle s = .next t) :
    t = s.tick ∨ (s.held = false ∧ s.ownWork = some t) ∨
      (s.held = false ∧ s.ownWork = none ∧ ∃ c, s.due = some c ∧ exec c s = .next t) := by
  unfold idle at h
  split at h
  · cases h; exact .inl rfl
  next hh =>
    have hh : s.held = false := by simpa using hh
    split at h
    · cases h; exact .inr (.inl ⟨hh, ‹_›⟩)
    · split at h
      · exact .inr (.inr ⟨hh, ‹_›, _, ‹_›, h⟩)
      · cases h; exact .inl rfl

/-- R25, R26: the record that an engine's message may write. -/
theorem State.engagedRecord_spec {s : State} {e : EngineIx} {h : Handle} {r : ShelfRecord}
    (hr : s.engagedRecord e h = some r) :
    s.record h.index = some r ∧ h = s.handleOf h.index ∧ r.engaged = some e ∧
      r.state ≠ .doubtful := by
  unfold State.engagedRecord at hr
  split at hr
  · split at hr
    · cases hr; exact ⟨‹_›, ‹_›⟩
    · cases hr
  · cases hr

end Sys2Proof.Machine
end

