-- ==== Sys2Proof/Tests/Slice0.lean ====
section
/-! SUPPORT. The model's own tests: well-formedness, the spec's worked numbers, one step of every command on a small station, and for every statement with hypotheses a state that meets them. -/

namespace Sys2Proof.Tests

set_option maxRecDepth 100000
set_option Elab.async false
set_option synthInstance.maxSize 4000

open Sys2Proof Sys2Proof.Machine

/-! ### Well-formedness: an ill-formed term for each check -/

theorem test_ignored_write_is_ill_formed :
    (Instr.transactionIgnored 0x01#8 []).wellFormed = false := by decide
theorem test_ignored_read_is_ill_formed :
    (Instr.transactionIgnored 0x02#8 []).wellFormed = false := by decide
theorem test_bay_frame_of_feed_kind_is_ill_formed :
    (Instr.bayFrame [0x02#8]).wellFormed = false := by decide
theorem test_feed_frame_of_bay_kind_is_ill_formed :
    (Instr.feedFrame [0x01#8]).wellFormed = false := by decide
theorem test_replies_of_another_kind_are_ill_formed :
    ([Instr.identReply [0#8, 0x82#8], .readyReply [0#8, 0x83#8], .levelReply [0#8, 0x84#8],
      .releasedReply [0#8, 0x85#8], .waitReply [0#8, 0x86#8], .faultReply [0#8, 0x81#8]].map
        Instr.wellFormed) = [false, false, false, false, false, false] := by decide
theorem test_no_word_spells_a_command : decodeTableWord 8 0 = none := rfl

/-! ### Encodings and arithmetic of the spec's worked examples -/

/-- R206: the CRC-8 and CRC-16 check values of the byte string "123456789" for these polynomials and
initial values. -/
theorem test_check_codes :
    crc8 [0x31#8, 0x32#8, 0x33#8, 0x34#8, 0x35#8, 0x36#8, 0x37#8, 0x38#8, 0x39#8] = 0xF4#8 ∧
    crc16 [0x31#8, 0x32#8, 0x33#8, 0x34#8, 0x35#8, 0x36#8, 0x37#8, 0x38#8, 0x39#8] = 0x29B1#16 := by
  decide +kernel

/-- R198: the worked handles 0x1402 and 0x8C01. -/
theorem test_handle_bytes :
    (Handle.mk .shelf 5 2).bytes = [0x14#8, 0x02#8] ∧
    (Handle.mk .model 3 1).bytes = [0x8C#8, 0x01#8] ∧
    Handle.ofNat 0x1402 = ⟨.shelf, 5, 2⟩ ∧ Handle.ofNat 0x8C01 = ⟨.model, 3, 1⟩ ∧
    Handle.ofNat 0 = Handle.null := by decide

/-- Section 9.8: the shares of needs 3500, 1600 and 3000. -/
theorem test_shares :
    State.sharesOf 3500 [1600, 1500, 1000] = [1366, 1281, 853] ∧
    State.sharesOf 1600 [1000, 800] = [889, 711] ∧
    State.sharesOf 3000 [1600, 1500] = [1549, 1451] := by decide

/-- Section 8.6: the knots of the worked example. -/
def curve0 : List Knot := [⟨250, 33000⟩, ⟨400, 33000⟩, ⟨540, 24000⟩, ⟨700, 12000⟩]

/-- Section 8.6: P_T, P_TV, P_exp, I_set, P_step and R of the worked evaluation, and the tolerance. -/
theorem test_derate_numbers :
    curvePower curve0 473 = 28308 ∧ linePower 28308 1920 2000 = 27175 ∧
    expectedPower 27175 5 6 33000 = 22645 ∧ loadSetting 22645 100 5400 = 4612 ∧
    stepPower 4612 5400 = 24904 ∧ reservationOf 24904 960 = 2595 ∧ max 300 (22645 * 20 / 1000) = 452 := by
  decide

/-! ### A small station -/

def serial0 : List Byte := List.replicate 12 0x41#8
def name0 : List Byte := List.replicate 8 0x4D#8

def params0 : ModelParams :=
  { mRated := some 6, vNom := some 5400, iMod := some 500, vCollapse := some 4000,
    vGood := some 900, tMin := some 300, tMax := some 600, restartMode := some .hiccup,
    restartWindow := some 2000, latchObserve := some 1000, pCap := some 33000,
    vKnee := some 2000, vMin := some 1800, tolAbs := some 300, tolPpt := some 20,
    effPpt := some 960, overPpt := some 100, settleMs := some 3000, window := some 64,
    drift := some 30 }

def model0 (st : ModelState) (count : Nat) : Model :=
  ({ name := name0, revision := 1, state := st, refCount := count, params := params0,
     curve := curve0, plan := [.hold 800 2000, .trip 1500, .restart, .derate],
     code := 0x00#8 } : Model).seal

/-- The handle of slot 3, generation 5: 0x0C05. -/
def h3 : Handle := ⟨.shelf, 3, 5⟩
/-- The handle of model slot 2, generation 3: 0x8803. -/
def k2 : Handle := ⟨.model, 2, 3⟩

def modules0 : List ModuleEntry :=
  [1, 2, 3, 4, 5].map fun n => ⟨n, List.replicate 10 0x42#8, true, none⟩

def record0 (st : RecState) (cursor : Nat) : ShelfRecord :=
  ({ serial := serial0, model := k2, bay := if st = .staged then none else some 4, state := st,
     hold := if st = .held then some .host else none, priority := 1, guardLevel := 1, note := 0,
     modules := modules0, cursor := cursor, results := [], retry := 0,
     engaged := if st = .running then some 0 else none, code := 0x00#8 } : ShelfRecord).seal

/-- A station at tick 1000 with one record in slot 3, naming the ACTIVE model in slot 2. -/
def station (st : RecState) (cursor : Nat) : State :=
  let s := (State.reset.setSlot 3 ⟨5, some (record0 st cursor)⟩).setModelSlot 2
    ⟨3, some (model0 .active 1)⟩
  { s with
    now := 1000
    store := { s.store with queue := if st = .queued then [3] else [], scrubFrom := 950 }
    models := { s.models with scrubFrom := 950 }
    bays := if st = .staged then s.bays else s.bays.put 4
      { s.bay 4 with binding := some h3, raw := true, seated := true }
    feed := { s.feed with budget := 6000, guard := 500, window := .normal }
    arb := { s.arb with asked := [], sweepFrom := 900 } }

/-- A request pending on a link. -/
def req (code : ReqCode) (tier : Nat) (body : List Byte) : Request := ⟨code, tier, 0x07#8, body, none⟩

def asks (s : State) (l : Link) (code : ReqCode) (tier : Nat) (body : List Byte) : State :=
  s.setLink l { s.link l with request := some (req code tier body) }

/-- The state after a command. -/
def run (c : Instr) (s : State) : State :=
  match exec c s with
  | .next t => t
  | .fault _ => s
  | .refused _ => s

/-- The state after a step. -/
def stepped (s : State) : State :=
  match step s with
  | .next t => t
  | .fault _ => s
  | .refused _ => s

def outcome (s : State) (l : Link) : Option Code := (s.link l).unread.map (·.outcome)

/-! ### Record requests -/

def admitBody : List Byte :=
  List.replicate 12 0x43#8 ++ k2.bytes ++ [0x02#8, 0x00#8, 0x01#8] ++
    ([0x01#8] ++ List.replicate 10 0x42#8 ++ [0x01#8, 0x00#8])

/-- R51, R22: ADMIT at tier 1 fills slot 0, the lowest FREE, with guard level 1. -/
theorem test_admit :
    let t := run (.admitShelf .executive) (asks (station .staged 0) .executive .admitShelf 1 admitBody)
    (t.record 0).map (fun r => (r.state, r.guardLevel)) = some (.staged, 1) ∧
    (t.model 2).map (·.refCount) = some 2 := by decide +kernel
/-- R50 check 6: the serial of an in-use record is refused with DUPLICATE. -/
theorem test_admit_duplicate :
    outcome (run (.admitShelf .executive) (asks (station .staged 0) .executive .admitShelf 0
      (serial0 ++ admitBody.drop 12))) .executive = some .duplicate := by decide +kernel
/-- R52: LOOKUP of a record that is not RUNNING is answered at once. -/
theorem test_lookup :
    outcome (run (.lookup .executive) (asks (station .ready 0) .executive .lookup 0 h3.bytes))
      .executive = some .ok := by decide +kernel
/-- R18, R56: PROBE of a stale handle is answered OK with valid flag 0 and code STALE, 0x05. -/
theorem test_probe_stale :
    ((run (.probe .executive) (asks (station .ready 0) .executive .probe 0
      ([0x0C#8, 0x04#8, 0x00#8]))).execLink.unread.map (·.body)) = some [0x00#8, 0x05#8] := by
  decide +kernel
def findBody : List Byte := serial0 ++ [0x0F#8, 0xFF#8, 0x00#8, 0x04#8, 0x03#8]
/-- R57: a scan from slot 3 for a READY record with every character compared. -/
theorem test_find :
    ((run (.find .executive) (asks (station .ready 0) .executive .find 0 findBody)).execLink.unread.map
      (·.body)) = some [0x01#8, 0x0C#8, 0x05#8, 0x02#8] := by decide +kernel
def amend (item : Byte) (v : List Byte) : List Byte := h3.bytes ++ item :: v
/-- R59: priority 7 is the last allowed. -/
theorem test_amend_priority :
    ((run (.amendPriority .executive) (asks (station .queued 0) .executive .amend 0
      (amend 0x00#8 [0x07#8]))).record 3).map (·.priority) = some 7 ∧
    outcome (run (.amendPriority .executive) (asks (station .queued 0) .executive .amend 0
      (amend 0x00#8 [0x08#8]))) .executive = some .badField := by decide +kernel
/-- R22: a guard level below the requester's tier is raised to it. -/
theorem test_amend_guard_level :
    ((run (.amendGuardLevel .executive) (asks (station .ready 0) .executive .amend 1
      (amend 0x01#8 [0x00#8]))).record 3).map (·.guardLevel) = some 1 := by decide +kernel
theorem test_amend_note :
    ((run (.amendNote .executive) (asks (station .running 0) .executive .amend 0
      (amend 0x02#8 [0xFF#8, 0xFF#8]))).record 3).map (·.note) = some 65535 := by decide +kernel
/-- R61: the same model again; the cursor returns to 0 and PASSED to READY. -/
theorem test_amend_model_handle :
    ((run (.amendModelHandle .executive) (asks (station .passed 4) .executive .amend 0
      (amend 0x03#8 k2.bytes))).record 3).map (fun r => (r.cursor, r.state)) = some (0, .ready) := by
  decide +kernel
def module6 : List Byte := [0x06#8] ++ List.replicate 10 0x42#8 ++ [0x01#8, 0x00#8]
theorem test_add_module :
    ((run (.addModule .executive) (asks (station .ready 0) .executive .amend 0
      (amend 0x04#8 module6))).record 3).map (fun r => r.modules.map (·.slot)) =
      some [1, 2, 3, 4, 5, 6] := by decide +kernel
/-- R63, R64: the state group answers ENGAGED for a RUNNING record. -/
theorem test_add_module_running :
    outcome (run (.addModule .executive) (asks (station .running 0) .executive .amend 0
      (amend 0x04#8 module6))) .executive = some .engaged := by decide +kernel
theorem test_drop_module :
    ((run (.dropModule .executive) (asks (station .ready 0) .executive .amend 0
      (amend 0x05#8 [0x05#8]))).record 3).map (fun r => r.modules.map (·.slot)) =
      some [1, 2, 3, 4] := by decide +kernel
theorem test_amend_present_flag :
    ((run (.amendPresentFlag .executive) (asks (station .ready 0) .executive .amend 0
      (amend 0x06#8 [0x05#8, 0x00#8]))).record 3).map (·.mPresent) = some 4 := by decide +kernel
/-- R80: a bay whose debounced seat is down gives BOUND. -/
theorem test_bind :
    let t := run (.bindBay .executive) (asks (station .staged 0) .executive .bind 0 (h3.bytes ++ [0x17#8]))
    (t.record 3).map (fun r => (r.state, r.bay)) = some (.bound, some 23) ∧
    (t.bay 23).binding = some h3 := by decide +kernel
/-- R81. -/
theorem test_unbind :
    let t := run (.unbindBay .executive) (asks (station .ready 0) .executive .bind 0 [0x00#8, 0x00#8, 0x04#8])
    (t.record 3).map (fun r => (r.state, r.bay)) = some (.staged, none) ∧
    (t.bay 4).binding = none := by decide +kernel
theorem test_start :
    let t := run (.start .executive) (asks (station .ready 0) .executive .start 0 h3.bytes)
    (t.record 3).map (·.state) = some .queued ∧ t.store.queue = [3] ∧ t.enableOutput 4 = true := by
  decide +kernel
/-- R9, R66: a cursor on the RESTART step of index 2 moves back to 1. -/
theorem test_resume_moves_back :
    ((run (.resume .executive) (asks (station .held 2) .executive .resume 0 h3.bytes)).record 3).map
      (fun r => (r.state, r.cursor)) = some (.queued, 1) := by decide +kernel
theorem test_abort_queued :
    let t := run (.abort .executive) (asks (station .queued 0) .executive .abort 0 h3.bytes)
    (t.record 3).map (fun r => (r.state, r.hold)) = some (.held, some .host) ∧
    t.store.queue = [] ∧ t.attentionActive = true := by decide +kernel
/-- R14, R69: generation 5 becomes 6, and the model loses its reference. -/
theorem test_release :
    let t := run (.release .executive) (asks (station .held 0) .executive .release 0 h3.bytes)
    t.slot 3 = ⟨6, none⟩ ∧ (t.model 2).map (·.refCount) = some 0 ∧ (t.bay 4).binding = none := by
  decide +kernel
/-- R14: a generation of 1023 goes to 1. -/
theorem test_generation_wraps : State.nextGen 1023 = 1 := rfl
def listed (s : State) : State :=
  { s with store := { s.store with attention := [⟨h3, ⟨true, false, false, true, false⟩⟩] } }
/-- R71, R201: the reason byte of VERDICT and HELD is 0x09. -/
theorem test_take :
    let t := run (.take .executive) (asks (listed (station .held 0)) .executive .take 0 [])
    t.store.attention = [] ∧
    t.execLink.unread.map (·.body) = some [0x01#8, 0x0C#8, 0x05#8, 0x05#8, 0x09#8, 0x00#8] := by
  decide +kernel

/-! ### Model requests -/

def draft (s : State) (count : Nat) : State := s.setModelSlot 2 ⟨3, some (model0 .draft count)⟩
def active (s : State) (count : Nat) : State := s.setModelSlot 2 ⟨3, some (model0 .active count)⟩
def empty : State := State.reset

theorem test_create_model :
    let t := run (.createModel .executive) (asks (active empty 0) .executive .createModel 0
      (List.replicate 8 0x30#8 ++ [0x00#8, 0xFF#8]))
    (t.model 0).map (fun x => (x.state, x.revision)) = some (.draft, 255) := by decide +kernel
/-- R38: the item code 11 is P_cap, four bytes; 120000 is the largest value. -/
theorem test_edit_model :
    ((run (.editModel .executive) (asks (draft empty 0) .executive .editModel 0
      (k2.bytes ++ [0x0B#8, 0x00#8, 0x01#8, 0xD4#8, 0xC0#8]))).model 2).map (·.params.pCap) =
      some (some 120000) := by decide +kernel
theorem test_activate :
    ((run (.activate .executive) (asks (draft empty 0) .executive .activate 0 k2.bytes)).model 2).map
      (·.state) = some .active := by decide +kernel
/-- R39 item 25: the index of the TRIP step that no RESTART step follows. -/
theorem test_edit_model_short_plan :
    outcome (run (.editModel .executive) (asks (draft empty 0) .executive .editModel 0
      (k2.bytes ++ [0x16#8, 0x08#8, 0x09#8]))) .executive = some .badField ∧
    ((run (.editModel .executive) (asks (draft empty 0) .executive .editModel 0
      (k2.bytes ++ [0x16#8, 0x08#8, 0x09#8]))).execLink.unread.map (·.body)) = some [] := by
  decide +kernel
theorem test_activate_unpaired :
    ({ model0 .draft 0 with plan := [.derate, .trip 1000] } : Model).firstFault = some (25, some 1) := by
  decide +kernel
theorem test_revise :
    ((run (.revise .executive) (asks (active empty 0) .executive .revise 0 k2.bytes)).model 2).map
      (fun x => (x.state, x.revision)) = some (.draft, 2) := by decide +kernel
/-- R40: a model in use is refused with MODEL_IN_USE. -/
theorem test_revise_in_use :
    outcome (run (.revise .executive) (asks (active empty 1) .executive .revise 0 k2.bytes))
      .executive = some .modelInUse := by decide +kernel
theorem test_discard :
    (run (.discard .executive) (asks (active empty 0) .executive .discard 0 k2.bytes)).modelSlot 2 =
      ⟨4, none⟩ := by decide +kernel

/-! ### Station requests -/

/-- R173: a guard above the budget is clamped to it. -/
theorem test_set_budget :
    let t := run (.setBudget .executive) (asks empty .executive .setBudget 0 [0x03#8, 0xE8#8, 0xEA#8, 0x60#8])
    (t.feed.budget, t.feed.guard) = (1000, 1000) ∧
    t.execLink.unread.map (·.body) = some [0x03#8, 0xE8#8, 0x03#8, 0xE8#8] := by decide +kernel
/-- R174: a pair 100 apart is the closest allowed; 99 is refused. -/
theorem test_set_feed_window :
    let t := run (.setFeedWindow .executive) (asks empty .executive .setFeedWindow 0 [0x0F#8, 0xA0#8, 0x10#8, 0x04#8])
    (t.feed.low, t.feed.high) = (4000, 4100) ∧
    outcome (run (.setFeedWindow .executive) (asks empty .executive .setFeedWindow 0
      [0x0F#8, 0xA0#8, 0x10#8, 0x03#8])) .executive = some .badField := by decide +kernel
theorem test_bank_status :
    outcome (run (.bankStatus .executive) (asks empty .executive .bankStatus 0 [])) .executive = some .ok := by
  decide +kernel
/-- R166, R170: a request withdrawn with a CONNECT open is still the one in service. -/
theorem test_bank_status_withdrawn :
    ({ empty with arb := { empty.arb with service := some ⟨1, 500, 9, 0, [], .withdrawn⟩ } } :
      State).engineInService = some 1 := by decide +kernel
theorem test_station_status :
    (run (.stationStatus .executive) (asks empty .executive .stationStatus 0 [])).execLink.unread.map
      (fun a => a.body.take 6) = some [0x20#8, 0x18#8, 0x08#8, 0x00#8, 0x01#8, 0x02#8] := by decide +kernel
theorem test_reset :
    let t := run (.reset .executive) (asks (station .queued 1) .executive .reset 0 [])
    (t.record 3).map (fun r => (r.state, r.hold, r.cursor)) = some (.held, some .reset, 1) ∧
    t.store.queue = [] := by decide +kernel

/-! ### Stations with an engine on a step -/

def holdStep : StepParams := .hold ⟨800, 2000, 500, 5400, 4000, 960⟩
def tripStep : StepParams :=
  .trip ⟨1500, 500, 5400, 4000, 300, 600, 960⟩ ⟨900, 5400, .hiccup, 2000, none⟩
def latchStep : StepParams :=
  .trip ⟨1500, 500, 5400, 4000, 300, 600, 960⟩ ⟨900, 5400, .latch, 2000, some 1000⟩
def derate0 : DerateParams :=
  ⟨curve0, 33000, 6, 5400, 2000, 1800, 300, 20, 960, 100, 3000, 64, 30, 4000⟩

def copy0 (index : Nat) (k : StepKind) (p : StepParams) : WorkingCopy := ⟨h3, 4, 1, index, k, p, 5, 1⟩
def holdCopy : WorkingCopy := copy0 0 .hold holdStep
def tripCopy : WorkingCopy := copy0 1 .trip tripStep
def restartCopy : WorkingCopy := copy0 2 .restart tripStep
def latchCopy : WorkingCopy := copy0 2 .restart latchStep
def derateCopy : WorkingCopy := copy0 3 .derate (.derate derate0)

def sample0 : Sample := ⟨5350, 1600, 473, 1920, false, false, false, false⟩

def busy (c : WorkingCopy) : Engine :=
  { Engine.free with
    phase := .watch, copy := some c, takeTick := 100, reservation := .held 1125
    bankReq := .granted, watch := true, detection := .armed, setSent := true, stepLevel := 2000
    grant := [⟨4, 1600, 1000, false, 0, false⟩, ⟨1, 1000, 1000, false, 0, false⟩] }

/-- Engine 0 on a load step of the RUNNING record in slot 3, with banks 1 and 4. -/
def onStep (en : Engine) : State :=
  let s := station .running ((en.copy.map (·.index)).getD 0)
  { s with
    engines := s.engines.put 0 en
    feed := { s.feed with reservations := [⟨0, 1125, 1, 1, false⟩], total := 1125, nextNumber := 2 }
    senses := s.senses.put 4 ⟨.fresh, some sample0, some 3, 995⟩
    arb := { s.arb with
      roster := (s.arb.roster.put 1 ⟨.connected, 1000, some 4, some 0, 1000, none⟩).put 4
        ⟨.connected, 1600, some 4, some 0, 1000, none⟩ } }

def verdictOf (s : State) : Option StepOutcome := (s.engine 0).verdict.map (·.outcome)

/-- A bay frame of bay 4. -/
def bayBytes (v i t vin fs : Nat) : List Byte :=
  withCrc8 ([0x01#8, 0x04#8] ++ be16 v ++ be16 i ++ be16 t ++ be16 vin ++ [byteOf fs])
def feedBytes (d v fs : Nat) : List Byte := withCrc8 ([0x02#8] ++ be16 d ++ be16 v ++ [byteOf fs])
/-- A reply frame of bank 1. -/
def replyBytes (kind : Byte) (v : Nat) (m : Byte) : List Byte := withCrc8 ([0x01#8, kind] ++ be16 v ++ [m])

/-- An exchange open with bank 1, its POLL in the present turn. -/
def polled (s : State) (r : LinkRequest) : State :=
  { s with arb := { s.arb with
    exchanges := s.arb.exchanges.put 1 (some ⟨r, 990, 1000⟩)
    turn := some ⟨1, true, []⟩ } }

def sent (s : State) (m : Message) : State := { s with outbox := s.outbox.put 0 [m] }

/-! ### Request links and resets -/

def frame0 : List Byte := withCrc16 [0x11#8, 0x01#8, 0x2A#8, 0x02#8, 0x0C#8, 0x05#8]

/-- R20: a console request that claims tier 1 acts at tier 2. -/
theorem test_request_frame_console :
    (run (.requestFrame .console (0x7E#8 :: frame0)) empty).consoleLink.request =
      some ⟨.lookup, 2, 0x2A#8, [0x0C#8, 0x05#8], none⟩ := by decide +kernel
/-- R188: a frame at a link that is not free sets OVERRUN. -/
theorem test_request_frame_overrun :
    (run (.requestFrame .executive frame0) (asks empty .executive .take 0 [])).execLink.overrun =
      true := by decide +kernel
/-- R189, R200: the no-answer frame is clocked out when there is no unread answer. -/
theorem test_read_nothing :
    (run (.readTransaction 5) empty).spiOut = [0#8, 0#8, 0xFF#8, 0#8, 0#8, 0#8] := by decide +kernel
theorem test_answer_sent :
    (run .answerSent { empty with consoleLink := ⟨none, some ⟨7, .ok, false, [], 0⟩, false⟩ }).consoleLink.unread =
      none := by decide +kernel
/-- R200: the console transmits the start byte, then tag, code, flag, length, body and check code. -/
theorem test_console_transmits :
    ((run (.take .console) (asks empty .console .take 0 [])).consoleTransmits).take 7 =
      [0x7E#8, 0x07#8, 0x00#8, 0x00#8, 0x00#8, 0x01#8, 0x00#8] := by decide +kernel
theorem test_transaction_ignored : run (.transactionIgnored 0x03#8 frame0) empty = empty := by
  decide +kernel
theorem test_console_frame_timeout :
    let t := run .consoleFrameTimeout { empty with rx := some ⟨[0x11#8], 0⟩ }
    t.rx = none ∧ t.now = 11 := by decide +kernel
theorem test_power_on_reset : (run .powerOnReset (station .queued 0)).enableOutput 4 = false := by
  decide +kernel
theorem test_pin_reset : (run .pinReset (station .queued 0)).held = true := by decide +kernel
/-- R193: the fourth encodings are taken as 16 slots and 8 bays. -/
theorem test_reset_release :
    let t := run (.resetRelease ⟨.spare, .spare, 3, .pulse, .disabled⟩ 0x000081#24 0#24) empty
    t.straps = ⟨16, 8, 4, true, false⟩ ∧ (t.bay 7).debounce = some 0 ∧ (t.bay 6).debounce = none := by
  decide +kernel
/-- R27: the scrub finds a mismatch, and the record goes DOUBTFUL. -/
theorem test_shelf_scrub :
    let s := (station .ready 0).setSlot 0 ⟨1, some { record0 .ready 0 with note := 1 }⟩
    let t := run .shelfScrub s
    (t.record 0).map (·.state) = some .doubtful ∧ t.store.cursor = 1 ∧ t.now = 1050 := by
  decide +kernel
/-- R46: the count is rebuilt and the QUEUED record held with reason MODEL_DOUBT. -/
theorem test_model_scrub :
    let s := (station .queued 0).setModelSlot 2 ⟨3, some { model0 .active 9 with revision := 7 }⟩
    let t := run .modelScrub { s with models := { s.models with cursor := 2 } }
    (t.model 2).map (fun x => (x.state, x.refCount)) = some (.doubtful, 1) ∧
    (t.record 3).map (·.hold) = some (some .modelDoubt) := by decide +kernel

/-! ### Bay lines and sense link -/

theorem test_seat_input_change :
    (run (.seatInputChange 4 false) (station .queued 0)).bay 4 =
      ⟨some h3, false, true, some 1000, false, none, false⟩ := by decide +kernel
/-- Section 4.4: an expiry whose raw seat differs is taken; a QUEUED record is held. -/
theorem test_debounce_expiry :
    let t := run (.debounceExpiry 4) (run (.seatInputChange 4 false) (station .queued 0))
    t.now = 1050 ∧ (t.record 3).map (·.hold) = some (some .unseated) := by decide +kernel
/-- R131, R132: a detection at the elapsed time 299, one below t_min, is TRIP_EARLY. -/
theorem test_trip_early :
    verdictOf (run (.tripIndicatorChange 4 true)
      (onStep { busy tripCopy with tripFrom := some 701 })) = some .tripEarly := by decide +kernel
/-- R114: at the elapsed time 300 the engine passes into the RESTART step. -/
theorem test_trip_passage :
    let t := run (.tripIndicatorChange 4 true) (onStep { busy tripCopy with tripFrom := some 700 })
    t.outbox.get 0 = [.passage h3 1 300 .indicator 1] ∧
    (t.engine 0).copy = some restartCopy ∧ (t.engine 0).goodLevel = 4860 := by decide +kernel
theorem test_rearm_pulse_end :
    let s := onStep { busy latchCopy with awaitRearm := true }
    let t := run (.rearmPulseEnd 4) (s.setBay 4 { s.bay 4 with rearm := some (1000, 0) })
    (t.engine 0).restartFrom = some 1500 ∧ t.enableOutput 4 = true := by decide +kernel
/-- R93: a raw output current above 20000 is clamped and flagged. -/
theorem test_bay_frame :
    (run (.bayFrame (bayBytes 5350 20001 473 1920 0x40)) (station .ready 0)).sense 4 =
      ⟨.fresh, some ⟨5350, 20000, 473, 1920, false, true, false, false⟩, some 4, 1000⟩ := by
  decide +kernel
/-- R99: an output of V_collapse is no collapse, and one below it is. -/
theorem test_collapse :
    verdictOf (run (.bayFrame (bayBytes 4000 1600 473 1920 0x40)) (onStep (busy holdCopy))) = none ∧
    verdictOf (run (.bayFrame (bayBytes 3999 1600 473 1920 0x40)) (onStep (busy holdCopy))) =
      some .holdTripped := by decide +kernel
/-- R99, R114, R135: a collapse at the elapsed time 300 passes, with the low-seen mark set. -/
theorem test_trip_collapse :
    let t := run (.bayFrame (bayBytes 3999 1600 473 1920 0x40)) (onStep { busy tripCopy with tripFrom := some 700 })
    t.outbox.get 0 = [.passage h3 1 300 .collapse 1] ∧ (t.engine 0).lowSeen = true := by decide +kernel
theorem test_bay_stale :
    let t := run (.bayStale 4) (onStep (busy holdCopy))
    t.now = 1016 ∧ (t.engine 0).stop = some .senseLost := by decide +kernel
/-- R180: the third draw above B sheds the reservation. -/
theorem test_feed_frame_sheds :
    let s := onStep (busy holdCopy)
    let t := run (.feedFrame (feedBytes 6001 4000 0x10)) { s with feed := { s.feed with overCount := 2 } }
    (t.engine 0).stop = some .shed ∧ t.feed.pause = 5 ∧ t.feed.overCount = 0 := by decide +kernel
/-- R181: a frame at the high limit is within it; the second frame above it is FAULT. -/
theorem test_feed_frame_window :
    (run (.feedFrame (feedBytes 100 4600 0x10)) (station .ready 0)).feed.window = .normal ∧
    (run (.feedFrame (feedBytes 100 4601 0x10)) { station .ready 0 with
      feed := { (station .ready 0).feed with outCount := 1 } }).feed.window = .fault := by
  decide +kernel
theorem test_feed_stale :
    let s := station .ready 0
    let t := run .feedStale { s with feedSense := ⟨.fresh, some ⟨100, 4000⟩, some 1, 990⟩ }
    t.now = 1091 ∧ t.feed.window = .fault := by decide +kernel
theorem test_recovery_expiry :
    let s := station .ready 0
    let t := run .recoveryExpiry { s with feed := { s.feed with window := .recovering, recoverFrom := some 500 } }
    t.now = 1500 ∧ t.feed.window = .normal := by decide +kernel
theorem test_attention_pulse_end :
    let s := listed (station .held 0)
    let t := run .attentionPulseEnd { s with
      straps := { s.straps with pulse := true }, store := { s.store with pulse := some 1000 } }
    t.now = 1001 ∧ t.attentionActive = false := by decide +kernel

/-! ### Engines -/

/-- R126, R110: a HOLD step of 800 ‰ with 5 modules of 50.0 A loads 2000, and its engine then submits 1125. -/
theorem test_engine_take :
    let s := station .queued 0
    let t := run .engineTake { s with feed := { s.feed with window := .recovering } }
    (t.record 3).map (fun r => (r.state, r.engaged)) = some (.running, some 0) ∧
    (t.engine 0).stepLevel = 2000 ∧ (t.engine 0).reservation = .none ∧
    ((stepped t).engine 0).reservation = .waiting 1125 := by decide +kernel
def evaluating : State :=
  let s := onStep { Engine.free with phase := .reserve, copy := some derateCopy, evalAsked := true }
  { s with feed := { s.feed with window := .recovering, reservations := [], total := 0 }
           arb := { s.arb with roster := s.arb.roster.put 7 ⟨.idle, 5000, none, none, 0, none⟩ } }
/-- Section 8.6: I_set 4612 and R 2595. -/
theorem test_derate_evaluation :
    let t := run (.derateEvaluation 0) evaluating
    (t.engine 0).stepLevel = 4612 ∧ (t.engine 0).pExp = 22645 ∧
    (t.engine 0).reservation = .waiting 2595 := by decide +kernel
theorem test_hold_duration_expiry :
    let t := run (.holdDurationExpiry 0) (onStep { busy holdCopy with holdFrom := some 200 })
    t.now = 2200 ∧ verdictOf t = some .pass := by decide +kernel
theorem test_trip_window_close :
    let t := run (.tripWindowClose 0) (onStep { busy tripCopy with tripFrom := some 800 })
    t.now = 1401 ∧ verdictOf t = some .noTrip := by decide +kernel
theorem test_settle_expiry :
    let t := run (.settleExpiry 0) (onStep { busy derateCopy with settleFrom := some 100 })
    t.now = 3100 ∧ (t.engine 0).collection = some ⟨0, 0, 0⟩ := by decide +kernel
/-- R137: the observe time closes at 1001, and the output goes off for the pulse. -/
theorem test_latch_observe_expiry :
    let t := run (.latchObserveExpiry 0) (onStep { busy latchCopy with latchFrom := some 500 })
    t.now = 1501 ∧ (t.bay 4).rearm = some (1501, 0) ∧ t.enableOutput 4 = false := by decide +kernel
theorem test_restart_window_close :
    let t := run (.restartWindowClose 0) (onStep { busy restartCopy with restartFrom := some 500 })
    t.now = 2501 ∧ verdictOf t = some .noRestart := by decide +kernel
def extract0 : Extract := ⟨.watch, 0, .hold, 900, false, some 5350, some 1600, some 473, none⟩
def waitingLookup : State :=
  let s := sent (onStep (busy holdCopy)) (.extract h3 .executive extract0)
  { s with execLink := ⟨some ⟨.lookup, 0, 0x07#8, h3.bytes, some ⟨0, h3⟩⟩, none, false⟩ }
/-- R203: the extract flag and the first bytes of the extract end the answer. -/
theorem test_extract :
    (run (.extract 0) waitingLookup).execLink.unread.map (fun a => (a.body.reverse.take 2)) =
      some [0x00#8, 0xD9#8] := by decide +kernel
theorem test_passage_write :
    ((run (.passageWrite 0) (sent (onStep (busy restartCopy)) (.passage h3 1 300 .indicator 1))).record 3).map
      (fun r => (r.cursor, r.results)) =
      some (2, [⟨1, .trip, .pass, some 300, some .indicator, 1⟩]) := by decide +kernel
/-- R123: a PASS with steps left queues the record at the next step. -/
theorem test_step_close_pass :
    ((run (.stepClose 0) (sent (onStep Engine.free) (.close h3 0 .hold .pass none none 1 false))).record 3).map
      (fun r => (r.state, r.cursor, r.engaged)) = some (.queued, 1, none) := by decide +kernel
/-- R123: a charged interruption of the fourth attempt holds the record with RETRY_LIMIT. -/
theorem test_step_close_retry_limit :
    let s := station .running 0
    let r := ({ record0 .running 0 with retry := 3 } : ShelfRecord).seal
    ((run (.stepClose 0) (sent (s.setSlot 3 ⟨5, some r⟩) (.close h3 0 .hold .shed none none 4 false))).record
      3).map (fun r => (r.state, r.hold, r.retry)) = some (.held, some .retryLimit, 3) := by
  decide +kernel

/-! ### Load link -/

/-- R159: the unload class goes ahead of an older request to another bank. -/
theorem test_link_turn :
    let s := station .ready 0
    let t := run .linkTurn { s with arb := { s.arb with
      asked := [⟨0, .set 500, false⟩, ⟨1, .release, false⟩] } }
    t.arb.asked = [⟨0, .set 500, false⟩] ∧
    t.arb.turn.map (·.frame.take 5) = some [0x01#8, 0x04#8, 0#8, 0#8, 0#8] := by decide +kernel
/-- R157: a capability above 20000 is taken as 20000. -/
theorem test_ident_reply :
    (run (.identReply (replyBytes 0x81#8 20001 0#8)) (polled (station .ready 0) .identify)).bank 1 =
      ⟨.idle, 20000, none, none, 0, none⟩ := by decide +kernel
def serving (chosen : List BankIx) : State :=
  let s := onStep { busy holdCopy with phase := .acquire, watch := false, grant := [], bankReq := .connecting }
  polled { s with arb := { s.arb with
    roster := (s.arb.roster.put 1 ⟨.connecting, 1000, none, none, 0, none⟩).put 4
      ⟨.connecting, 1600, none, none, 0, none⟩
    service := some ⟨0, 2000, 4, 0, chosen, .active⟩ } } (.connect 4)
/-- R167: a need of 1000 is the whole share of the one bank chosen. -/
theorem test_ready_reply :
    let s := serving [1]
    let t := run (.readyReply (replyBytes 0x82#8 0 0#8)) { s with arb := { s.arb with
      service := some ⟨0, 1000, 4, 0, [1], .active⟩ } }
    (t.engine 0).phase = .load ∧ t.arb.asked = [⟨1, .set 1000, true⟩] := by decide +kernel
theorem test_level_reply_limited :
    verdictOf (run (.levelReply (replyBytes 0x83#8 900 1#8))
      (polled (onStep { busy holdCopy with phase := .load }) (.set 1000))) = some .holdLimited := by
  decide +kernel
def releasing (grant : List GrantBank) : State :=
  let s := polled (onStep { busy holdCopy with
    phase := .unload, releasing := true, watch := false, grant := grant
    verdict := some ⟨.pass, none, none⟩ }) .release
  s.setBank 1 ⟨.releasing, 1000, some 4, some 0, 0, none⟩
theorem test_released_reply :
    let t := run (.releasedReply (replyBytes 0x84#8 0 0#8)) (releasing [⟨1, 1000, 1000, false, 0, false⟩])
    t.engine 0 = Engine.free ∧ t.outbox.get 0 = [.close h3 0 .hold .pass none none 1 false] := by
  decide +kernel
theorem test_wait_reply :
    ((run (.waitReply (replyBytes 0x85#8 0 0#8)) (polled (station .ready 0) .release)).exchange 1).isSome =
      true := by decide +kernel
theorem test_fault_reply :
    let t := run (.faultReply (replyBytes 0x86#8 0 3#8)) (polled (onStep (busy holdCopy)) (.set 1000))
    (t.engine 0).stop = some .bankFault ∧ t.bank 1 = ⟨.offline, 1000, none, none, 0, some 3⟩ := by
  decide +kernel
/-- R160: the tick of sending plus 250 is in time, so the exchange ends at 251. -/
theorem test_exchange_timeout :
    let t := run (.exchangeTimeout 1) (polled (station .ready 0) .identify)
    t.now = 1241 ∧ t.exchange 1 = none := by decide +kernel
theorem test_rediscovery_timer :
    let t := run .rediscoveryTimer (onStep (busy holdCopy))
    t.now = 5900 ∧ t.arb.asked.map (·.bank) = [0, 2, 3, 5, 6, 7] := by decide +kernel

/-! ### Witnesses: a state and operands that meet every hypothesis of a statement, clause by clause -/

theorem of_records {s : State} {P : SlotIx → ShelfRecord → Prop} [∀ i r, Decidable (P i r)]
    (h : ∀ i, ((s.record i).all fun r => decide (P i r)) = true) :
    ∀ i r, s.record i = some r → P i r := by
  intro i r hr
  simpa [hr] using h i

theorem of_models {s : State} {P : ModelIx → Model → Prop} [∀ m x, Decidable (P m x)]
    (h : ∀ m, ((s.model m).all fun x => decide (P m x)) = true) :
    ∀ m x, s.model m = some x → P m x := by
  intro m x hx
  simpa [hx] using h m

theorem of_bindings {s : State} {P : BayIx → Handle → Prop} [∀ b h, Decidable (P b h)]
    (hb : ∀ b, ((s.bay b).binding.all fun h => decide (P b h)) = true) :
    ∀ b h, (s.bay b).binding = some h → P b h := by
  intro b h hh
  simpa [hh] using hb b

theorem of_serials {s : State}
    (h : ∀ i j, ((s.record i).all fun r => (s.record j).all fun q =>
      decide (r.serial = q.serial → i = j)) = true) : s.SerialsDistinct := by
  intro i j r q hr hq hs
  have := h i j
  simp only [hr, hq, Option.all_some, decide_eq_true_eq] at this
  exact this hs

theorem of_plans {s : State}
    (h : ∀ i m, ((s.record i).all fun r => (s.model m).all fun x =>
      decide (r.model = s.modelHandleOf m →
        x.state ≠ .draft ∧ (r.state = .passed → r.cursor = x.plan.length))) = true) :
    s.PlansHold := by
  intro i r m x hr hm hx
  have := h i m
  simp only [hr, hx, Option.all_some, decide_eq_true_eq] at this
  exact this hm

/-- A list is taken apart at each of its places. -/
theorem of_splits {l : List Asked} {P : List Asked → Asked → Prop}
    (h : ∀ n : Fin l.length, P (l.take n) l[n]) : ∀ pre x post, l = pre ++ x :: post → P pre x := by
  intro pre x post e
  subst e
  simpa using h ⟨pre.length, by simp⟩

theorem of_engines {s : State} {p : EngineIx → Prop}
    (h : ∀ e, (s.engine e).verdict = none ∧
      ((s.engine e).phase = .free → s.engine e = Engine.free) ∧
      ((s.engine e).phase ≠ .free → (s.engine e).phase ≠ .close ∧ (s.engine e).copy.isSome = true) ∧
      ((s.engine e).phase = .unload → (s.engine e).stop.isSome = true) ∧
      (s.engine e).evalAsked = false ∧
      ((s.engine e).phase = .reserve ∨ (s.engine e).phase = .acquire →
        (s.engine e).grant = [] ∧ (s.engine e).detection ≠ .armed ∧ (s.engine e).tripFrom = none ∧
          (s.engine e).holdFrom = none ∧ (s.engine e).settleFrom = none ∧
          (s.engine e).latchFrom = none ∧ (s.engine e).restartFrom = none ∧
          (s.engine e).awaitRearm = false)) :
    ∀ e, (s.engine e).Sound (p e) := fun e =>
  ⟨(h e).2.1, (h e).2.2.1, fun k => .inr ((h e).2.2.2.1 k),
    fun v hw => (Option.some_ne_none v (hw.symm.trans (h e).1)).elim,
    fun k => (Bool.false_ne_true ((h e).2.2.2.2.1.symm.trans k)).elim, (h e).2.2.2.2.2⟩

theorem of_running {s : State}
    (h : ∀ i, ((s.record i).all fun r => decide (r.state = .running →
      r.engaged.any fun e => s.holds e (s.handleOf i) && (s.engine e).stop = none)) = true) :
    ∀ i r, s.record i = some r → r.state = .running → ∃ e, r.engaged = some e ∧
      (((s.engine e).phase ≠ .free ∧ ((s.engine e).copy.map (·.handle)) = some (s.handleOf i) ∧
          (s.engine e).stop ≠ some .doubt) ∨
        ∃ m ∈ s.outbox.get e, ∃ n k o v c a late,
          m = .close (s.handleOf i) n k o v c a late ∧ o ≠ .doubt) := by
  intro i r hr hs
  have := h i
  simp only [hr, Option.all_some, decide_eq_true_eq] at this
  cases he : r.engaged with
  | none => simp [he, hs] at this
  | some e =>
    simp only [he, hs, Option.any_some, State.holds, Bool.and_eq_true, decide_eq_true_eq,
      forall_const] at this
    exact ⟨e, rfl, .inl ⟨this.1.1, this.1.2, by rw [this.2]; simp⟩⟩

/-- A command is answered with a next state. -/
def completes (c : Instr) (s : State) : Bool :=
  match exec c s with
  | .next _ => true
  | .fault _ => false
  | .refused _ => false

theorem exec_run {c : Instr} {s : State} (h : completes c s = true) :
    exec c s = .next (run c s) := by
  unfold completes at h
  unfold run
  split at h <;> simp_all

def front (c : Instr) (s : State) : State := { s with pending := [c] }

/-- A step is answered with a next state. -/
def proceeds (s : State) : Bool :=
  match step s with
  | .next _ => true
  | .fault _ => false
  | .refused _ => false

theorem step_stepped {s : State} (h : proceeds s = true) : step s = .next (stepped s) := by
  unfold proceeds at h
  unfold stepped
  split at h <;> simp_all

theorem step_run {c : Instr} {s : State} (hp : s.pending = []) (h : completes c s = true) :
    step (front c s) = .next (run c s) := by
  have e : step (front c s) = exec c s := by
    unfold step front
    cases s
    simp_all
  rw [e, exec_run h]

/-- Two QUEUED records, a slot at generation 1023, an entry for attention and an ABORT pending. -/
def safe0 : State :=
  let other := ({ record0 .queued 3 with
    bay := some 6, serial := List.replicate 12 0x44#8
    results := [⟨0, .hold, .pass, none, none, 1⟩, ⟨1, .trip, .pass, some 300, some .indicator, 2⟩] } :
      ShelfRecord).seal
  let s := (((station .queued 0).setSlot 0 ⟨1, some other⟩).setSlot 5 ⟨1023, none⟩).setModelSlot 2
    ⟨3, some (model0 .active 2)⟩
  asks { s with
    bays := s.bays.put 6 { s.bay 6 with binding := some ⟨.shelf, 0, 1⟩, raw := true, seated := true }
    store := { s.store with
      queue := [3, 0]
      attention := [⟨⟨.shelf, 0, 1⟩, ⟨true, true, false, false, false⟩⟩] } }
    .executive .abort 0 h3.bytes

/-- The state of the invariants' witnesses: the ABORT at the front of the queue. -/
def safe1 : State := front (.abort .executive) safe0

theorem safe1_steps : step safe1 = .next (run (.abort .executive) safe0) :=
  step_run (by decide +kernel) (by decide +kernel)

/-- Engine 0 on a HOLD step whose duration ends, engine 1 with a submission that waits, engine 2 with a bank
request that waits and engine 3 with the request in service. -/
def crowd0 : State :=
  let s := onStep { busy holdCopy with holdFrom := some 200 }
  let other : EngineIx → Engine := fun e =>
    { Engine.free with
      copy := some { holdCopy with handle := ⟨.shelf, 10, 1 + e.val⟩ }, stepLevel := 900 }
  { s with
    engines := ((s.engines.put 1 { other 1 with phase := .reserve, reservation := .waiting 700 }).put 2
      { other 2 with phase := .acquire, reservation := .held 30, bankReq := .waiting }).put 3
      { other 3 with phase := .acquire, reservation := .held 40, bankReq := .connecting }
    feed := { s.feed with
      reservations := s.feed.reservations ++ [⟨2, 30, 1, 2, false⟩, ⟨3, 40, 1, 3, false⟩]
      total := 1195, waits := [⟨1, 7000, 1, 5, 0⟩] }
    arb := { s.arb with
      waits := [⟨2, 9000, 1, 6, 0⟩], service := some ⟨3, 900, 7, 1, [5], .active⟩
      roster := s.arb.roster.put 5 ⟨.connecting, 1000, none, none, 0, none⟩ } }

def crowd1 : State := front (.holdDurationExpiry 0) crowd0

theorem crowd1_steps : step crowd1 = .next (run (.holdDurationExpiry 0) crowd0) :=
  step_run (by decide +kernel) (by decide +kernel)

theorem crowd1_sound : crowd1.EnginesSound :=
  ⟨of_engines (by decide +kernel), by decide +kernel, by decide +kernel, by decide +kernel,
    fun v hv => by
      have : v = ⟨3, 900, 7, 1, [5], .active⟩ := (Option.some.inj hv).symm
      subst this
      decide +kernel,
    of_running (by decide +kernel)⟩

theorem crowd1_held : crowd1.BanksHeld := fun b e _ hb he => .inl <|
  (by decide +kernel : ∀ b e, (crowd1.bank b).state = .connected → (crowd1.bank b).engine = some e →
    ∃ g ∈ (crowd1.engine e).grant, g.bank = b) b e hb he

/-- A PASSED record, with a TAKE at the front of the queue. -/
def passed0 : State := asks (listed (station .passed 4)) .executive .take 0 []
def passed1 : State := front (.take .executive) passed0

theorem witness_StepRunsFrontCommand :
    safe1.pending = .abort .executive :: [] ∧
    (safe0.pending = [] ∧ (run .pinReset safe0).pending = [] ∧ (run .pinReset safe0).held = true) ∧
    (safe0.held = false ∧ safe0.ownWork = none ∧ safe0.due = some .engineTake) ∧
    ((run .engineTake (station .queued 0)).held = false ∧
      (run .engineTake (station .queued 0)).ownWork.isSome = true) ∧
    ((station .ready 0).held = false ∧ (station .ready 0).ownWork = none ∧
      (station .ready 0).due = none) := by decide +kernel

/-- After a take in NORMAL, before the engine submits. -/
def taken0 : State := run .engineTake (station .queued 0)

/-- R107: a take served first and a window fault of the same tick leave the engine in RESERVE, which
FEED_LOST does not reach; the submission waits. -/
theorem test_take_then_fault :
    let t := run .feedStale { taken0 with feedSense := ⟨.fresh, some ⟨100, 4000⟩, some 1, 899⟩ }
    t.feed.window = .fault ∧ (t.engine 0).phase = .reserve ∧ (t.engine 0).stop = none ∧
    t.feed.waits = [] ∧ (stepped t).feed.waits.map (·.engine) = [0] := by decide +kernel

/-- R176: a tick that passes finds the submission made and tested. -/
theorem test_time_finds_the_submission_tested :
    (run .shelfScrub taken0).now = 1050 ∧ (run .shelfScrub taken0).feed.total = 0 ∧
    (run .shelfScrub taken0).outbox.get 0 = [.close h3 0 .hold .noCapacity none none 1 false] := by
  decide +kernel

/-- Section 10.6 as a queue: engines 1 and 3 take first, with 2595 and 1688, then 0 and 5 with 1500 and 900.
The rows' efficiencies of 1000 ‰ make the step level at 10 V, in W over 10, the reservation. -/
def section106 : State :=
  let c : EngineIx → Nat → BayIx → WorkingCopy := fun e p b =>
    { holdCopy with
      handle := ⟨.shelf, 10, 1 + e.val⟩, priority := p, bay := b
      params := .hold ⟨800, 2000, 500, 1000, 900, 1000⟩ }
  let en : EngineIx → Nat → BayIx → Nat → Engine := fun e p b n =>
    { Engine.free with phase := .reserve, copy := some (c e p b), stepLevel := n * 10 }
  let s := asks (station .ready 0) .executive .setBudget 0 (be16 4000 ++ be16 200)
  let t := (s.setEngine 1 (en 1 2 10 2595)).setEngine 3 (en 3 3 6 1688)
  let roster := (t.arb.roster.put 1 ⟨.idle, 20000, none, none, 0, none⟩).put 2
    ⟨.idle, 20000, none, none, 0, none⟩
  let u := { t with arb := { t.arb with roster := roster } }.settled
  (u.setEngine 0 (en 0 4 2 1500)).setEngine 5 (en 5 6 14 900)

/-- Section 10.6: a SET_BUDGET that follows at once finds each submission tested against the old budget. -/
theorem test_section_10_6 :
    let t := run (.setBudget .executive) section106
    (section106.engine 0).reservation = .none ∧ (section106.engine 5).reservation = .none ∧
    t.feed.total = 4283 ∧ t.feed.budget = 4000 ∧ t.feed.waits.map (·.engine) = [0, 5] ∧
    t.feed.reservations.map (·.engine) = [1, 3] := by decide +kernel

/-- Sections 6.3, 10.6: a take, then a SET_BUDGET that would not admit it, both in the queue: the engine is
admitted under the budget of its submission. -/
theorem test_take_then_budget :
    let s := asks (station .queued 0) .executive .setBudget 0 (be16 1000 ++ be16 0)
    let t := stepped (stepped { s with
      pending := [.engineTake, .setBudget .executive]
      arb := { s.arb with roster := s.arb.roster.put 1 ⟨.idle, 20000, none, none, 0, none⟩ } })
    t.pending = [] ∧ t.feed.budget = 1000 ∧ t.feed.total = 1125 := by decide +kernel

theorem taken0_sound : taken0.EnginesSound :=
  ⟨of_engines (by decide +kernel), by decide +kernel, by decide +kernel, by decide +kernel,
    fun v hv => (Option.some_ne_none v (hv.symm.trans (by decide +kernel))).elim,
    of_running (by decide +kernel)⟩

theorem witness_QueueTimeAndStrapsAreKept :
    exec (.bayStale 4) (onStep (busy holdCopy)) =
      .next (run (.bayStale 4) (onStep (busy holdCopy))) ∧
    exec (.resetRelease ⟨.spare, .spare, 3, .pulse, .disabled⟩ 0#24 0#24) empty =
      .next (run (.resetRelease ⟨.spare, .spare, 3, .pulse, .disabled⟩ 0#24 0#24) empty) ∧
    (taken0.held = false ∧ taken0.settled.ownWork = none ∧ taken0.ownWork.isSome = true) ∧
    taken0.EnginesSound ∧ exec .shelfScrub taken0 = .next (run .shelfScrub taken0) ∧
    taken0.now < (run .shelfScrub taken0).now :=
  ⟨exec_run (by decide +kernel), exec_run (by decide +kernel), by decide +kernel, taken0_sound,
    exec_run (by decide +kernel), by decide +kernel⟩

theorem witness_ResetHoldsEverythingOff :
    (run .pinReset safe0).held = true ∧ Instr.linkTurn ≠ .powerOnReset ∧
    Instr.linkTurn ≠ .pinReset ∧ ∀ p a b, Instr.linkTurn ≠ .resetRelease p a b :=
  ⟨by decide +kernel, by decide, by decide, by intros; simp⟩

theorem witness_GenerationsAndSettingsStayInRange :
    safe1.GenerationsInRange ∧ safe1.FeedSettingsInRange ∧
    step safe1 = .next (run (.abort .executive) safe0) :=
  ⟨by unfold State.GenerationsInRange; decide +kernel,
    by unfold State.FeedSettingsInRange; decide +kernel, safe1_steps⟩

theorem witness_IntegrityCodesStayRight :
    safe1.CodesMatch ∧ step safe1 = .next (run (.abort .executive) safe0) :=
  ⟨⟨of_records (by decide +kernel), of_models (by decide +kernel)⟩, safe1_steps⟩

theorem witness_LifecycleStays :
    safe1.LifecycleHolds ∧ safe1.QueueOrdered ∧ safe1.SerialsDistinct ∧ safe1.ResultsSorted ∧
    step safe1 = .next (run (.abort .executive) safe0) :=
  ⟨⟨by decide +kernel, by decide +kernel, of_records (by decide +kernel)⟩,
    by unfold State.QueueOrdered; decide +kernel, of_serials (by decide +kernel),
    of_records (by decide +kernel), safe1_steps⟩

theorem witness_BindingsStayAgreed :
    (safe1.BindingsAgree ∧ step safe1 = .next (run (.abort .executive) safe0)) ∧
    crowd1.BanksSound ∧ (crowd1.bank 1).state = .connected ∧ (crowd1.bank 5).state = .connecting ∧
    step crowd1 = .next (run (.holdDurationExpiry 0) crowd0) :=
  ⟨⟨⟨by decide +kernel, of_bindings (by decide +kernel), of_records (by decide +kernel)⟩, safe1_steps⟩,
    by unfold State.BanksSound; decide +kernel, by decide +kernel, by decide +kernel, crowd1_steps⟩

theorem witness_AttentionListStaysSound :
    safe1.AttentionSound ∧ step safe1 = .next (run (.abort .executive) safe0) :=
  ⟨by unfold State.AttentionSound; decide +kernel, safe1_steps⟩

theorem of_counts {s : State}
    (h : ∀ i, ((s.record i).all fun r =>
      (List.finRange 16).any fun m => decide (r.model = s.modelHandleOf m) && (s.model m).isSome) =
        true) (k : ∀ m, ((s.model m).all fun x => decide (x.refCount = s.namingCount m)) = true) :
    s.RefCountsAgree := by
  refine ⟨fun i r hr => ?_, of_models k⟩
  have := h i
  simp only [hr, Option.all_some, List.any_eq_true, Bool.and_eq_true, decide_eq_true_eq] at this
  obtain ⟨m, _, hm⟩ := this
  exact ⟨m, hm⟩

theorem witness_ReferenceCountsStayRight :
    (safe1.RefCountsAgree ∧ step safe1 = .next (run (.abort .executive) safe0)) ∧
    passed1.RefCountsAgree ∧ passed1.LifecycleHolds ∧ passed1.PlansHold ∧
    ((passed1.record 3).map (·.state)) = some .passed ∧
    step passed1 = .next (run (.take .executive) passed0) :=
  ⟨⟨of_counts (by decide +kernel) (by decide +kernel), safe1_steps⟩,
    of_counts (by decide +kernel) (by decide +kernel),
    ⟨by decide +kernel, by decide +kernel, of_records (by decide +kernel)⟩,
    of_plans (by decide +kernel), by decide +kernel,
    step_run (by decide +kernel) (by decide +kernel)⟩

/-- A submission of 2595 that waits for the feed, with a need of 4612. -/
def waiting0 : State :=
  let s := run (.derateEvaluation 0) evaluating
  { s with
    feed := { s.feed with window := .normal }
    arb := { s.arb with service := some ⟨1, 500, 9, 0, [], .active⟩ } }

/-- A budget that admits the submission exactly. -/
def budget0 : State := asks waiting0 .executive .setBudget 0 (be16 2600 ++ be16 5)

theorem witness_AdmissionsStayWithinTheBudget :
    (step (front (.setBudget .executive) budget0) = .next (run (.setBudget .executive) budget0) ∧
      (run (.setBudget .executive) budget0).feed.total = 2595) ∧
    (step taken0 = .next (stepped taken0) ∧ taken0.feed.total = 0 ∧
      (stepped taken0).feed.total = 1125) ∧
    (∀ c ∈ [Instr.powerOnReset, .pinReset], (stepped (front c budget0)).feed.budget = 0 ∧
      budget0.feed.budget ≠ 0 ∧ (front c budget0).Runs c) ∧
    crowd1.TotalIsTheSum ∧ crowd1.WaitListsOrdered ∧ crowd1.EnginesSound ∧ crowd1.BanksHeld ∧
    step crowd1 = .next (run (.holdDurationExpiry 0) crowd0) :=
  ⟨⟨step_run (by decide +kernel) (by decide +kernel), by decide +kernel⟩,
    ⟨step_stepped (by decide +kernel), by decide +kernel, by decide +kernel⟩,
    by unfold State.Runs; decide +kernel,
    by unfold State.TotalIsTheSum; decide +kernel, by unfold State.WaitListsOrdered; decide +kernel,
    crowd1_sound, crowd1_held, crowd1_steps⟩

/-- A request with the given body is served, and the body does not fit. -/
def badly (s : State) (code : ReqCode) (body : List Byte) : Prop :=
  (asks s .executive code 0 body).Serving .executive code (req code 0 body)

theorem witness_BadBodyIsRefused :
    (badly empty .lookup [0x0C#8] ∧ readAll readHandle [0x0C#8] = none) ∧
    (badly empty .discard [0x0C#8, 0x05#8, 0x00#8] ∧
      readAll readHandle [0x0C#8, 0x05#8, 0x00#8] = none) ∧
    badly empty .take [0x00#8] ∧
    (badly empty .admitShelf (admitBody ++ [0x00#8]) ∧
      readAll readAdmitBody (admitBody ++ [0x00#8]) = none) ∧
    (badly empty .probe (h3.bytes ++ [0x08#8]) ∧ readAll readProbeBody (h3.bytes ++ [0x08#8]) = none) ∧
    (badly empty .find (serial0 ++ [0xFF#8, 0xFF#8, 0xFF#8, 0xFF#8, 0x20#8]) ∧
      readAll readFindBody (serial0 ++ [0xFF#8, 0xFF#8, 0xFF#8, 0xFF#8, 0x20#8]) = none) ∧
    ((badly empty .amend (h3.bytes ++ [0x00#8]) ∧ readAll readAmendBody (h3.bytes ++ [0x00#8]) = none ∧
        amendItemOf (h3.bytes ++ [0x00#8]) = some .priority) ∧
      (badly empty .amend [0x0C#8] ∧ readAll readAmendBody [0x0C#8] = none ∧
        amendItemOf [0x0C#8] = none) ∧
      badly empty .amend (amend 0x02#8 [0x00#8, 0x07#8]) ∧
      amendItemOf (amend 0x02#8 [0x00#8, 0x07#8]) = some .note) ∧
    (badly empty .bind h3.bytes ∧ readAll readBindBody h3.bytes = none) ∧
    (badly empty .createModel name0 ∧ readAll readCreateBody name0 = none) ∧
    (badly empty .editModel k2.bytes ∧ readAll readEditBody k2.bytes = none) ∧
    (badly empty .setBudget [0xEA#8, 0x61#8, 0x00#8, 0x00#8] ∧
      readAll readBudgetBody [0xEA#8, 0x61#8, 0x00#8, 0x00#8] = none) ∧
    (badly empty .setFeedWindow (be16 4000 ++ be16 4099) ∧
      readAll readWindowBody (be16 4000 ++ be16 4099) = none) := by
  unfold badly State.Serving
  decide +kernel

/-- A record request about slot 3 with a body, served. -/
def about (st : RecState) (cursor : Nat) (code : ReqCode) (tier : Nat) (body : List Byte) : State :=
  asks (station st cursor) .executive code tier body

def starts (s : State) (h : Handle) (tier : Nat) : State := asks s .executive .start tier h.bytes
def small : State := { station .ready 0 with straps := { State.reset.straps with table := 16 } }

/-- A START with a handle is served and the record it names, if any, matches its code. -/
def names (s : State) (h : Handle) (tier : Nat) : Prop :=
  (starts s h tier).Serving .executive .start (req .start tier h.bytes) ∧
  readAll readHandle h.bytes = some h ∧
  ((starts s h tier).record h.index).all (·.intact) = true

theorem witness_HandleChecksRunInOrder :
    names (station .ready 0) Handle.null 0 ∧
    (names (station .ready 0) k2 0 ∧ k2 ≠ Handle.null ∧ k2.table = .model) ∧
    (names small ⟨.shelf, 16, 1⟩ 0 ∧
      (starts small ⟨.shelf, 16, 1⟩ 0).straps.table ≤ (⟨.shelf, 16, 1⟩ : Handle).index.val) ∧
    (names small ⟨.shelf, 15, 1⟩ 0 ∧ (starts small ⟨.shelf, 15, 1⟩ 0).record 15 = none ∧
      1 = ((starts small ⟨.shelf, 15, 1⟩ 0).slot 15).gen) ∧
    (names (station .ready 0) ⟨.shelf, 3, 4⟩ 0 ∧ 4 ≠ ((station .ready 0).slot 3).gen) ∧
    (names (station .doubtful 0) h3 3 ∧
      ((station .doubtful 0).record 3).map (·.state) = some .doubtful) ∧
    (names (station .ready 0) h3 2 ∧
      ((station .ready 0).record 3).map (·.guardLevel) = some 1) ∧
    (∀ code ∈ [ReqCode.resume, .abort, .release, .lookup], ∀ st ∈ [RecState.doubtful, .ready],
      ∀ h ∈ [h3, Handle.null, k2, ⟨.shelf, 3, 4⟩],
      (about st 0 code 2 h.bytes).Serving .executive code (req code 2 h.bytes) ∧
      readAll readHandle h.bytes = some h ∧ (record0 st 0).intact = true) := by
  unfold names State.Serving
  decide +kernel

/-- A request about slot 3, whose record reads READY and does not match its code. -/
def damaged (code : ReqCode) (tier : Nat) (body : List Byte) : State :=
  (about .ready 0 code tier body).setSlot 3 ⟨5, some { record0 .ready 0 with note := 1 }⟩

/-- A request about model slot 2, which does not match its code and is named by a QUEUED record. -/
def damagedModel (code : ReqCode) (tier : Nat) (body : List Byte) : State :=
  (about .queued 0 code tier body).setModelSlot 2 ⟨3, some { model0 .active 9 with revision := 7 }⟩

/-- R17, R36: the mismatch found by the read. -/
theorem witness_HandleChecksRunInOrder_mismatch :
    (∀ code ∈ [ReqCode.start, .resume, .abort, .release, .lookup], ∀ tier ∈ [1, 2],
      ∀ h ∈ [h3, ⟨.shelf, 3, 4⟩], let s := damaged code tier h.bytes;
      s.Serving .executive code (req code tier h.bytes) ∧ readAll readHandle h.bytes = some h ∧
      h ≠ Handle.null ∧ h.table = .shelf ∧ h.index.val < s.straps.table ∧
      s.record h.index = some { record0 .ready 0 with note := 1 } ∧
      ({ record0 .ready 0 with note := 1 } : ShelfRecord).intact = false) ∧
    (∀ p ∈ [(AmendItem.priority, 0x00#8, [0x07#8]), (.note, 0x02#8, [0x00#8, 0x07#8])],
      let s := damaged .amend 0 (amend p.2.1 p.2.2);
      s.Serving .executive .amend (req .amend 0 (amend p.2.1 p.2.2)) ∧
      amendItemOf (amend p.2.1 p.2.2) = some p.1 ∧
      (readAll readAmendBody (amend p.2.1 p.2.2)).map (·.1) = some h3) ∧
    ((damaged .bind 0 (h3.bytes ++ [0x17#8])).Serving .executive .bind
        (req .bind 0 (h3.bytes ++ [0x17#8])) ∧
      readAll readBindBody (h3.bytes ++ [0x17#8]) = some (h3, 23)) ∧
    (∀ code ∈ [ReqCode.activate, .revise, .discard], ∀ tier ∈ [0, 1], ∀ h ∈ [k2, ⟨.model, 2, 4⟩],
      let s := damagedModel code tier h.bytes;
      s.Serving .executive code (req code tier h.bytes) ∧ readAll readHandle h.bytes = some h ∧
      h.table = .model ∧ s.model 2 = some { model0 .active 9 with revision := 7 } ∧
      ({ model0 .active 9 with revision := 7 } : Model).intact = false ∧
      s.record 3 = some (record0 .queued 0) ∧ (record0 .queued 0).model = s.modelHandleOf 2) ∧
    (let s := damagedModel .editModel 0 (k2.bytes ++ [0x08#8, 0x00#8]);
      s.Serving .executive .editModel (req .editModel 0 (k2.bytes ++ [0x08#8, 0x00#8])) ∧
      readAll readEditBody (k2.bytes ++ [0x08#8, 0x00#8]) = some (k2, .restartMode 0)) := by
  unfold State.Serving
  decide +kernel

/-- R17, R52: a LOOKUP of a record with a mismatch reports the doubt; R69: RELEASE goes on to the tier. -/
theorem test_lookup_finds_a_mismatch :
    ((run (.lookup .executive) (damaged .lookup 0 h3.bytes)).record 3).map (·.state) =
      some .doubtful ∧
    ((run (.lookup .executive) (damaged .lookup 0 h3.bytes)).execLink.unread.map
      fun a => (a.outcome, a.body[2]?)) = some (.ok, some 0x01#8) ∧
    outcome (run (.release .executive) (damaged .release 2 h3.bytes)) .executive = some .guarded := by
  decide +kernel

/-- R16, R58: an AMEND of each item with a handle, and a BIND with one. -/
theorem witness_HandleChecksRunInOrder_bodies :
    (∀ p ∈ [(AmendItem.priority, 0x00#8, [0x07#8]), (.guardLevel, 0x01#8, [0x03#8]),
        (.note, 0x02#8, [0x00#8, 0x07#8]), (.model, 0x03#8, k2.bytes), (.addModule, 0x04#8, module6),
        (.dropModule, 0x05#8, [0x01#8]), (.present, 0x06#8, [0x01#8, 0x00#8])],
      (about .doubtful 0 .amend 2 (amend p.2.1 p.2.2)).Serving .executive .amend
        (req .amend 2 (amend p.2.1 p.2.2)) ∧
      amendItemOf (amend p.2.1 p.2.2) = some p.1 ∧
      (readAll readAmendBody (amend p.2.1 p.2.2)).map (·.1) = some h3) ∧
    ((about .doubtful 0 .bind 2 (h3.bytes ++ [0x17#8])).Serving .executive .bind
        (req .bind 2 (h3.bytes ++ [0x17#8])) ∧ h3 ≠ Handle.null ∧
      readAll readBindBody (h3.bytes ++ [0x17#8]) = some (h3, 23)) := by
  unfold State.Serving
  decide +kernel

/-- R36: each model request with a handle that fails a check. -/
theorem witness_HandleChecksRunInOrder_models :
    (∀ code ∈ [ReqCode.activate, .revise, .discard],
      ∀ h ∈ [Handle.null, h3, ⟨.model, 16, 1⟩, ⟨.model, 5, 1⟩, ⟨.model, 5, 2⟩, k2],
      (asks (active empty 0) .executive code 1 h.bytes).Serving .executive code (req code 1 h.bytes) ∧
      readAll readHandle h.bytes = some h) ∧
    (∀ h ∈ [Handle.null, h3, ⟨.model, 16, 1⟩, ⟨.model, 5, 1⟩, ⟨.model, 5, 2⟩, k2],
      (asks (active empty 0) .executive .editModel 1 (h.bytes ++ [0x08#8, 0x00#8])).Serving .executive
        .editModel (req .editModel 1 (h.bytes ++ [0x08#8, 0x00#8])) ∧
      readAll readEditBody (h.bytes ++ [0x08#8, 0x00#8]) = some (h, .restartMode 0)) ∧
    (h3.table = .shelf ∧ (⟨.model, 16, 1⟩ : Handle).table = .model ∧ empty.model 5 = none ∧
      (empty.modelSlot 5).gen = 1) ∧
    (((active empty 0).modelSlot 2).gen = 3 ∧ (active empty 0).model 2 = some (model0 .active 0) ∧
      (model0 .active 0).intact = true ∧ (model0 .doubtful 0).intact = true) := by
  unfold State.Serving
  decide +kernel

theorem witness_StationAndModelRequestsNeedTierZero :
    (asks empty .executive .reset 1 []).Serving .executive .reset (req .reset 1 []) ∧
    ((asks empty .executive .setBudget 1 (be16 9 ++ be16 9)).Serving .executive .setBudget
        (req .setBudget 1 (be16 9 ++ be16 9)) ∧
      readAll readBudgetBody (be16 9 ++ be16 9) = some (9, 9)) ∧
    ((asks empty .executive .setFeedWindow 1 (be16 4000 ++ be16 4100)).Serving .executive .setFeedWindow
        (req .setFeedWindow 1 (be16 4000 ++ be16 4100)) ∧
      readAll readWindowBody (be16 4000 ++ be16 4100) = some (4000, 4100)) ∧
    ((asks empty .executive .createModel 1 (name0 ++ be16 1)).Serving .executive .createModel
        (req .createModel 1 (name0 ++ be16 1)) ∧
      readAll readCreateBody (name0 ++ be16 1) = some (name0, 1)) ∧
    ((asks (active empty 0) .executive .revise 1 k2.bytes).Serving .executive .revise
        (req .revise 1 k2.bytes) ∧ readAll readHandle k2.bytes = some k2 ∧
      (asks (active empty 0) .executive .revise 1 k2.bytes).ResolvesModel k2 2 (model0 .active 0)) ∧
    ((asks (draft empty 0) .executive .editModel 1 (k2.bytes ++ [0x0B#8] ++ be32 7)).Serving
        .executive .editModel (req .editModel 1 (k2.bytes ++ [0x0B#8] ++ be32 7)) ∧
      readAll readEditBody (k2.bytes ++ [0x0B#8] ++ be32 7) = some (k2, .param .pCap 7) ∧
      (asks (draft empty 0) .executive .editModel 1 (k2.bytes ++ [0x0B#8] ++ be32 7)).ResolvesModel
        k2 2 (model0 .draft 0)) := by
  unfold State.Serving State.ResolvesModel
  decide +kernel

/-! #### Record requests -/

def admit0 : AdmitBody :=
  ⟨List.replicate 12 0x43#8, k2, 2, 0, [⟨1, List.replicate 10 0x42#8, true, none⟩]⟩

theorem witness_AdmitFillsTheLowestFreeSlot :
    let s := asks (station .staged 0) .executive .admitShelf 2 admitBody
    (s.Serving .executive .admitShelf (req .admitShelf 2 admitBody) ∧
      readAll readAdmitBody admitBody = some admit0 ∧ admit0.inRange = true ∧
      s.ResolvesModel admit0.model 2 (model0 .active 1) ∧ admit0.modules.length ≤ 6 ∧
      (admit0.modules.map (·.slot)).Nodup ∧ s.record 0 = none) ∧
    ∀ j r, s.record j = some r → r.serial ≠ admit0.serial :=
  ⟨by unfold State.Serving State.ResolvesModel; decide +kernel, of_records (by decide +kernel)⟩

/-- The bytes of an ADMIT body. -/
def admitOf (b : AdmitBody) : List Byte :=
  b.serial ++ b.model.bytes ++ [byteOf b.priority, byteOf b.guardLevel, byteOf b.modules.length] ++
    b.modules.flatMap (·.bytes)

/-- The model of the tests in a state, found to match its code or not. -/
def modelWith (st : ModelState) (matching : Bool) : Model :=
  if matching then model0 st 1 else { model0 st 1 with revision := 7 }

def withModel (x : Model) (s : State) : State := s.setModelSlot 2 ⟨3, some x⟩

/-- A station with every slot in use. -/
def crowded : State :=
  (List.finRange 32).foldl (fun s i => s.setSlot i ⟨5, some (record0 .staged 0)⟩) (station .staged 0)

/-- R50: an ADMIT is served and refused. -/
def declines (s : State) (tier : Nat) (b : AdmitBody) (o : Code) : Prop :=
  let t := asks s .executive .admitShelf tier (admitOf b)
  t.Serving .executive .admitShelf (req .admitShelf tier (admitOf b)) ∧
  readAll readAdmitBody (admitOf b) = some b ∧
  outcome (run (.admitShelf .executive) t) .executive = some o

/-- R50: each check of ADMIT that fails, with those ahead of it passed. -/
theorem witness_AdmitFillsTheLowestFreeSlot_refusals :
    let s := station .staged 0
    let entry := fun n : Nat => (⟨n, List.replicate 10 0x42#8, true, none⟩ : ModuleEntry)
    declines s 2 { admit0 with priority := 8 } .badField ∧
    (∀ k ∈ [(Handle.null, Code.nullHandle), (h3, .wrongTable), (⟨.model, 16, 1⟩, .outOfRange),
      (⟨.model, 5, 1⟩, .absent), (⟨.model, 2, 4⟩, .stale)],
      declines s 2 { admit0 with model := k.1 } k.2) ∧
    (∀ x ∈ [modelWith .draft true, modelWith .active false, modelWith .doubtful false],
      declines (withModel x s) 2 admit0 .modelNotActive) ∧
    (modelWith .draft true).intact = true ∧ (modelWith .active false).intact = false ∧
    (modelWith .doubtful false).intact = false ∧ s.store.queue = [] ∧
    (declines (withModel ({ model0 .active 1 with params := { params0 with mRated := some 1 } } :
        Model).seal s) 2 { admit0 with modules := [entry 1, entry 2] } .badField) ∧
    declines s 2 { admit0 with modules := [entry 1, entry 1] } .duplicate ∧
    declines s 2 { admit0 with serial := serial0 } .duplicate ∧
    (declines crowded 2 admit0 .tableFull ∧ ∀ j, crowded.record j ≠ none) ∧
    declines s 3 admit0 .guarded := by
  unfold declines State.Serving
  decide +kernel

theorem witness_LookupReportsTheRecord :
    let s := about .doubtful 0 .lookup 3 h3.bytes
    s.Serving .executive .lookup (req .lookup 3 h3.bytes) ∧ readAll readHandle h3.bytes = some h3 ∧
    s.Resolves h3 3 (record0 .doubtful 0) := by
  unfold State.Serving State.Resolves
  decide +kernel

def lookup0 : State := asks (onStep (busy holdCopy)) .executive .lookup 3 h3.bytes

theorem witness_LookupOfARunningRecordWaits :
    lookup0.Serving .executive .lookup (req .lookup 3 h3.bytes) ∧
    lookup0.Resolves h3 3 (record0 .running 0) ∧ (record0 .running 0).engaged = some 0 ∧
    (lookup0.engine 0).copy = some holdCopy ∧ holdCopy.handle = h3 ∧
    (lookup0.engine 0).phase ≠ .free ∧ lookup0.ownWork = none := by
  unfold State.Serving State.Resolves
  decide +kernel

theorem witness_ExtractCompletesTheLookup :
    (waitingLookup.held = false ∧ waitingLookup.outbox.get 0 = [.extract h3 .executive extract0] ∧
      (waitingLookup.execLink.request.map (·.waiting)) = some (some ⟨0, h3⟩) ∧
      h3 = waitingLookup.handleOf 3 ∧ waitingLookup.record 3 = some (record0 .running 0)) ∧
    ((sent (onStep (busy holdCopy)) (.extract h3 .executive extract0)).link .executive).request =
      none := by decide +kernel

/-- A PROBE of the state with a handle is served. -/
def probes (s : State) (h : Handle) : Prop :=
  (asks s .executive .probe 0 (h.bytes ++ [0x00#8])).Serving .executive .probe
    (req .probe 0 (h.bytes ++ [0x00#8])) ∧
  readAll readProbeBody (h.bytes ++ [0x00#8]) = some (h, .state) ∧
  (s.record h.index).all (·.intact) = true

theorem witness_ProbeReportsAField :
    ((about .held 0 .probe 3 (h3.bytes ++ [0x07#8])).Serving .executive .probe
        (req .probe 3 (h3.bytes ++ [0x07#8])) ∧
      readAll readProbeBody (h3.bytes ++ [0x07#8]) = some (h3, .hold) ∧
      (about .held 0 .probe 3 (h3.bytes ++ [0x07#8])).Resolves h3 3 (record0 .held 0)) ∧
    probes (station .held 0) Handle.null ∧
    (probes (station .held 0) k2 ∧ k2 ≠ Handle.null ∧ k2.table = .model) ∧
    (probes small ⟨.shelf, 16, 1⟩ ∧ small.straps.table = 16) ∧
    (probes small ⟨.shelf, 15, 1⟩ ∧ small.record 15 = none ∧ (small.slot 15).gen = 1) ∧
    (probes (station .held 0) ⟨.shelf, 3, 4⟩ ∧ (station .held 0).record 3 ≠ none ∧
      4 ≠ ((station .held 0).slot 3).gen) ∧
    (probes (station .held 0) ⟨.shelf, 31, 2⟩ ∧ (station .held 0).record 31 = none ∧
      2 ≠ ((station .held 0).slot 31).gen ∧ 31 < (station .held 0).straps.table) := by
  unfold probes State.Serving State.Resolves
  decide +kernel

def find0 : FindBody := ⟨serial0, 4095, 4, 3⟩
theorem witness_FindScansUpward :
    let s := about .ready 0 .find 0 findBody
    s.Serving .executive .find (req .find 0 findBody) ∧ readAll readFindBody findBody = some find0 ∧
    s.record 3 = some (record0 .ready 0) ∧
    (find0.start ≤ 3 ∧ find0.filter.testBit (record0 .ready 0).state.code = true ∧
      find0.pattern = (record0 .ready 0).serial) ∧
    ((station .staged 0).record 3).map (fun r => find0.filter.testBit r.state.code) = some false := by
  unfold State.Serving
  decide +kernel

/-- An AMEND about slot 3 is served and permitted. -/
def amends (st : RecState) (tier : Nat) (item : Byte) (v : List Byte) (value : AmendValue) : Prop :=
  (about st 0 .amend tier (amend item v)).Serving .executive .amend (req .amend tier (amend item v)) ∧
  readAll readAmendBody (amend item v) = some (h3, value) ∧
  (about st 0 .amend tier (amend item v)).Permitted (req .amend tier (amend item v)) h3 3
    (record0 st 0)

theorem witness_AmendPriorityMovesTheRecord :
    (amends .queued 1 0x00#8 [0x07#8] (.priority 7) ∧ (record0 .queued 0).engaged = none) ∧
    amends .ready 1 0x00#8 [0x00#8] (.priority 0) ∧ amends .ready 1 0x00#8 [0x08#8] (.priority 8) ∧
    ((asks safe0 .executive .amend 1 (amend 0x00#8 [0x07#8])).Serving .executive .amend
        (req .amend 1 (amend 0x00#8 [0x07#8])) ∧
      (asks safe0 .executive .amend 1 (amend 0x00#8 [0x07#8])).Permitted
        (req .amend 1 (amend 0x00#8 [0x07#8])) h3 3 (record0 .queued 0) ∧
      safe0.QueueOrdered ∧ safe0.store.queue = [3, 0]) := by
  unfold amends State.Serving State.Permitted State.Resolves State.QueueOrdered
  decide +kernel

/-- An AMEND of the priority of the RUNNING record in slot 3, whose engine 0 is in a phase of its own, with
the two wait lists given. -/
def rerank (p : Byte) (en : Engine) (feed : List FeedWait) (banks : List BankWait)
    (serves : Bool) : State :=
  let s := asks (onStep { en with copy := some holdCopy, stepLevel := 900 }) .executive .amend 1
    (amend 0x00#8 [p])
  { s with
    feed := { s.feed with waits := feed }
    arb := { s.arb with
      waits := banks, service := if serves then some ⟨3, 900, 7, 1, [], .active⟩ else none
      roster := s.arb.roster.put 7 ⟨.idle, 1000, none, none, 0, none⟩ } }

/-- The hypotheses on the record and its engine. -/
def reranks (s : State) (p : Byte) : Prop :=
  s.Serving .executive .amend (req .amend 1 (amend 0x00#8 [p])) ∧
  readAll readAmendBody (amend 0x00#8 [p]) = some (h3, .priority p.toNat) ∧
  s.Permitted (req .amend 1 (amend 0x00#8 [p])) h3 3 (record0 .running 0) ∧
  (record0 .running 0).engaged = some 0 ∧ (s.engine 0).copy = some holdCopy ∧
  holdCopy.handle = h3 ∧ (s.engine 0).phase ≠ .free ∧ p.toNat ≤ 7 ∧ s.ownWork = none ∧
  (s.feed.waits.map (·.engine)).Nodup ∧ (s.arb.waits.map (·.engine)).Nodup

def reserving : Engine := { Engine.free with phase := .reserve, reservation := .waiting 4000 }
def acquiring : Engine := { Engine.free with phase := .acquire, bankReq := .waiting }

/-- Behind a submission of 6000, one of 4000 that fits: 1125 are held and 5500 may be. -/
def feedSwap : State := rerank 0x00#8 reserving [⟨1, 6000, 1, 5, 3⟩, ⟨0, 4000, 1, 5, 4⟩] [] true
/-- Behind a need of 9000, one of 900 that the idle bank 7 meets. -/
def bankSwap : State := rerank 0x00#8 acquiring [] [⟨1, 9000, 1, 5, 3⟩, ⟨0, 900, 1, 5, 4⟩] false
/-- Behind and ahead of others, where nothing can be admitted. -/
def middle (p : Byte) : State :=
  rerank p reserving [⟨1, 6000, 1, 5, 3⟩, ⟨0, 5000, 2, 5, 4⟩, ⟨2, 6000, 3, 5, 1⟩]
    [⟨4, 9000, 1, 5, 3⟩, ⟨0, 9000, 2, 5, 4⟩, ⟨5, 9000, 3, 5, 1⟩] false

theorem witness_AmendPriorityReachesTheEngine :
    (reranks (rerank 0x07#8 (busy holdCopy) [] [] false) 0x07#8 ∧
      (rerank 0x07#8 (busy holdCopy) [] [] false).WaitListsOrdered) ∧
    (∀ p ∈ [0x00#8, 0x01#8, 0x03#8, 0x07#8], reranks (middle p) p ∧ (middle p).WaitListsOrdered ∧
      (∀ w ∈ (middle p).feed.waits,
        (middle p).feed.budget - (middle p).feed.guard < (middle p).feed.total + w.amount) ∧
      ∀ w ∈ (middle p).arb.waits, (((middle p).addresses.filter fun b =>
        ((middle p).bank b).state = .idle).map fun b => ((middle p).bank b).cap).sum < w.need) ∧
    (reranks feedSwap 0x00#8 ∧ (0x00#8 : Byte).toNat < 1 ∧ feedSwap.feed.window = .normal ∧
      feedSwap.feed.total + 4000 ≤ feedSwap.feed.budget - feedSwap.feed.guard ∧
      feedSwap.feed.budget - feedSwap.feed.guard < feedSwap.feed.total + 4000 + 6000 ∧
      feedSwap.arb.service ≠ none ∧ (feedSwap.engine 0).stepLevel = 900 ∧
      900 ≤ feedSwap.totalOnline) ∧
    (reranks bankSwap 0x00#8 ∧ bankSwap.arb.service = none ∧
      bankSwap.chooseBanks 900 0 bankSwap.idleBanks = some [7]) := by
  unfold reranks State.WaitListsOrdered State.Serving State.Permitted State.Resolves
  decide +kernel

theorem witness_AmendGuardLevelAndNote :
    amends .running 1 0x01#8 [0x03#8] (.guardLevel 3) ∧
    amends .running 1 0x01#8 [0x04#8] (.guardLevel 4) ∧
    amends .running 1 0x02#8 [0xFF#8, 0xFF#8] (.note 65535) := by
  unfold amends State.Serving State.Permitted State.Resolves
  decide +kernel

/-- A second ACTIVE model in slot 15, for a record moved from the one to the other. -/
def k15 : Handle := ⟨.model, 15, 1⟩
def model15 : Model := ({ model0 .active 0 with name := List.replicate 8 0x4E#8 } : Model).seal
def twoModels : State := (about .passed 0 .amend 0 (amend 0x03#8 k15.bytes)).setModelSlot 15 ⟨1, some model15⟩

theorem witness_AmendModelHandleMovesOneReference :
    (twoModels.Serving .executive .amend (req .amend 0 (amend 0x03#8 k15.bytes)) ∧
      readAll readAmendBody (amend 0x03#8 k15.bytes) = some (h3, .model k15) ∧
      twoModels.Permitted (req .amend 0 (amend 0x03#8 k15.bytes)) h3 3 (record0 .passed 0) ∧
      twoModels.ResolvesModel k15 15 model15 ∧ model15.state = .active ∧
      (record0 .passed 0).modules.length ≤ model15.params.mRated.getD 0 ∧
      (record0 .passed 0).model = twoModels.modelHandleOf 2 ∧
      twoModels.model 2 = some (model0 .active 1)) ∧
    (amends .staged 0 0x03#8 k2.bytes (.model k2) ∧
      (about .staged 0 .amend 0 (amend 0x03#8 k2.bytes)).ResolvesModel k2 2 (model0 .active 1)) := by
  unfold amends State.Serving State.Permitted State.Resolves State.ResolvesModel
  decide +kernel

/-- R58: an AMEND about slot 3 is served, permitted and refused. -/
def amendFails (c : Instr) (st : RecState) (item : Byte) (v : List Byte) (value : AmendValue)
    (o : Code) : Prop :=
  amends st 0 item v value ∧ outcome (run c (about st 0 .amend 0 (amend item v))) .executive = some o

/-- R58, R61: the refusals of an AMEND of the model handle. -/
theorem witness_AmendModelHandleMovesOneReference_refusals :
    (∀ k ∈ [(RecState.running, k2, Code.engaged), (.queued, k2, .wrongState),
      (.held, Handle.null, .nullHandle), (.held, h3, .wrongTable), (.held, ⟨.model, 16, 1⟩, .outOfRange),
      (.held, ⟨.model, 5, 1⟩, .absent), (.held, ⟨.model, 2, 4⟩, .stale)],
      amendFails (.amendModelHandle .executive) k.1 0x03#8 k.2.1.bytes (.model k.2.1) k.2.2) ∧
    ∀ k ∈ [(modelWith .draft true, Code.modelNotActive), (modelWith .active false, .modelNotActive),
      (modelWith .doubtful false, .modelNotActive),
      (({ model0 .active 1 with params := { params0 with mRated := some 1 } } : Model).seal, .badField)],
      outcome (run (.amendModelHandle .executive)
        (withModel k.1 (about .held 0 .amend 0 (amend 0x03#8 k2.bytes)))) .executive = some k.2 := by
  unfold amendFails amends State.Serving State.Permitted State.Resolves
  decide +kernel

/-- R58, R63, R64: the refusals of the three items of the module list. -/
theorem witness_ModuleListAmends_refusals :
    let entry := fun n : Nat => (⟨n, List.replicate 10 0x42#8, true, none⟩ : ModuleEntry)
    (∀ k ∈ [(RecState.running, 7, Code.badField), (.running, 6, .engaged), (.queued, 6, .wrongState),
        (.ready, 5, .duplicate)],
      amendFails (.addModule .executive) k.1 0x04#8 (entry k.2.1).bytes (.addModule (entry k.2.1)) k.2.2) ∧
    (∀ k ∈ [(RecState.running, 0, Code.badField), (.running, 1, .engaged), (.queued, 6, .wrongState)],
      amendFails (.dropModule .executive) k.1 0x05#8 [byteOf k.2.1] (.dropModule k.2.1) k.2.2 ∧
      amendFails (.amendPresentFlag .executive) k.1 0x06#8 [byteOf k.2.1, 0x01#8]
        (.present k.2.1 true) k.2.2) ∧
    (let x := ({ model0 .active 1 with params := { params0 with mRated := some 5 } } : Model).seal;
      let s := withModel x (about .ready 0 .amend 0 (amend 0x04#8 (entry 6).bytes));
      s.model 2 = some x ∧ x.params.mRated.getD 0 < (record0 .ready 0).modules.length + 1 ∧
      outcome (run (.addModule .executive) s) .executive = some .badField) := by
  unfold amendFails amends State.Serving State.Permitted State.Resolves
  decide +kernel

def oneModule : State :=
  (about .ready 0 .amend 0 (amend 0x05#8 [0x01#8])).setSlot 3
    ⟨5, some ({ record0 .ready 0 with modules := modules0.take 1 } : ShelfRecord).seal⟩

theorem witness_ModuleListAmends :
    (amends .ready 0 0x04#8 module6 (.addModule ⟨6, List.replicate 10 0x42#8, true, none⟩) ∧
      (⟨6, List.replicate 10 0x42#8, true, none⟩ : ModuleEntry).inRange = true ∧
      (∀ v ∈ (record0 .ready 0).modules, v.slot ≠ 6) ∧
      (record0 .ready 0).modules.length + 1 ≤ (model0 .active 1).params.mRated.getD 0 ∧
      (record0 .ready 0).modules.Pairwise (fun a b => a.slot < b.slot)) ∧
    (amends .ready 0 0x05#8 [0x06#8] (.dropModule 6) ∧
      ∀ v ∈ (record0 .ready 0).modules, v.slot ≠ 6) ∧
    (oneModule.Serving .executive .amend (req .amend 0 (amend 0x05#8 [0x01#8])) ∧
      readAll readAmendBody (amend 0x05#8 [0x01#8]) = some (h3, .dropModule 1) ∧
      ((oneModule.record 3).map (·.modules.length)) = some 1) ∧
    (amends .ready 0 0x05#8 [0x01#8] (.dropModule 1) ∧ (record0 .ready 0).modules.length ≠ 1) ∧
    amends .ready 0 0x06#8 [0x06#8, 0x01#8] (.present 6 true) ∧
    (amends .ready 0 0x06#8 [0x01#8, 0x00#8] (.present 1 false) ∧
      ∃ v ∈ (record0 .ready 0).modules, v.slot = 1) := by
  unfold amends State.Serving State.Permitted State.Resolves
  decide +kernel

theorem witness_BindAndUnbind :
    (let s := about .staged 0 .bind 1 (h3.bytes ++ [0x17#8]);
      s.Serving .executive .bind (req .bind 1 (h3.bytes ++ [0x17#8])) ∧
      readAll readBindBody (h3.bytes ++ [0x17#8]) = some (h3, 23) ∧
      s.Permitted (req .bind 1 (h3.bytes ++ [0x17#8])) h3 3 (record0 .staged 0) ∧
      23 < s.straps.bays ∧ (s.bay 23).binding = none) ∧
    (let s := about .held 0 .bind 1 [0x00#8, 0x00#8, 0x04#8];
      s.Serving .executive .bind (req .bind 1 [0x00#8, 0x00#8, 0x04#8]) ∧
      readAll readBindBody [0x00#8, 0x00#8, 0x04#8] = some (Handle.null, 4) ∧
      (s.bay 4).binding = some (s.handleOf 3) ∧ s.record 3 = some (record0 .held 0) ∧
      (record0 .held 0).intact = true) := by
  unfold State.Serving State.Permitted State.Resolves
  decide +kernel

/-- R80, R81: the refusals of BIND and UNBIND. -/
theorem witness_BindAndUnbind_refusals :
    (∀ k ∈ [(RecState.staged, 24, Code.outOfRange), (.held, 23, .wrongState)],
      let s := about k.1 0 .bind 1 (h3.bytes ++ [byteOf k.2.1]);
      s.Serving .executive .bind (req .bind 1 (h3.bytes ++ [byteOf k.2.1])) ∧
      readAll readBindBody (h3.bytes ++ [byteOf k.2.1]) = some (h3, k.2.1) ∧
      s.Permitted (req .bind 1 (h3.bytes ++ [byteOf k.2.1])) h3 3 (record0 k.1 0) ∧
      outcome (run (.bindBay .executive) s) .executive = some k.2.2) ∧
    (let s := (about .staged 0 .bind 1 (h3.bytes ++ [0x04#8]));
      outcome (run (.bindBay .executive) (s.setBay 4 { s.bay 4 with binding := some h3 })) .executive =
        some .bayOccupied) ∧
    (∀ k ∈ [(RecState.held, 24, 1, Code.outOfRange), (.held, 23, 1, .absent), (.doubtful, 4, 1, .doubtful),
        (.held, 4, 2, .guarded), (.queued, 4, 1, .wrongState), (.running, 4, 1, .wrongState)],
      let body := Handle.null.bytes ++ [byteOf k.2.1];
      let s := about k.1 0 .bind k.2.2.1 body;
      s.Serving .executive .bind (req .bind k.2.2.1 body) ∧
      readAll readBindBody body = some (Handle.null, k.2.1) ∧
      (s.bay 4).binding = some (s.handleOf 3) ∧ s.record 3 = some (record0 k.1 0) ∧
      outcome (run (.unbindBay .executive) s) .executive = some k.2.2.2) ∧
    (let s := damaged .bind 1 (Handle.null.bytes ++ [0x04#8]);
      (s.bay 4).binding = some (s.handleOf 3) ∧
      ((run (.unbindBay .executive) s).record 3).map (·.state) = some .doubtful ∧
      outcome (run (.unbindBay .executive) s) .executive = some .doubtful) := by
  unfold State.Serving State.Permitted State.Resolves
  decide +kernel

/-- A request with the handle of slot 3 is served, permitted and refused. -/
def handleFails (s : State) (code : ReqCode) (r : ShelfRecord) (c : Instr) (o : Code) : Prop :=
  let t := asks s .executive code 1 h3.bytes
  t.Serving .executive code (req code 1 h3.bytes) ∧ t.Permitted (req code 1 h3.bytes) h3 3 r ∧
  outcome (run c t) .executive = some o

/-- The station with bay 4 not seated. -/
def seatDown (s : State) : State := s.setBay 4 { s.bay 4 with seated := false }

/-- R65 to R67, R69: the refusals of START, RESUME, ABORT and RELEASE. -/
theorem witness_record_requests_refused_by_state :
    (∀ st ∈ [RecState.staged, .bound, .queued, .running, .held],
      handleFails (station st 0) .start (record0 st 0) (.start .executive) .wrongState) ∧
    (∀ st ∈ [RecState.passed, .failed],
      handleFails (seatDown (station st 0)) .start (record0 st 0) (.start .executive) .wrongState) ∧
    (∀ st ∈ [RecState.staged, .bound, .ready, .queued, .running, .passed, .failed],
      handleFails (station st 0) .resume (record0 st 0) (.resume .executive) .wrongState) ∧
    handleFails (seatDown (station .held 0)) .resume (record0 .held 0) (.resume .executive) .wrongState ∧
    (∀ x ∈ [modelWith .draft true, modelWith .active false, modelWith .doubtful false],
      handleFails (withModel x (station .ready 0)) .start (record0 .ready 0) (.start .executive)
        .modelNotActive ∧
      handleFails (withModel x (station .held 0)) .resume (record0 .held 0) (.resume .executive)
        .modelNotActive) ∧
    (∀ k ∈ [(RecState.ready, ReqCode.start, Instr.start .executive),
        (.held, .resume, .resume .executive)],
      let r := ({ record0 k.1 0 with modules := modules0.map fun u => { u with present := false } } :
        ShelfRecord).seal;
      r.mPresent = 0 ∧ handleFails ((station k.1 0).setSlot 3 ⟨5, some r⟩) k.2.1 r k.2.2 .badField) ∧
    (∀ st ∈ [RecState.staged, .bound, .ready, .held, .passed, .failed],
      handleFails (station st 0) .abort (record0 st 0) (.abort .executive) .wrongState) ∧
    handleFails (station .running 0) .release (record0 .running 0) (.release .executive) .engaged := by
  unfold handleFails State.Serving State.Permitted State.Resolves
  decide +kernel

theorem witness_StartAndResumeQueueTheRecord :
    (∀ st ∈ [RecState.ready, .passed, .failed], let s := about st 4 .start 1 h3.bytes;
      s.Serving .executive .start (req .start 1 h3.bytes) ∧ readAll readHandle h3.bytes = some h3 ∧
      s.Permitted (req .start 1 h3.bytes) h3 3 (record0 st 4) ∧ (record0 st 4).bay = some 4 ∧
      (s.bay 4).seated = true ∧ s.ResolvesModel k2 2 (model0 .active 1) ∧
      0 < (record0 st 4).mPresent ∧ s.SeatedAt 4 h3) ∧
    ∀ cursor ∈ [1, 2], let s := about .held cursor .resume 1 h3.bytes;
      s.Serving .executive .resume (req .resume 1 h3.bytes) ∧
      s.Permitted (req .resume 1 h3.bytes) h3 3 (record0 .held cursor) ∧
      (record0 .held cursor).bay = some 4 ∧ (s.bay 4).seated = true ∧
      s.ResolvesModel k2 2 (model0 .active 1) ∧ s.QueueOrdered ∧ s.SeatedAt 4 h3 := by
  unfold State.Serving State.Permitted State.Resolves State.ResolvesModel State.QueueOrdered
    State.SeatedAt
  decide +kernel

def abort0 : State := asks (onStep (busy holdCopy)) .executive .abort 1 h3.bytes

/-- An ABORT in the tick in which the grant of engine 0 was complete, its SETs asked and none sent. -/
def granted0 : State :=
  let s := asks (onStep { busy holdCopy with
    phase := .load, granted := some 1000, setSent := false, detection := .disarmed
    grant := [⟨4, 1600, 1000, true, 0, false⟩, ⟨1, 1000, 1000, true, 0, false⟩] })
    .executive .abort 1 h3.bytes
  { s with arb := { s.arb with asked := [⟨4, .set 1000, true⟩, ⟨1, .set 1000, true⟩] } }

/-- An engine just admitted, its bank request still to be made, with an ABORT of its record. -/
def admitted0 : State :=
  asks (onStep { Engine.free with
    phase := .acquire, copy := some holdCopy, reservation := .held 1125, stepLevel := 2000 })
    .executive .abort 1 h3.bytes

/-- R119: no bank request is made, and the reservation is released. -/
theorem test_abort_after_admission :
    let t := run (.abort .executive) admitted0
    t.engine 0 = Engine.free ∧ t.feed.total = 0 ∧ t.arb = admitted0.arb ∧
    t.outbox.get 0 = [.close h3 0 .hold .aborted none none 1 false] := by decide +kernel

/-- ABORT of the record of engine 0, which is in another condition. -/
def aborting (en : Engine) : State := asks (onStep en) .executive .abort 1 h3.bytes

/-- In RESERVE, with its submission waiting or not yet made. -/
def abortInReserve (waits : Bool) : State :=
  let s := aborting { Engine.free with
    phase := .reserve, copy := some holdCopy
    reservation := if waits then .waiting 700 else .none }
  { s with feed := { s.feed with
    reservations := [⟨1, 1125, 1, 1, false⟩]
    waits := if waits then [⟨0, 700, 1, 4, 0⟩] else [] } }

/-- In ACQUIRE, its request waiting before another. -/
def abortWaiting : State :=
  let s := aborting { Engine.free with
    phase := .acquire, copy := some holdCopy, reservation := .held 1125, bankReq := .waiting }
  { s with arb := { s.arb with waits := [⟨0, 9000, 1, 4, 0⟩, ⟨1, 9000, 1, 6, 0⟩] } }

/-- In ACQUIRE, its request in service: bank 4 is CONNECTED, bank 1 is being connected, with its CONNECT open
or not yet sent, and that of bank 6 is not sent. -/
def abortConnecting (opened : Bool) : State :=
  let s := aborting { Engine.free with
    phase := .acquire, copy := some holdCopy, reservation := .held 1125, bankReq := .connecting }
  { s with arb := { s.arb with
    roster := (s.arb.roster.put 1 ⟨.connecting, 1000, none, none, 0, none⟩).put 6
      ⟨.connecting, 400, none, none, 0, none⟩
    asked := if opened then [] else [⟨1, .connect 4, false⟩]
    exchanges := if opened then s.arb.exchanges.put 1 (some ⟨.connect 4, 990, 1000⟩)
      else s.arb.exchanges
    service := some ⟨0, 2000, 4, 0, [4, 1, 6], .active⟩ } }

/-- R118, R166: with a CONNECT open the engine keeps its phase and the service stands as withdrawn; with none
open it closes. -/
theorem test_abort_while_connecting :
    (let t := run (.abort .executive) (abortConnecting true);
      (t.engine 0).phase = .acquire ∧ (t.engine 0).stop = some .aborted ∧
      t.arb.service.map (·.status) = some .withdrawn ∧ (t.bank 6).state = .idle ∧
      (t.bank 4).state = .releasing ∧ (t.bank 1).state = .connecting) ∧
    (let t := run (.abort .executive) (abortConnecting false);
      t.engine 0 = Engine.free ∧ t.arb.service = none ∧ (t.bank 1).state = .idle ∧
      t.arb.asked = [⟨4, .release, false⟩] ∧ t.feed.total = 0) := by decide +kernel

/-- R118: in the WATCH of a step of level 0, with no bank held, the engine closes with ABORTED. -/
theorem test_abort_at_level_0 :
    let s := aborting { busy holdCopy with grant := [] }
    let t := run (.abort .executive) s
    (s.engine 0).phase = .watch ∧ t.engine 0 = Engine.free ∧ t.arb = s.arb ∧
    t.outbox.get 0 = [.close h3 0 .hold .aborted none none 1 false] := by decide +kernel

/-- The ABORT is served and permitted on the RUNNING record of engine 0. -/
def abortsRunning (s : State) : Prop :=
  s.Serving .executive .abort (req .abort 1 h3.bytes) ∧
  s.Permitted (req .abort 1 h3.bytes) h3 3 (record0 .running 0) ∧
  (s.engine 0).copy = some holdCopy

theorem witness_AbortHoldsOrStops :
    (∀ listing ∈ [true, false], ∀ pulse ∈ [true, false],
      let u := if listing then listed (station .queued 0) else station .queued 0;
      let s := asks { u with straps := { u.straps with pulse := pulse } } .executive .abort 1 h3.bytes;
      s.Serving .executive .abort (req .abort 1 h3.bytes) ∧
      s.Permitted (req .abort 1 h3.bytes) h3 3 (record0 .queued 0) ∧
      s.store.attention.map (·.handle) = if listing then [h3] else []) ∧
    (abortsRunning abort0 ∧ abort0.OnLoad 0 holdCopy ∧ abort0.feed.waits = []) ∧
    (let s := aborting { busy holdCopy with grant := [] };
      abortsRunning s ∧ s.feed.waits = [] ∧ (s.engine 0).phase = .watch ∧ (s.engine 0).grant = [] ∧
      (s.engine 0).verdict = none ∧ (s.engine 0).stop = none) ∧
    (abortsRunning granted0 ∧ granted0.OnLoad 0 holdCopy ∧ granted0.feed.waits = [] ∧
      (granted0.engine 0).phase = .load ∧ (granted0.engine 0).granted = some granted0.now ∧
      (granted0.engine 0).setSent = false) ∧
    (abortsRunning admitted0 ∧ (admitted0.engine 0).phase = .acquire ∧
      (admitted0.engine 0).bankReq = .notMade ∧ (admitted0.engine 0).verdict = none ∧
      (admitted0.engine 0).stop = none ∧ admitted0.feed.waits = []) ∧
    (let s := aborting { busy holdCopy with phase := .unload, stop := some .shed };
      abortsRunning s ∧ (s.engine 0).phase ≠ .free ∧ (s.engine 0).stop = some .shed) ∧
    (let s := aborting { busy holdCopy with phase := .unload, verdict := some ⟨.pass, none, none⟩ };
      abortsRunning s ∧ (s.engine 0).phase ≠ .free ∧ (s.engine 0).phase ≠ .close ∧
      (s.engine 0).stop = none ∧ (s.engine 0).verdict = some ⟨.pass, none, none⟩) ∧
    (∀ waits ∈ [true, false], let s := abortInReserve waits;
      abortsRunning s ∧ (s.engine 0).phase = .reserve ∧ (s.engine 0).verdict = none ∧
      (s.engine 0).stop = none ∧ (∀ w ∈ s.feed.waits, w.engine = 0) ∧
      ∀ x ∈ s.feed.reservations, x.engine ≠ 0) ∧
    (abortsRunning abortWaiting ∧ (abortWaiting.engine 0).phase = .acquire ∧
      (abortWaiting.engine 0).bankReq = .waiting ∧ (abortWaiting.engine 0).verdict = none ∧
      (abortWaiting.engine 0).stop = none ∧ abortWaiting.feed.waits = []) ∧
    (∀ opened ∈ [true, false], let s := abortConnecting opened;
      abortsRunning s ∧ (s.engine 0).phase = .acquire ∧ (s.engine 0).bankReq = .connecting ∧
      (s.engine 0).verdict = none ∧ (s.engine 0).stop = none ∧ s.feed.waits = [] ∧
      s.arb.waits = [] ∧ s.arb.service = some ⟨0, 2000, 4, 0, [4, 1, 6], .active⟩ ∧
      (s.bank 1).state = .connecting ∧ (s.exchange 1).isSome = opened ∧
      (s.bank 4).state = .connected ∧ (s.bank 6).state = .connecting ∧ s.exchange 6 = none) := by
  unfold abortsRunning State.Serving State.Permitted State.Resolves State.OnLoad
  decide +kernel

/-- R119: no SET is sent, and both banks are released at level 0. -/
theorem test_abort_at_the_grant :
    let t := run (.abort .executive) granted0
    t.arb.asked = [⟨4, .release, false⟩, ⟨1, .release, false⟩] ∧ (t.bank 1).level = 0 ∧
    t.feed.total = 0 := by decide +kernel

theorem witness_ReleaseFreesTheSlot :
    let s := about .doubtful 0 .release 1 h3.bytes
    s.Serving .executive .release (req .release 1 h3.bytes) ∧ readAll readHandle h3.bytes = some h3 ∧
    s.Resolves h3 3 (record0 .doubtful 0) ∧ (record0 .doubtful 0).model = s.modelHandleOf 2 ∧
    s.model 2 = some (model0 .active 1) ∧ (s.bay 4).binding = some h3 ∧
    (s.bay 5).binding ≠ some h3 := by
  unfold State.Serving State.Resolves
  decide +kernel

theorem witness_TakeRemovesTheHead :
    (asks empty .executive .take 3 []).Serving .executive .take (req .take 3 []) ∧
    (let s := asks (listed (station .held 0)) .executive .take 3 [];
      s.Serving .executive .take (req .take 3 []) ∧
      s.store.attention = [⟨h3, ⟨true, false, false, true, false⟩⟩] ∧ h3 = s.handleOf 3 ∧
      s.record 3 = some (record0 .held 0)) := by
  unfold State.Serving
  decide +kernel

/-! #### Model and station requests -/

theorem witness_CreateModelPlacesADraft :
    let s := asks (active empty 0) .executive .createModel 0 (name0 ++ be16 255)
    (s.Serving .executive .createModel (req .createModel 0 (name0 ++ be16 255)) ∧
      readAll readCreateBody (name0 ++ be16 255) = some (name0, 255) ∧
      name0.all isSerialChar = true ∧ s.model 0 = none) ∧
    ∀ n x, s.model n = some x → ¬(x.name = name0 ∧ x.revision = 255) :=
  ⟨by unfold State.Serving; decide +kernel, of_models (by decide +kernel)⟩

/-- An edit of the DRAFT in slot 2 with one item is served and in range. -/
def edits (body : List Byte) (item : EditItem) : Prop :=
  let s := asks (draft empty 0) .executive .editModel 0 (k2.bytes ++ body)
  s.Serving .executive .editModel (req .editModel 0 (k2.bytes ++ body)) ∧
  readAll readEditBody (k2.bytes ++ body) = some (k2, item) ∧
  s.ResolvesModel k2 2 (model0 .draft 0) ∧ item.inRange = true

theorem witness_EditModelStoresOneItem :
    (edits (0x00#8 :: List.replicate 8 0x5A#8) (.name (List.replicate 8 0x5A#8)) ∧
      ∀ n, n ≠ 2 → (draft empty 0).model n = none) ∧
    edits (0x0B#8 :: be32 120000) (.param .pCap 120000) ∧
    edits [0x08#8, 0x00#8] (.restartMode 0) ∧ edits [0x08#8, 0x01#8] (.restartMode 1) ∧
    edits (0x0C#8 :: 0x02#8 :: (beInt16 (-400) ++ be32 120000 ++ beInt16 1250 ++ be32 0))
      (.curve [⟨-400, 120000⟩, ⟨1250, 0⟩]) ∧
    edits [0x16#8, 0x01#8, 0x03#8] (.plan (some [.derate])) := by
  unfold edits State.Serving State.ResolvesModel
  decide +kernel

/-- R37 to R41: a model request is served and refused. -/
def modelFails (s : State) (code : ReqCode) (body : List Byte) (c : Instr) (o : Code) : Prop :=
  let t := asks s .executive code 0 body
  t.Serving .executive code (req code 0 body) ∧ outcome (run c t) .executive = some o

/-- A station whose 16 model slots are in use. -/
def fullModels : State :=
  (List.finRange 16).foldl (fun s m => s.setModelSlot m ⟨3, some (model0 .active 0)⟩) empty

/-- The ACTIVE model in slot 2 at a revision, with another of the revision 8 in slot 3. -/
def rivals (st : ModelState) (revision count : Nat) : State :=
  (empty.setModelSlot 2 ⟨3, some ({ model0 st count with revision := revision } : Model).seal⟩).setModelSlot
    3 ⟨1, some ({ model0 .active 0 with revision := 8 } : Model).seal⟩

/-- R37 to R40: the refusals of the model requests, each with the checks ahead of it passed. -/
theorem witness_model_requests_refused :
    modelFails empty .createModel (name0 ++ be16 256) (.createModel .executive) .badField ∧
    modelFails (active empty 0) .createModel (name0 ++ be16 1) (.createModel .executive) .duplicate ∧
    (modelFails fullModels .createModel (name0 ++ be16 9) (.createModel .executive) .tableFull ∧
      (∀ m, fullModels.model m ≠ none) ∧ fullModels.nameTaken none name0 9 = false) ∧
    modelFails (active empty 0) .editModel (k2.bytes ++ [0x08#8, 0x00#8]) (.editModel .executive)
      .wrongState ∧
    modelFails (draft empty 0) .editModel (k2.bytes ++ [0x08#8, 0x02#8]) (.editModel .executive)
      .badField ∧
    modelFails (rivals .draft 8 0) .editModel (k2.bytes ++ 0x00#8 :: name0) (.editModel .executive)
      .duplicate ∧
    modelFails (active empty 0) .activate k2.bytes (.activate .executive) .wrongState ∧
    modelFails (draft empty 0) .revise k2.bytes (.revise .executive) .wrongState ∧
    modelFails (rivals .active 255 1) .revise k2.bytes (.revise .executive) .modelInUse ∧
    modelFails (rivals .active 255 0) .revise k2.bytes (.revise .executive) .badField ∧
    modelFails (rivals .active 7 0) .revise k2.bytes (.revise .executive) .duplicate := by
  unfold modelFails State.Serving
  decide +kernel

/-- The step at index `k` keeps the pairing. -/
def paired (plan : List PlanStep) (k : Nat) : Bool :=
  match plan[k]? with
  | some (.trip _) => plan[k + 1]? = some .restart
  | some .restart =>
    match k with
    | 0 => false
    | n + 1 => match plan[n]? with
      | some (.trip _) => true
      | _ => false
  | _ => true

theorem of_pairs {plan : List PlanStep} (h : ∀ k : Fin plan.length, paired plan k = true) :
    ∀ k, ¬PairingBreaks plan k := by
  intro k hb
  have hk : k < plan.length := by
    rcases hb with ⟨lv, h1, -⟩ | ⟨h1, -⟩ <;> exact (List.getElem?_eq_some_iff.mp h1).1
  have hx := h ⟨k, hk⟩
  rcases hb with ⟨lv, h1, h2⟩ | ⟨h1, h2⟩
  · simp only [paired, h1, decide_eq_true_eq] at hx
    exact h2 hx
  · cases k with
    | zero => simp [paired, h1] at hx
    | succ n =>
      simp only [paired, h1] at hx
      split at hx
      · exact h2 n _ rfl ‹_›
      · cases hx

/-- The model of the tests with another plan. -/
def planned (plan : List PlanStep) : Model := ({ model0 .draft 0 with plan := plan } : Model).seal

theorem planned_passes (plan : List PlanStep) : ∀ n, n < 24 → (planned plan).Passes n := by
  intro n hn
  have e : (planned plan).params = params0 := rfl
  have k : (planned plan).curve = curve0 := rfl
  match n, hn with
  | n + 24, h => omega
  | 14, _ =>
    intro j a b ha hb
    rw [k] at ha hb
    have hj := (List.getElem?_eq_some_iff.mp hb).1
    have : ∀ j : Fin 3, ((curve0[j.val]?).bind fun a => (curve0[j.val + 1]?).map fun b =>
      decide (a.temp < b.temp)) = some true := by decide
    have := this ⟨j, by simp [curve0] at hj; omega⟩
    simpa [ha, hb] using this
  | 15, _ =>
    intro c hc x hx
    rw [e] at hc
    cases hc
    exact (by decide : ∀ x ∈ curve0, x.power ≤ 33000) x hx
  | 5, _ | 8, _ | 17, _ => intro a b ha hb; rw [e] at ha hb; cases ha; cases hb; decide
  | 0, _ | 1, _ | 2, _ | 3, _ | 4, _ | 6, _ | 7, _ | 9, _ | 10, _ | 11, _ | 12, _ | 13, _ | 16, _
  | 18, _ | 19, _ | 20, _ | 21, _ | 22, _ | 23, _ => simp [Model.Passes, e, k, params0, curve0]

theorem model0_passes : ∀ n, (planned [.hold 800 2000, .trip 1500, .restart, .derate]).Passes n
  | 24 => by simp [Model.Passes, planned, Model.seal]
  | 25 => of_pairs (by decide)
  | n + 26 => trivial
  | 0 | 1 | 2 | 3 | 4 | 5 | 6 | 7 | 8 | 9 | 10 | 11 | 12 | 13 | 14 | 15 | 16 | 17 | 18 | 19 | 20
  | 21 | 22 | 23 => planned_passes _ _ (by decide)

/-- A plan whose TRIP step no RESTART step follows fails item 25, and no item before it. -/
theorem unpaired_fails : ¬(planned [.trip 1000]).Passes 25 ∧
    ∀ n, n < 25 → (planned [.trip 1000]).Passes n := by
  refine ⟨fun h => h 0 (.inl ⟨1000, rfl, by decide⟩), fun n hn => ?_⟩
  by_cases h : n < 24
  · exact planned_passes _ n h
  · obtain rfl : n = 24 := by omega
    exact List.cons_ne_nil _ _

theorem witness_ActivateChecksTheDescriptor :
    (let s := asks (draft empty 0) .executive .activate 0 k2.bytes;
      (s.Serving .executive .activate (req .activate 0 k2.bytes) ∧
        readAll readHandle k2.bytes = some k2 ∧
        s.ResolvesModel k2 2 (planned [.hold 800 2000, .trip 1500, .restart, .derate])) ∧
      (∀ n, (planned [.hold 800 2000, .trip 1500, .restart, .derate]).Passes n)) ∧
    (let s := (asks empty .executive .activate 0 k2.bytes).setModelSlot 2 ⟨3, some (planned [.trip 1000])⟩;
      (s.Serving .executive .activate (req .activate 0 k2.bytes) ∧
        s.ResolvesModel k2 2 (planned [.trip 1000]) ∧ (planned [.trip 1000]).state = .draft) ∧
      ¬(planned [.trip 1000]).Passes 25 ∧ ∀ n, n < 25 → (planned [.trip 1000]).Passes n) :=
  ⟨⟨by unfold State.Serving State.ResolvesModel; decide +kernel, model0_passes⟩,
    by unfold State.Serving State.ResolvesModel; decide +kernel, unpaired_fails⟩

def revised : Model := ({ model0 .active 0 with revision := 254 } : Model).seal

theorem witness_ReviseAndDiscardAnUnusedModel :
    (let s := (asks empty .executive .revise 0 k2.bytes).setModelSlot 2 ⟨3, some revised⟩;
      s.Serving .executive .revise (req .revise 0 k2.bytes) ∧ readAll readHandle k2.bytes = some k2 ∧
      s.ResolvesModel k2 2 revised ∧ revised.refCount = 0 ∧ revised.revision < 255 ∧
      ∀ n, n ≠ 2 → s.model n = none) ∧
    (let s := asks (draft empty 0) .executive .discard 0 k2.bytes;
      s.Serving .executive .discard (req .discard 0 k2.bytes) ∧
      s.ResolvesModel k2 2 (model0 .draft 0)) ∧
    (∀ code ∈ [ReqCode.revise, .discard], let s := asks (active empty 1) .executive code 0 k2.bytes;
      s.Serving .executive code (req code 0 k2.bytes) ∧ s.ResolvesModel k2 2 (model0 .active 1) ∧
      0 < (model0 .active 1).refCount) := by
  unfold State.Serving State.ResolvesModel
  decide +kernel

theorem witness_FeedSettingsAreStored :
    (let s := asks empty .executive .setBudget 0 (be16 60000 ++ be16 60000);
      s.Serving .executive .setBudget (req .setBudget 0 (be16 60000 ++ be16 60000)) ∧
      readAll readBudgetBody (be16 60000 ++ be16 60000) = some (60000, 60000) ∧ s.feed.waits = []) ∧
    (budget0.Serving .executive .setBudget (req .setBudget 0 (be16 2600 ++ be16 5)) ∧
      readAll readBudgetBody (be16 2600 ++ be16 5) = some (2600, 5) ∧
      budget0.feed.waits = [⟨0, 2595, 1, 4, 0⟩] ∧ budget0.feed.window = .normal ∧
      budget0.feed.total + 2595 ≤ 2600 - min 5 2600 ∧
      budget0.arb.service = some ⟨1, 500, 9, 0, [], .active⟩ ∧
      (budget0.engine 0).copy = some derateCopy ∧ (budget0.engine 0).stepLevel = 4612 ∧
      4612 ≤ budget0.totalOnline ∧ budget0.settled = budget0) ∧
    (let s := asks taken0 .executive .setBudget 0 (be16 1000 ++ be16 0);
      s.Serving .executive .setBudget (req .setBudget 0 (be16 1000 ++ be16 0)) ∧
      s.feed.total = 0 ∧ s.settled ≠ s ∧ s.settled.feed.waits = []) ∧
    (let s := asks empty .executive .setFeedWindow 0 (be16 4000 ++ be16 4100);
      s.Serving .executive .setFeedWindow (req .setFeedWindow 0 (be16 4000 ++ be16 4100)) ∧
      readAll readWindowBody (be16 4000 ++ be16 4100) = some (4000, 4100)) := by
  unfold State.Serving
  decide +kernel

theorem witness_StationReportsReadTheState :
    (asks safe0 .console .bankStatus 0 []).Serving .console .bankStatus (req .bankStatus 0 []) ∧
    (asks safe0 .console .stationStatus 0 []).Serving .console .stationStatus
      (req .stationStatus 0 []) ∧
    ((asks taken0 .console .bankStatus 0 []).Serving .console .bankStatus (req .bankStatus 0 []) ∧
      (asks taken0 .console .bankStatus 0 []).settled ≠ asks taken0 .console .bankStatus 0 []) := by
  unfold State.Serving
  decide +kernel

/-- A soft reset on the console while a LOOKUP of the executive waits and an exchange is open. -/
def softReset0 : State :=
  let s := asks (polled waitingLookup .release) .console .reset 0 []
  s.setBank 1 ⟨.releasing, 1000, some 4, some 0, 0, none⟩

theorem witness_SoftResetReturnsTheStation :
    softReset0.Serving .console .reset (req .reset 0 []) ∧
    ((softReset0.link .executive).request.map (·.waiting) = some (some ⟨0, h3⟩) ∧
      softReset0.record 3 = some (record0 .running 0) ∧ softReset0.exchange 1 ≠ none ∧
      (softReset0.bank 1).state ≠ .offline ∧ (softReset0.bank 0).state = .offline) ∧
    ((asks safe0 .executive .reset 0 []).Serving .executive .reset (req .reset 0 []) ∧
      (safe0.link .console).request = none) := by
  unfold State.Serving
  decide +kernel

theorem witness_FeedAtASoftReset :
    softReset0.Serving .console .reset (req .reset 0 []) ∧ softReset0.feed.reservations ≠ [] := by
  unfold State.Serving
  decide +kernel

/-! #### Links, scrubs and bay lines -/

theorem witness_EffectiveTierIsFixedAtDelivery :
    (empty.held = false ∧ ReqCode.ofByte 0x11#8 ≠ none ∧ (List.replicate 120 0x00#8).length ≤ 120 ∧
      empty.execLink.request = none ∧ empty.execLink.unread = none) ∧
    (empty.straps.console = true ∧ empty.consoleLink.request = none ∧
      empty.consoleLink.unread = none ∧ empty.rx = none) ∧
    (exec (.lookup .executive) lookup0 = .next (run (.lookup .executive) lookup0) ∧
      (lookup0.link .executive).request ≠ none ∧
      ((run (.lookup .executive) lookup0).link .executive).request ≠ none) :=
  ⟨by decide +kernel, by decide +kernel, exec_run (by decide +kernel), by decide +kernel⟩

theorem of_crc {bytes : List Byte} (h : bytes ≠ withCrc16 (bytes.take (bytes.length - 2))) :
    ∀ front, bytes ≠ withCrc16 front := by
  intro front e
  subst e
  apply h
  simp [withCrc16, be16]

/-- A frame whose last byte is changed, and one of 121 body bytes. -/
def badCode : List Byte := frame0.take 7 ++ [0xFF#8]
def tooLong : List Byte := withCrc16 ([0x11#8, 0x00#8, 0x2A#8, 0x79#8] ++ List.replicate 121 0x00#8)

/-- R187, R188, R200: on the console, a wrong length, a wrong check code and an unknown code. -/
theorem test_console_frames_that_fail :
    [tooLong, badCode, withCrc16 [0x00#8, 0x00#8, 0x2A#8, 0x00#8]].map (fun b =>
      outcome (run (.requestFrame .console (0x7E#8 :: b)) empty) .console) =
      [some .frameError, some .frameError, some .unknownRequest] ∧
    (run (.requestFrame .console (0x7E#8 :: frame0)) (asks empty .console .take 0 [])).consoleLink.overrun =
      true := by decide +kernel

theorem witness_FramesThatFailAreAnswered_console :
    (empty.held = false ∧ empty.straps.console = true ∧ empty.rx = none ∧
      empty.consoleLink.request = none ∧ empty.consoleLink.unread = none) ∧
    (tooLong[3]? = some 0x79#8 ∧ tooLong.length = (0x79#8 : Byte).toNat + 6 ∧
      120 < (0x79#8 : Byte).toNat) ∧
    (badCode[3]? = some 0x02#8 ∧ badCode.length = (0x02#8 : Byte).toNat + 6) ∧
    (∀ front, badCode ≠ withCrc16 front) ∧
    ((withCrc16 [0x00#8, 0x00#8, 0x2A#8, 0x00#8])[3]? = some 0x00#8 ∧
      (withCrc16 [0x00#8, 0x00#8, 0x2A#8, 0x00#8]).length = (0x00#8 : Byte).toNat + 6) ∧
    ((asks empty .console .take 0 []).consoleLink.request ≠ none ∧
      (asks empty .console .take 0 []).rx = none ∧ frame0[3]? = some 0x02#8 ∧
      frame0.length = (0x02#8 : Byte).toNat + 6) :=
  ⟨by decide +kernel, by decide +kernel, by decide +kernel, of_crc (by decide +kernel),
    by decide +kernel, by decide +kernel⟩

theorem witness_FramesThatFailAreAnswered :
    (empty.held = false ∧ empty.execLink.request = none ∧ empty.execLink.unread = none ∧
      [0x11#8, 0x00#8, 0x2A#8].length < 4 ∧ frame0.length = 8 ∧
      (withCrc16 [0x11#8, 0x00#8, 0x2A#8, 0x79#8])[3]? = some 0x79#8 ∧ 120 < (0x79#8).toNat) ∧
    (ReqCode.ofByte 0x00#8 = none ∧
      withCrc16 [0x00#8, 0x00#8, 0x2A#8, 0x00#8] =
        withCrc16 ([0x00#8, 0x00#8, 0x2A#8, byteOf ([] : List Byte).length] ++ [])) ∧
    (asks empty .executive .take 0 []).execLink.request ≠ none ∧
    { empty.straps with console := false }.console = false ∧
    (empty.rx = none ∧ 0x7E#8 ∉ frame0 ∧ empty.straps.console = true) := by decide +kernel

theorem witness_AnswersAreReadOnce :
    (empty.held = false ∧ empty.execLink.unread = none) ∧
    (run (.take .executive) (asks empty .executive .take 0 [])).execLink.unread =
      some ⟨0x07#8, .ok, false, [0x00#8], 0⟩ ∧
    (run (.take .console) (asks empty .console .take 0 [])).consoleLink.unread =
      some ⟨0x07#8, .ok, false, [0x00#8], 0⟩ ∧ empty.consoleLink.unread = none ∧
    ({ empty with rx := some ⟨[0x11#8], 0⟩ } : State).rx = some ⟨[0x11#8], 0⟩ ∧
    ({ empty with rx := some ⟨[0x11#8], 0⟩ } : State).ownWork = none := by decide +kernel

/-- R189: ANSWER-READY goes active as an answer is formed and inactive as its last byte is clocked out. -/
theorem test_answer_ready :
    let t := run (.take .executive) (asks empty .executive .take 0 [])
    empty.answerReady = false ∧ t.answerReady = true ∧ (run (.readTransaction 7) t).answerReady = true ∧
    (run (.readTransaction 8) t).answerReady = false := by decide +kernel

def spoilt : State :=
  let s := (station .queued 0).setModelSlot 2 ⟨3, some { model0 .active 9 with revision := 7 }⟩
  let t := s.setSlot 31 ⟨1, some { record0 .ready 0 with note := 1 }⟩
  { t with
    store := { t.store with cursor := 31 }
    models := { t.models with cursor := 2 } }

/-- A RUNNING record whose state field was damaged into READY, at the scrub cursor. -/
def spoiltRun : State :=
  let s := (onStep (busy holdCopy)).setSlot 3 ⟨5, some { record0 .running 0 with state := .ready }⟩
  { s with store := { s.store with cursor := 3 } }

/-- As `spoilt`, with both damaged slots reading DOUBTFUL, and a record at slot 3 in a state. -/
def spoiltDoubt (st : RecState) : State :=
  let s := (spoilt.setModelSlot 2 ⟨3, some { model0 .doubtful 9 with revision := 7 }⟩).setSlot 31
    ⟨1, some { record0 .doubtful 0 with note := 1 }⟩
  { s.setSlot 3 ⟨5, some (record0 st 0)⟩ with
    store := { s.store with slots := (s.setSlot 3 ⟨5, some (record0 st 0)⟩).store.slots
                            queue := if st = .queued then [3] else [] } }

/-- R24, R46: a record and a model already DOUBTFUL are not changed; a model that reads DOUBTFUL while a
QUEUED record names it is not already so (log 32). -/
theorem test_scrubs_of_doubtful :
    (run .shelfScrub (spoiltDoubt .queued)).slot 31 = (spoiltDoubt .queued).slot 31 ∧
    (run .shelfScrub (spoiltDoubt .queued)).store.attention = [] ∧
    (run .modelScrub (spoiltDoubt .held)).modelSlot 2 = (spoiltDoubt .held).modelSlot 2 ∧
    ((run .modelScrub (spoiltDoubt .queued)).record 3).map (·.hold) = some (some .modelDoubt) := by
  decide +kernel

/-- A LOOKUP waits for the damaged RUNNING record. -/
def spoiltLookup : State :=
  { spoiltRun with execLink := ⟨some ⟨.lookup, 0, 0x07#8, h3.bytes, some ⟨0, h3⟩⟩, none, false⟩ }

/-- R54: the mismatch completes it, with the record as DOUBTFUL and extract flag 0. -/
theorem test_mismatch_completes_the_lookup :
    ((run .shelfScrub spoiltLookup).execLink.unread.map fun a =>
      (a.outcome, a.body[2]?, a.body.getLast?)) = some (.ok, some 0x01#8, some 0x00#8) := by
  decide +kernel

/-- A record that reads DOUBTFUL in the start queue, at the scrub cursor. -/
def spoiltHead : State :=
  let s := (station .queued 0).setSlot 3 ⟨5, some { record0 .queued 0 with state := .doubtful }⟩
  { s with store := { s.store with cursor := 3 } }

theorem witness_ScrubsReadOneSlot :
    (safe0.held = false ∧ safe0.straps.table ≤ 32 ∧
      (safe0.record safe0.store.cursor).all (fun r => r.intact) = true ∧
      (safe0.model safe0.models.cursor).all (fun x => x.intact) = true) ∧
    (spoilt.held = false ∧ spoilt.straps.table ≤ 32 ∧
      (spoilt.record spoilt.store.cursor).map (fun r => (r.intact, r.state)) =
        some (false, .ready) ∧
      (spoilt.model spoilt.models.cursor).map (fun x => (x.intact, x.state)) =
        some (false, .active) ∧
      spoilt.record 3 = some (record0 .queued 0) ∧
      (record0 .queued 0).model = spoilt.modelHandleOf 2) ∧
    (∀ st ∈ [RecState.queued, .held], let s := spoiltDoubt st;
      s.held = false ∧ s.ownWork = none ∧ s.store.cursor ∉ s.store.queue ∧
      (∀ e, s.holds e (s.handleOf s.store.cursor) = false) ∧
      (s.record s.store.cursor).map (fun r => (r.intact, r.state)) = some (false, .doubtful) ∧
      (s.model s.models.cursor).map (fun x => (x.intact, x.state)) = some (false, .doubtful) ∧
      s.record 3 = some (record0 st 0) ∧ (record0 st 0).model = s.modelHandleOf 2 ∧
      ∀ i, (s.record i).map (·.state) = some .queued → i = 3) ∧
    (spoiltHead.held = false ∧ spoiltHead.store.cursor ∈ spoiltHead.store.queue ∧
      (spoiltHead.record spoiltHead.store.cursor).map (fun r => (r.intact, r.state)) =
        some (false, .doubtful)) ∧
    (spoiltLookup.ownWork = none ∧ (spoiltLookup.link .executive).request.map (·.waiting) =
      some (some ⟨0, spoiltLookup.handleOf spoiltLookup.store.cursor⟩)) ∧
    (safe0.ownWork = none ∧ spoilt.ownWork = none ∧ spoiltRun.ownWork = none) ∧
    (spoiltRun.held = false ∧ (spoiltRun.record spoiltRun.store.cursor).map
        (fun r => (r.intact, r.state)) = some (false, .ready) ∧
      (spoiltRun.bay 4).binding = some (spoiltRun.handleOf 3) ∧
      spoiltRun.OnLoad 0 holdCopy ∧ holdCopy.handle = spoiltRun.handleOf 3 ∧
      spoiltRun.feed.waits = []) := by
  unfold State.OnLoad
  decide +kernel

/-- Bay 4 with its debounce timer running from tick 960 at a raw seat. -/
def debouncing (s : State) (raw : Bool) : State :=
  s.setBay 4 { s.bay 4 with raw := raw, debounce := some 960 }

/-- The raw seat differs from the debounced one, and the bay is bound to the record. -/
def seatMoves (s : State) (st : RecState) (cursor : Nat) : Prop :=
  s.held = false ∧ s.ownWork = none ∧ (s.bay 4).debounce = some 960 ∧
  (s.bay 4).raw ≠ (s.bay 4).seated ∧
  (s.bay 4).binding = some (s.handleOf 3) ∧ s.record 3 = some (record0 st cursor)

theorem witness_SeatEventsFollowTheLifecycle :
    ((station .ready 0).held = false ∧ (23 : BayIx).val < (station .ready 0).straps.bays ∧
      ((station .ready 0).bay 23).raw ≠ true ∧ ((station .ready 0).bay 4).raw = true) ∧
    ((debouncing (station .ready 0) true).ownWork = none ∧
      ((debouncing (station .ready 0) true).bay 4).debounce = some 960 ∧
      ((debouncing (station .ready 0) true).bay 4).raw =
        ((debouncing (station .ready 0) true).bay 4).seated) ∧
    seatMoves (debouncing (seatDown (station .bound 0)) true) .bound 0 ∧
    (∀ st ∈ [RecState.ready, .queued, .held, .passed, .failed, .doubtful],
      seatMoves (debouncing (station st 0) false) st 0) ∧
    seatMoves (debouncing (seatDown (station .queued 0)) true) .queued 0 ∧
    (seatMoves (debouncing (onStep (busy holdCopy)) false) .running 0 ∧
      (debouncing (onStep (busy holdCopy)) false).EngagedOn 0 3 (record0 .running 0) 4 ∧
      (debouncing (onStep (busy holdCopy)) false).OnLoad 0 holdCopy) := by
  unfold seatMoves State.EngagedOn State.OnLoad
  decide +kernel

/-- Engine 0 watches bay 4 on a step with its copy, with detection armed. -/
def armed (s : State) (c : WorkingCopy) : Prop :=
  s.held = false ∧ (s.bay 4).indicator = false ∧ s.EngagedOn 0 3 (record0 .running c.index) 4 ∧
  s.OnStep 0 c ∧ (s.engine 0).detection = .armed ∧ s.feed.waits = []

/-- Engine 0 in WATCH with the banks given, none for a step level of 0. -/
def holding (grant : List GrantBank) (en : Engine) : Engine := { en with grant := grant }
def someBanks : List (List GrantBank) :=
  [[], [⟨4, 1600, 1000, false, 0, false⟩, ⟨1, 1000, 1000, false, 0, false⟩]]

/-- R128, R116: a detection in a step of level 0 closes it at once; R114: its passage releases the
reservation. -/
theorem test_detection_at_level_zero :
    (let t := run (.tripIndicatorChange 4 true) (onStep (holding [] (busy holdCopy)));
      t.engine 0 = Engine.free ∧ t.feed.total = 0 ∧
      t.outbox.get 0 = [.close h3 0 .hold .holdTripped none (some .indicator) 1 false]) ∧
    (let t := run (.tripIndicatorChange 4 true)
        (onStep (holding [] { busy tripCopy with tripFrom := some 700 }));
      (t.engine 0).phase = .watch ∧ (t.engine 0).reservation = .none ∧ t.feed.total = 0) := by
  decide +kernel

theorem witness_DetectionEndsTheStep :
    (State.straps small).bays = 24 ∧ ((station .ready 0).bay 23).binding = none ∧
    (∀ g ∈ someBanks, armed (onStep (holding g (busy holdCopy))) holdCopy ∧
      armed (onStep (holding g (busy derateCopy))) derateCopy ∧
      ∀ z ∈ [399, 400, 700, 701], let s := onStep (holding g { busy tripCopy with tripFrom := some z });
        armed s tripCopy ∧ (s.engine 0).tripFrom = some z ∧ (s.engine 0).reservation = .held 1125) ∧
    (onStep (busy holdCopy)).now = 1000 := by
  unfold armed State.EngagedOn State.OnStep
  decide +kernel

/-! #### The sense link -/

theorem witness_BayFramesAreStored :
    (crc8Ok ([] : List Byte) = false ∧ ([] : List Byte).length ≠ 12) ∧
    ((station .ready 0).held = false ∧ 24 ≤ (0x18#8 : Byte).toNat ∧
      (0x17#8 : Byte).toNat = (23 : BayIx).val ∧ (23 : BayIx).val < (station .ready 0).straps.bays ∧
      ((station .ready 0).sense 23).seq ≠ some ((0xF0#8 : Byte).toNat / 16) ∧
      (station .ready 0).watcher 23 = none) ∧
    ((onStep (busy holdCopy)).sense 4).seq = some ((0x3F#8 : Byte).toNat / 16) ∧
    ((station .ready 0).sense 4).sense ≠ .fresh ∧
    ((onStep (busy holdCopy)).ownWork = none ∧ (onStep (busy holdCopy)).held = false ∧ ((onStep (busy holdCopy)).sense 4).sense = .fresh ∧
      (onStep (busy holdCopy)).watcher 4 = some 0 ∧ (onStep (busy holdCopy)).OnLoad 0 holdCopy ∧
      (onStep (busy holdCopy)).feed.waits = []) := by
  unfold State.OnLoad
  decide +kernel

/-- A bay frame of output v, current i, temperature t and flags is accepted and forwarded to engine 0. -/
def forwarded (s : State) (c : WorkingCopy) (v i t : Nat) (flags : Nat) (x : Sample) : Prop :=
  s.held = false ∧ (s.acceptBay (bayBytes v i t 1920 (64 + flags))).map (fun p => (p.1, p.2.stored)) =
    some (4, x) ∧ s.watcher 4 = some 0 ∧ s.OnStep 0 c ∧ s.feed.waits = []

def collecting (n : Nat) : Engine :=
  { busy derateCopy with captured := 443, pExp := 22645, collection := some ⟨n, 0, 0⟩ }

theorem witness_ForwardedSamplesDecideTheStep :
    (∀ g ∈ someBanks,
      (∀ v ∈ [3999, 4000], forwarded (onStep (holding g (busy holdCopy))) holdCopy v 1600 473 0
        ⟨v, 1600, 473, 1920, false, false, false, false⟩) ∧
      (∀ z ∈ [399, 400, 700, 701], ∀ v ∈ [3999, 4000],
        forwarded (onStep (holding g { busy tripCopy with tripFrom := some z })) tripCopy v 1600 473 0
          ⟨v, 1600, 473, 1920, false, false, false, false⟩) ∧
      (∀ z ∈ [1000, 999, 998, 0], ∀ seen ∈ [true, false],
        forwarded (onStep (holding g { busy restartCopy with
          goodLevel := 4860, restartFrom := some z, lowSeen := seen })) restartCopy 4860 0 473 0
          ⟨4860, 0, 473, 1920, false, false, false, false⟩) ∧
      forwarded (onStep (holding g { busy latchCopy with
        goodLevel := 4860, latchFrom := some 0, lowSeen := true })) latchCopy 4860 0 473 0
        ⟨4860, 0, 473, 1920, false, false, false, false⟩ ∧
      (∀ n ∈ [62, 63], ∀ t ∈ [473, 474], ∀ v ∈ [3999, 4000],
        forwarded (onStep (holding g (collecting n))) derateCopy v 4200 t 0
          ⟨v, 4200, t, 1920, false, false, false, false⟩) ∧
      forwarded (onStep (holding g (collecting 0))) derateCopy 5350 4200 473 1
        ⟨5350, 4200, 473, 1920, true, false, false, false⟩) ∧
    (∀ g ∈ someBanks, ((onStep (holding g { busy tripCopy with tripFrom := some 700 })).engine 0).reservation =
      .held 1125) := by
  unfold forwarded State.OnStep
  decide +kernel

def drawing (n pause : Nat) : State :=
  let s := onStep (busy holdCopy)
  { s with feed := { s.feed with overCount := n, pause := pause } }

theorem witness_OverDrawShedsTheVictim :
    crc8Ok ([] : List Byte) = false ∧
    ((station .ready 0).held = false ∧
      (station .ready 0).feedSense.seq ≠ some ((0x00#8 : Byte).toNat / 16)) ∧
    (0 < (drawing 2 1).feed.pause ∧ (drawing 2 0).feed.pause = 0 ∧
      min ((0x17#8 : Byte).toNat * 256 + (0x70#8 : Byte).toNat) 60000 = (drawing 2 0).feed.budget ∧
      (drawing 1 0).feed.overCount < 2 ∧ (station .ready 0).feed.reservations = []) ∧
    ((drawing 2 0).feed.reservations = [⟨0, 1125, 1, 1, false⟩] ∧
      (drawing 2 0).OnLoad 0 holdCopy ∧ (drawing 2 0).feed.waits = []) := by
  unfold State.OnLoad
  decide +kernel

def windowIs (w : WindowState) (count : Nat) : State :=
  let s := onStep (busy holdCopy)
  { s with feed := { s.feed with
      window := w, outCount := count, recoverFrom := if w = .recovering then some 900 else none } }

/-- With engine 1 in RESERVE beside the load step. -/
def besideReserve (w : WindowState) : State :=
  (windowIs w 1).setEngine 1 { Engine.free with phase := .reserve, copy := some derateCopy }

theorem witness_FeedWindowFollowsTheVoltage :
    (∀ v ∈ [3400, 4600, 3399, 4601, 3450, 4550, 3449, 4551],
      ∀ w ∈ [WindowState.normal, .fault, .recovering], ∀ n ∈ [0, 1],
      (windowIs w n).held = false ∧
      (windowIs w n).acceptFeed (feedBytes 6000 v 0x10) = some ⟨6000, v, 1⟩ ∧
      (windowIs w n).OnLoad 0 holdCopy) ∧
    (empty.held = false ∧ empty.feedSense.sense ≠ .fresh) ∧
    (∀ w ∈ [WindowState.normal, .fault],
      ({ windowIs w 0 with feedSense := ⟨.fresh, some ⟨0, 4000⟩, some 1, 990⟩ } : State).feedSense.sense =
        .fresh) ∧
    ((windowIs .recovering 0).feed.recoverFrom = some 900 ∧
      (windowIs .recovering 0).feed.waits = []) ∧
    (∀ w ∈ [WindowState.normal, .recovering],
      (besideReserve w).acceptFeed (feedBytes 6000 4601 0x10) = some ⟨6000, 4601, 1⟩ ∧
      ((besideReserve w).engine 1).phase = .reserve ∧ (besideReserve w).arb.waits = [] ∧
      (besideReserve w).ownWork = none ∧ (windowIs w 0).ownWork = none) := by
  unfold State.OnLoad
  decide +kernel

/-! #### Engines -/

def takes (cursor : Nat) : State :=
  let s := station .queued cursor
  { s with feed := { s.feed with window := .recovering } }

/-- The head of the queue, or its model, with a code that does not match and a stored state. -/
def badHead (st : RecState) : State :=
  (takes 0).setSlot 3 ⟨5, some { record0 .queued 0 with state := st, note := 1 }⟩
def badModel (st : ModelState) : State :=
  (takes 0).setModelSlot 2 ⟨3, some { model0 .active 1 with state := st, revision := 7 }⟩

/-- R106: a take that meets a mismatch holds the head, and the block begins no take of it again. -/
theorem test_take_of_bad_model :
    let t := run .engineTake (badModel .doubtful)
    (t.record 3).map (·.hold) = some (some .modelDoubt) ∧ t.store.queue = [] ∧ t.takeDue = none := by
  decide +kernel

/-- R176, R111: the test admits the submission, and the engine then asks: no bank is online. -/
theorem test_admission_then_request :
    ((stepped taken0).engine 0).phase = .acquire ∧ (stepped taken0).feed.total = 1125 ∧
    ((stepped (stepped taken0)).outbox.get 0) = [.close h3 0 .hold .noCapacity none none 1 false] ∧
    (stepped (stepped taken0)).feed.total = 0 := by decide +kernel

/-- Engine 0 in RESERVE with its load of 2000 prepared, in a window state, before or behind a submission of
7000. -/
def submitting (c : WorkingCopy) (w : WindowState) (others : Bool) : State :=
  let s := onStep { Engine.free with phase := .reserve, copy := some c, stepLevel := 2000 }
  { s with feed := { s.feed with
    reservations := [], total := 0, window := w
    waits := if others then [⟨1, 7000, 1, 4, 0⟩] else [] } }

theorem witness_EngineTakesTheHead :
    (empty.held = false ∧ empty.ownWork = none ∧ empty.store.queue = []) ∧
    (∀ c ∈ [holdCopy, tripCopy],
      ∀ w ∈ [(WindowState.normal, false), (.normal, true), (.recovering, false), (.fault, true)],
      let s := submitting c w.1 w.2;
      s.pending = [] ∧ s.held = false ∧
      (∀ r ∈ s.feed.reservations, s.asksBanks r.engine = false) ∧ (s.engine 0).phase = .reserve ∧
      (s.engine 0).reservation = .none ∧ (s.engine 0).copy = some c ∧
      (s.engine 0).stepLevel = 2000 ∧ s.WaitListsOrdered ∧
      s.feed.waits.length = (if w.2 then 1 else 0) ∧ s.feed.window = w.1 ∧
      s.feed.total + 1125 ≤ s.feed.budget - s.feed.guard ∧
      s.feed.budget - s.feed.guard < s.feed.total + 7000) ∧
    (∀ st ∈ [RecState.queued, .doubtful], let s := badHead st;
      s.held = false ∧ s.ownWork = none ∧ s.store.queue = [3] ∧ s.feed.window = .recovering ∧
      (s.engine 0).phase = .free ∧ (s.record 3).map (fun r => (r.intact, r.state)) = some (false, st) ∧
      ∀ f, s.holds f (s.handleOf 3) = false) ∧
    (∀ st ∈ [ModelState.active, .doubtful], let s := badModel st;
      s.held = false ∧ s.ownWork = none ∧ s.store.queue = [3] ∧ s.feed.window = .recovering ∧
      (s.engine 0).phase = .free ∧ s.record 3 = some (record0 .queued 0) ∧
      (s.model 2).map (fun x => (x.intact, x.state)) = some (false, st)) ∧
    ∀ cursor ∈ [0, 1, 3], ∀ w ∈ [WindowState.normal, .recovering],
      let s := { takes cursor with feed := { (takes cursor).feed with window := w } };
      s.held = false ∧ s.ownWork = none ∧ s.store.queue = [3] ∧ s.feed.window ≠ .fault ∧
      (s.engine 0).phase = .free ∧ s.record 3 = some (record0 .queued cursor) ∧
      (record0 .queued cursor).intact = true ∧ (record0 .queued cursor).bay = some 4 ∧
      (record0 .queued cursor).model = s.modelHandleOf 2 ∧ s.model 2 = some (model0 .active 1) ∧
      (model0 .active 1).intact = true ∧ s.SeatedAt 4 (s.handleOf 3) := by
  unfold State.SeatedAt State.WaitListsOrdered
  decide +kernel

def evaluatingAt (x : Option Sample) (cap : Nat) : State :=
  { evaluating with
    senses := evaluating.senses.put 4 ⟨if x.isSome then .fresh else .stale, x, some 3, 995⟩
    arb := { evaluating.arb with roster := evaluating.arb.roster.put 7 ⟨.idle, cap, none, none, 0, none⟩ } }

/-- In NORMAL, with a budget. -/
def evaluatingIn (b : Nat) : State :=
  { evaluating with feed := { evaluating.feed with window := .normal, budget := b } }

theorem witness_EvaluatorAnswersTheEngine :
    (∀ x ∈ [none, some sample0, some { sample0 with vIn := 1800 }, some { sample0 with vIn := 1799 },
        some { sample0 with overT := true }, some { sample0 with overVin := true }],
      ∀ cap ∈ [5000, 0],
      (evaluatingAt x cap).held = false ∧ ((evaluatingAt x cap).engine 0).phase = .reserve ∧
      ((evaluatingAt x cap).engine 0).evalAsked = true ∧
      ((evaluatingAt x cap).engine 0).copy = some derateCopy ∧
      derateCopy.params = .derate derate0 ∧ ((evaluatingAt x cap).engine 0).verdict = none ∧
      ((evaluatingAt x cap).engine 0).stop = none ∧ (evaluatingAt x cap).feed.waits = [] ∧
      (evaluatingAt x cap).feed.window = .recovering ∧ (evaluatingAt x cap).ownWork = none ∧
      ((evaluatingAt x cap).sense derateCopy.bay).sample = x) ∧
    (evaluatingAt none 0).totalOnline < 4612 ∧ 4612 ≤ (evaluatingAt none 5000).totalOnline ∧
    (∀ b ∈ [3094, 3095], let s := evaluatingIn b;
      s.held = false ∧ (s.engine 0).phase = .reserve ∧ (s.engine 0).evalAsked = true ∧
      (s.engine 0).copy = some derateCopy ∧ s.feed.waits = [] ∧ s.feed.window = .normal ∧
      s.ownWork = none ∧
      (s.sense derateCopy.bay).sample = some sample0) ∧
    (evaluatingIn 3094).feed.budget - (evaluatingIn 3094).feed.guard <
      (evaluatingIn 3094).feed.total + 2595 ∧
    (evaluatingIn 3095).feed.total + 2595 ≤
      (evaluatingIn 3095).feed.budget - (evaluatingIn 3095).feed.guard := by
  decide +kernel

theorem witness_CurveAndLineFactor :
    (2 ≤ curve0.length ∧ curve0.length ≤ 6 ∧ curve0.Pairwise (fun a b => a.temp < b.temp) ∧
      curve0.head? = some ⟨250, 33000⟩ ∧ curve0.getLast? = some ⟨700, 12000⟩ ∧
      curve0[1]? = some ⟨400, 33000⟩ ∧ curve0[2]? = some ⟨540, 24000⟩ ∧
      (∀ k ∈ curve0, k.power ≤ 33000) ∧ ∀ k ∈ curve0, k.inRange = true) ∧
    (startConditions derate0 ⟨.fresh, some { sample0 with vIn := 1800 }, some 3, 995⟩ =
      some { sample0 with vIn := 1800 } ∧ (model0 .draft 0).firstFault = none) := by decide +kernel

/-- Engine 0 admitted with a step level, to ask for banks on an empty queue: banks 2, 5 and 7 are IDLE,
two of one capability. -/
def asking (c : WorkingCopy) (need : Nat) (ind : Bool) : State :=
  let s := onStep { Engine.free with
    phase := .acquire, copy := some c, reservation := .held 1125, stepLevel := need }
  let t := s.setBay 4 { s.bay 4 with indicator := ind }
  { t with arb := { t.arb with roster :=
      ((t.arb.roster.put 5 ⟨.idle, 600, none, none, 0, none⟩).put 2
        ⟨.idle, 600, none, none, 0, none⟩).put 7 ⟨.idle, 1600, none, none, 0, none⟩ } }

theorem witness_SharesSumToTheNeed :
    (∀ need ∈ [0, 3500, 4100], ([1600, 1500, 1000] : List Nat) ≠ [] ∧
      (∀ c ∈ ([1600, 1500, 1000] : List Nat), 0 < c) ∧ need ≤ ([1600, 1500, 1000] : List Nat).sum) ∧
    evaluating.chooseBanks 5000 0 evaluating.idleBanks = some [7] ∧
    evaluating.chooseBanks 5001 0 evaluating.idleBanks = none ∧
    ((asking holdCopy 2300 false).chooseBanks 2300 0 (asking holdCopy 2300 false).idleBanks =
      some [7, 2, 5]) := by decide +kernel

theorem witness_SharesSumToTheNeed_requests :
    (∀ c ∈ [holdCopy, tripCopy, derateCopy], ∀ need ∈ [0, 2000, 9000], ∀ ind ∈ [true, false],
      let s := asking c need ind;
      s.pending = [] ∧ s.held = false ∧
      s.feed.reservations = [] ++ ⟨0, 1125, 1, 1, false⟩ :: [] ∧ (s.engine 0).phase = .acquire ∧
      (s.engine 0).bankReq = .notMade ∧ (s.engine 0).copy = some c ∧ (s.engine 0).verdict = none ∧
      (s.engine 0).stop = none ∧ (s.engine 0).stepLevel = need ∧ s.feed.waits = [] ∧
      s.arb.service = none ∧ s.arb.waits = [] ∧ (s.sense c.bay).sense = .fresh ∧
      (s.bay c.bay).indicator = ind ∧ s.totalOnline = 5400) ∧
    ((asking holdCopy 2000 false).chooseBanks 2000 0 (asking holdCopy 2000 false).idleBanks =
      some [7, 2]) ∧
    (∀ w ∈ [(⟨0, 5000, 1, 4, 0⟩ : BankWait)], (((asking holdCopy 5000 false).addresses.filter fun b =>
      ((asking holdCopy 5000 false).bank b).state = .idle).map
        fun b => ((asking holdCopy 5000 false).bank b).cap).sum < w.need) ∧
    (asking holdCopy 5000 false).WaitListsOrdered ∧
    (({ asking holdCopy 0 true with senses := (station .ready 0).senses } : State).sense
      holdCopy.bay).sense ≠ .fresh := by
  unfold State.WaitListsOrdered
  decide +kernel

/-- R111, R149, section 6.3: a step level of 0 goes to WATCH at once with no bank. -/
theorem test_step_level_zero :
    let t := stepped (asking derateCopy 0 false)
    (t.engine 0).phase = .watch ∧ (t.engine 0).settleFrom = some 1000 ∧
    t.arb = (asking derateCopy 0 false).arb := by decide +kernel

/-! #### The load link -/

def twoAsked : State :=
  let s := station .ready 0
  { s with arb := { s.arb with asked := [⟨0, .set 500, false⟩, ⟨1, .release, false⟩] } }
def firstSet : State :=
  let s := onStep { busy tripCopy with phase := .load, setSent := false, detection := .disarmed }
  { s with arb := { s.arb with asked := [⟨1, .set 1000, true⟩], turn := some ⟨0, false, []⟩ } }
def onePoll : State :=
  let s := station .ready 0
  { s with arb := { s.arb with
      exchanges := (s.arb.exchanges.put 1 (some ⟨.identify, 990, 999⟩)).put 6 (some ⟨.identify, 990, 999⟩) } }

/-- Older requests that may not be sent: a RELEASE of bank 0 behind its SET, and one of bank 1, whose
exchange is open. -/
def heldUp : State :=
  let s := polled (station .ready 0) (.set 3)
  { s with arb := { s.arb with
    turn := none, asked := [⟨1, .release, false⟩, ⟨0, .set 500, false⟩, ⟨0, .release, false⟩] } }
/-- A RELEASE is queued for the one bank whose exchange is open. -/
def allHeldUp : State :=
  let s := polled (station .ready 0) (.set 3)
  { s with arb := { s.arb with asked := [⟨1, .release, false⟩] } }

/-- A TRIP step whose least trip time is 0. -/
def quickTrip : WorkingCopy :=
  copy0 1 .trip (.trip ⟨1500, 500, 5400, 4000, 0, 600, 960⟩ ⟨900, 5400, .hiccup, 2000, none⟩)

/-- The first SET of a load step is to be sent while the indicator is active. -/
def alreadyTripped (c : WorkingCopy) : State :=
  let s := onStep { busy c with phase := .load, setSent := false, detection := .disarmed }
  let t := s.setBay 4 { s.bay 4 with indicator := true }
  { t with arb := { t.arb with asked := [⟨1, .set 1000, true⟩] } }

/-- R131: an indicator active at the first SET is a detection at the elapsed time 0, below t_min. -/
theorem test_tripped_at_first_set :
    ((run .linkTurn (alreadyTripped tripCopy)).engine 0).verdict =
      some ⟨.tripEarly, some 0, some .indicator⟩ := by decide +kernel

theorem witness_LinkTurnsFollowTheQueue :
    (∀ s ∈ [twoAsked, heldUp, firstSet, allHeldUp, onePoll, station .ready 0,
      alreadyTripped holdCopy, alreadyTripped tripCopy, alreadyTripped derateCopy,
      alreadyTripped quickTrip], s.ownWork = none) ∧
    ((twoAsked.held = false ∧ twoAsked.arb.asked = [⟨0, .set 500, false⟩] ++ ⟨1, .release, false⟩ :: [] ∧
        twoAsked.Eligible [⟨0, .set 500, false⟩] ⟨1, .release, false⟩) ∧
      (∀ pre x post, [(⟨0, .set 500, false⟩ : Asked)] = pre ++ x :: post → x.request.unload = true →
        ¬twoAsked.Eligible pre x)) ∧
    ((heldUp.held = false ∧ heldUp.Eligible [⟨1, .release, false⟩] ⟨0, .set 500, false⟩) ∧
      (∀ pre x post, heldUp.arb.asked = pre ++ x :: post → x.request.unload = true →
        ¬heldUp.Eligible pre x) ∧
      ∀ pre x post, [(⟨1, .release, false⟩ : Asked)] = pre ++ x :: post → x.request.unload = false →
        ¬heldUp.Eligible pre x) ∧
    (firstSet.held = false ∧ firstSet.arb.asked = [] ++ ⟨1, .set 1000, true⟩ :: [] ∧
      firstSet.Eligible [] ⟨1, .set 1000, true⟩ ∧ (firstSet.bank 1).engine = some 0 ∧
      (firstSet.engine 0).phase = .load ∧ (firstSet.engine 0).setSent = false ∧
      (firstSet.engine 0).copy = some tripCopy ∧ (firstSet.bay 4).indicator = false ∧
      firstSet.arb.turn ≠ none) ∧
    (∀ p ∈ [(holdCopy), tripCopy, derateCopy, quickTrip],
      (alreadyTripped p).held = false ∧
      (alreadyTripped p).arb.asked = [] ++ ⟨1, .set 1000, true⟩ :: [] ∧
      (alreadyTripped p).Eligible [] ⟨1, .set 1000, true⟩ ∧
      ((alreadyTripped p).bank 1).engine = some 0 ∧ ((alreadyTripped p).engine 0).phase = .load ∧
      ((alreadyTripped p).engine 0).setSent = false ∧ ((alreadyTripped p).engine 0).copy = some p ∧
      ((alreadyTripped p).engine 0).grant ≠ [] ∧ ((alreadyTripped p).bay p.bay).indicator = true ∧
      (alreadyTripped p).feed.waits = []) ∧
    ((allHeldUp.held = false ∧ allHeldUp.exchange 1 = some ⟨.set 3, 990, 1000⟩ ∧
        ∀ c : BankIx, c ≠ 1 → allHeldUp.exchange c = none) ∧
      ∀ unload, ∀ pre x post, allHeldUp.arb.asked = pre ++ x :: post → x.request.unload = unload →
        ¬allHeldUp.Eligible pre x) ∧
    (onePoll.held = false ∧ onePoll.arb.asked = [] ∧ 1 < onePoll.straps.banks ∧
      onePoll.exchange 1 = some ⟨.identify, 990, 999⟩ ∧
      onePoll.exchange 6 = some ⟨.identify, 990, 999⟩ ∧
      ∀ c : BankIx, c ≠ 1 → c ≠ 6 → onePoll.exchange c = none) ∧
    ((station .ready 0).held = false ∧ (station .ready 0).arb.asked = [] ∧
      ∀ b, (station .ready 0).exchange b = none) := by
  unfold State.Eligible
  exact ⟨by decide +kernel, ⟨by decide +kernel, of_splits (by decide +kernel)⟩,
    ⟨by decide +kernel, of_splits (by decide +kernel), of_splits (by decide +kernel)⟩,
    by decide +kernel, by decide +kernel,
    ⟨by decide +kernel, fun unload => of_splits (by revert unload; decide +kernel)⟩,
    by decide +kernel, by decide +kernel⟩

/-- A service that has failed or been withdrawn, with the CONNECT of bank 1 still open; bank 4 is IDLE
again. -/
def draining (st : ServiceStatus) : State :=
  let s := serving [1, 4]
  let en := s.engine 0
  let t := (s.setBank 4 ⟨.idle, 1600, none, none, 0, none⟩).setEngine 0 { en with
    detection := .disarmed
    stop := if st = .withdrawn then some .unseated else none
    bankReq := if st = .withdrawn then .connecting else .waiting }
  { t with arb := { t.arb with
    service := some ⟨0, 2000, 4, 0, [1, 4], st⟩
    waits := if st = .failed then [⟨0, 2000, 1, 4, 0⟩] else [] } }

/-- R166: the READY of a withdrawn service is answered with a RELEASE, and the engine closes. -/
theorem test_ready_after_withdrawal :
    let t := run (.readyReply (replyBytes 0x82#8 0 0#8)) (draining .withdrawn)
    (t.bank 1).state = .releasing ∧ t.arb.asked = [⟨1, .release, false⟩] ∧ t.feed.total = 0 ∧
    t.outbox.get 0 = [.close h3 0 .hold .unseated none none 1 false] := by decide +kernel

/-- R158, R160, R206: a reply in a request turn, of another address, of a kind or with a byte 4 that does not
answer the open exchange. -/
theorem test_replies_that_answer_nothing :
    let s := polled (station .ready 0) .identify
    let turned := { s with arb := { s.arb with turn := some ⟨1, false, []⟩ } }
    run (.identReply (replyBytes 0x81#8 1000 0#8)) turned = turned ∧
    run (.identReply (withCrc8 [0x02#8, 0x81#8, 0x03#8, 0xE8#8, 0#8])) s = s ∧
    run (.readyReply (replyBytes 0x82#8 0 0#8)) s = s ∧
    run (.identReply (replyBytes 0x81#8 1000 1#8)) s = s := by decide +kernel

/-- A reply whose address byte names bank 1 in bits 2 to 0 with bit 3 set is discarded (log 41). -/
theorem test_reply_with_a_high_address_bit :
    let s := polled (station .ready 0) .identify
    run (.identReply (withCrc8 [0x09#8, 0x81#8, 0x03#8, 0xE8#8, 0#8])) s = s := by decide +kernel

theorem witness_BankRepliesAreTaken_discards :
    (∀ a ∈ [0x01#8, 0x02#8, 0x09#8], ∀ awaiting ∈ [true, false],
      let s := { polled (station .ready 0) .identify with arb :=
        { (polled (station .ready 0) .identify).arb with turn := some ⟨1, awaiting, []⟩ } };
      (a = 0x01#8 → awaiting = false) →
      ∀ b : BankIx, (a : Byte).toNat = b.val → s.awaits b = false ∨ s.exchange b = none) ∧
    ∀ r ∈ [LinkRequest.identify, .connect 4, .set 1000, .release],
      (polled (station .ready 0) r).Polled 1 ⟨r, 990, 1000⟩ := by
  unfold State.Polled
  decide +kernel

theorem witness_BankRepliesAreTaken :
    (∀ s ∈ [polled (station .ready 0) .identify, serving [1, 4], serving [1], draining .failed,
      draining .withdrawn, releasing [⟨1, 1000, 1000, false, 0, false⟩],
      releasing [⟨1, 1000, 1000, false, 0, false⟩, ⟨4, 1600, 1000, false, 0, false⟩]],
      s.ownWork = none) ∧
    crc8Ok ([] : List Byte) = false ∧
    ((polled (station .ready 0) .identify).Polled 1 ⟨.identify, 990, 1000⟩ ∧
      (polled (station .ready 0) .identify).arb.waits = [] ∧
      ((polled (station .ready 0) .identify).bank 1).state = .offline) ∧
    (∀ chosen ∈ [[1, 4], [1]], (serving chosen).Polled 1 ⟨.connect 4, 990, 1000⟩ ∧
      (serving chosen).arb.service = some ⟨0, 2000, 4, 0, chosen, .active⟩ ∧ 1 ∈ chosen ∧
      ((serving chosen).bank 1).state = .connecting ∧ ((serving chosen).bank 4).state = .connecting ∧
      (serving chosen).arb.waits = [] ∧ ((serving chosen).engine 0).copy = some holdCopy ∧
      ((serving chosen).sense holdCopy.bay).sense = .fresh) ∧
    (∀ st ∈ [ServiceStatus.failed, .withdrawn], (draining st).Polled 1 ⟨.connect 4, 990, 1000⟩ ∧
      (draining st).arb.service = some ⟨0, 2000, 4, 0, [1, 4], st⟩ ∧
      ((draining st).bank 1).state = .connecting ∧ (draining st).feed.waits = [] ∧
      (draining st).arb.waits = (if st = .failed then [⟨0, 2000, 1, 4, 0⟩] else []) ∧
      (((draining st).addresses.filter fun c => ((draining st).bank c).state = .idle).map
        fun c => ((draining st).bank c).cap).sum < 2000 ∧
      ((draining st).engine 0).copy = some holdCopy ∧
      ((draining st).engine 0).stop = (if st = .withdrawn then some .unseated else none) ∧
      ((draining st).engine 0).verdict = none) ∧
    (∀ grant ∈ [[⟨1, 1000, 1000, false, 0, false⟩],
        [⟨1, 1000, 1000, false, 0, false⟩, ⟨4, 1600, 1000, false, 0, false⟩]],
      (releasing grant).Polled 1 ⟨.release, 990, 1000⟩ ∧
      ((releasing grant).bank 1).state = .releasing ∧ (releasing grant).arb.waits = [] ∧
      ((releasing grant).bank 1).engine = some 0 ∧ ((releasing grant).engine 0).phase = .unload ∧
      ((releasing grant).engine 0).releasing = true ∧
      ((releasing grant).engine 0).copy = some holdCopy ∧
      ((releasing grant).engine 0).verdict = some ⟨.pass, none, none⟩ ∧
      ((releasing grant).engine 0).stop = none) := by
  unfold State.Polled
  decide +kernel

/-- Engine 0 in a phase, with the SET to bank 1 polled. -/
def levelling (c : WorkingCopy) (ph : Phase) (other : Bool) (zeros n : Nat) : State :=
  polled (onStep { busy c with
    phase := ph, watch := ph = .load, verdict := if ph = .unload then some ⟨.pass, none, none⟩ else none
    grant := [⟨4, 1600, 1000, other, 0, false⟩, ⟨1, 1000, 1000, ph = .load, zeros, false⟩] }) (.set n)

/-- Engine 0 in the WATCH of a RESTART step: bank 1 owes the reply to its load SET (`load`) or to SET 0s,
and bank 4 to other SET 0s. -/
def observing (load : Bool) (n zeros others : Nat) : State :=
  polled (onStep { busy restartCopy with
    detection := .disarmed, restartFrom := some 900
    grant := [⟨4, 1600, 1000, false, others, false⟩, ⟨1, 1000, 1000, load, zeros, load⟩] }) (.set n)

theorem witness_LevelRepliesMoveTheEngine :
    (∀ c ∈ [holdCopy, tripCopy, derateCopy], ∀ other ∈ [true, false],
      (levelling c .load other 0 1000).ownWork = none ∧
      (levelling c .load other 0 1000).Polled 1 ⟨.set 1000, 990, 1000⟩ ∧
      ((levelling c .load other 0 1000).bank 1).engine = some 0 ∧
      ((levelling c .load other 0 1000).engine 0).copy = some c ∧
      (levelling c .load other 0 1000).feed.waits = [] ∧
      ((levelling c .load other 0 1000).engine 0).phase = .load ∧
      ((levelling c .load other 0 1000).engine 0).grant ≠ [] ∧
      ∀ g ∈ ((levelling c .load other 0 1000).engine 0).grant, g.bank ≠ 1 → g.load = other) ∧
    ((levelling holdCopy .unload false 1 0).ownWork = none ∧
      (levelling holdCopy .unload false 1 0).Polled 1 ⟨.set 0, 990, 1000⟩ ∧
      ((levelling holdCopy .unload false 1 0).engine 0).phase = .unload ∧
      ((levelling holdCopy .unload false 1 0).engine 0).releasing = false ∧
      ∀ g ∈ ((levelling holdCopy .unload false 1 0).engine 0).grant, g.rezero = false ∧
        (g.bank = 1 → g.zeros = 1) ∧ (g.bank ≠ 1 → g.zeros = 0)) ∧
    (∀ p ∈ [(true, 1000, 0, 0), (false, 0, 1, 0), (false, 0, 1, 1)],
      let s := observing p.1 p.2.1 p.2.2.1 p.2.2.2;
      s.Polled 1 ⟨.set p.2.1, 990, 1000⟩ ∧ s.ownWork = none ∧ (s.bank 1).engine = some 0 ∧
      (s.engine 0).copy = some restartCopy ∧ (s.engine 0).phase = .watch ∧ s.feed.waits = [] ∧
      (s.engine 0).reservation = .held 1125 ∧
      (s.engine 0).grant = [⟨4, 1600, 1000, false, p.2.2.2, false⟩,
        ⟨1, 1000, 1000, p.1, p.2.2.1, p.1⟩]) := by
  unfold State.Polled
  decide +kernel

/-- R114: the last SET 0 answered releases the reservation, with the banks held. -/
theorem test_reservation_released_in_passage :
    let t := run (.levelReply (replyBytes 0x83#8 0 0#8)) (observing false 0 1 0)
    t.feed.total = 0 ∧ (t.engine 0).phase = .watch ∧ (t.bank 1).state = .connected := by
  decide +kernel

/-- Bank 1 alone is chosen for a need of 9000 by the service of engine 0. -/
def lastBank : State :=
  let s := polled (onStep { busy holdCopy with
    phase := .acquire, watch := false, grant := [], bankReq := .connecting, setSent := false }) (.connect 4)
  let t := s.setBank 1 ⟨.connecting, 1000, none, none, 0, none⟩
  { t with arb := { t.arb with service := some ⟨0, 9000, 4, 0, [1], .active⟩ } }

/-- Three banks are chosen: bank 4 is CONNECTED, the CONNECT of bank 1 is open and that of bank 6 is not
yet asked; bank 7 is IDLE with a capability. -/
def losing (st : ServiceStatus) (need cap : Nat) : State :=
  let s := polled (onStep { busy holdCopy with
    phase := .acquire, watch := false, grant := [], bankReq := .connecting, setSent := false
    detection := .disarmed, stop := if st = .withdrawn then some .unseated else none }) (.connect 4)
  { s with arb := { s.arb with
    roster := ((s.arb.roster.put 1 ⟨.connecting, 1000, none, none, 0, none⟩).put 6
      ⟨.connecting, 400, none, none, 0, none⟩).put 7 ⟨.idle, cap, none, none, 0, none⟩
    service := some ⟨0, need, 4, 0, [4, 1, 6], st⟩ } }

/-- Bank 1, CONNECTED and chosen for the request in service, is lost while the CONNECT of bank 4 is open. -/
def losingConnected (need : Nat) : State :=
  let s := losing .active need 500
  { s with arb := { s.arb with
    roster := (s.arb.roster.put 1 ⟨.connected, 1000, some 4, some 0, 0, none⟩).put 4
      ⟨.connecting, 1600, none, none, 0, none⟩
    exchanges := s.arb.exchanges.put 4 (some ⟨.connect 4, 980, 999⟩) } }

/-- Engine 0 waits for banks while bank 1 of no engine is lost; bank 7 of 1600 is online. -/
def lostWhileWaiting (st : BankState) (need : Nat) : State :=
  let s := polled (onStep { busy holdCopy with
    phase := .acquire, watch := false, grant := [], bankReq := .waiting, setSent := false
    detection := .disarmed }) .release
  { s with arb := { s.arb with
    roster := ((s.arb.roster.put 1 ⟨st, 1000, none, none, 0, none⟩).put 4
      ⟨.offline, 1600, none, none, 0, none⟩).put 7 ⟨.releasing, 1600, none, none, 0, none⟩
    waits := [⟨0, need, 1, 4, 0⟩] } }

/-- The last open CONNECT of a failed service is lost, and the request of its engine waits; bank 7 of 5000 is
in a state. -/
def failedAlone (need : Nat) (st : BankState) : State :=
  let s := draining .failed
  { s with arb := { s.arb with
    roster := s.arb.roster.put 7 ⟨st, 5000, none, none, 0, none⟩
    service := some ⟨0, need, 4, 0, [1, 4], .failed⟩
    waits := [⟨0, need, 1, 4, 0⟩] } }

theorem witness_LostBanksAreRediscovered :
    (∀ s ∈ [polled (station .ready 0) .identify, { polled (station .ready 0) .release with arb :=
          { (polled (station .ready 0) .release).arb with
            roster := (station .ready 0).arb.roster.put 1 ⟨.releasing, 1000, none, none, 0, none⟩ } }],
      s.held = false ∧ s.ownWork = none ∧ (s.exchange 1).isSome = true ∧ s.arb.waits = [] ∧
      s.feed.waits = [] ∧ s.awaits 1 = true ∧ (s.bank 1).engine = none ∧
      ((s.bank 1).state = .offline ∨ (s.bank 1).state = .releasing)) ∧
    (∀ grant ∈ [[⟨1, 1000, 1000, false, 0, false⟩],
        [⟨1, 1000, 1000, false, 0, false⟩, ⟨4, 1600, 1000, false, 0, false⟩]],
      let s := releasing grant;
      s.Polled 1 ⟨.release, 990, 1000⟩ ∧ s.ownWork = none ∧ s.arb.waits = [] ∧ s.feed.waits = [] ∧
      (s.bank 1).state = .releasing ∧ (s.bank 1).engine = some 0 ∧ (s.engine 0).phase = .unload ∧
      (s.engine 0).releasing = true ∧ (s.engine 0).copy = some holdCopy ∧
      (s.engine 0).verdict = some ⟨.pass, none, none⟩ ∧ (s.engine 0).stop = none) ∧
    (∀ grant ∈ [[⟨1, 1000, 1000, false, 0, false⟩],
        [⟨1, 1000, 1000, false, 0, false⟩, ⟨4, 1600, 1000, false, 0, false⟩]],
      let s := polled (onStep (holding grant (busy holdCopy))) (.set 1000);
      s.Polled 1 ⟨.set 1000, 990, 1000⟩ ∧ s.ownWork = none ∧ (s.bank 1).state = .connected ∧
      s.arb.service = none ∧ (s.bank 1).engine = some 0 ∧ s.OnLoad 0 holdCopy ∧ s.arb.waits = [] ∧
      s.feed.waits = []) ∧
    (lastBank.Polled 1 ⟨.connect 4, 990, 1000⟩ ∧ lastBank.ownWork = none ∧
      (lastBank.bank 1).state = .connecting ∧
      lastBank.arb.service = some ⟨0, 9000, 4, 0, [1], .active⟩ ∧
      (lastBank.engine 0).phase = .acquire ∧ (lastBank.engine 0).copy = some holdCopy ∧
      (lastBank.engine 0).verdict = none ∧ (lastBank.engine 0).stop = none ∧
      ((lastBank.addresses.filter fun y => y ≠ 1 && (lastBank.bank y).state ≠ .offline).map
        fun y => (lastBank.bank y).cap).sum < 9000) ∧
    (∀ p ∈ [(ServiceStatus.active, 2000, 500), (.active, 2000, 9000), (.active, 19000, 500),
        (.failed, 2000, 500), (.withdrawn, 2000, 500)],
      let s := losing p.1 p.2.1 p.2.2;
      s.Polled 1 ⟨.connect 4, 990, 1000⟩ ∧ s.ownWork = none ∧ s.arb.waits = [] ∧
      s.feed.waits = [] ∧
      (s.bank 1).state = .connecting ∧ s.arb.service = some ⟨0, p.2.1, 4, 0, [4, 1, 6], p.1⟩ ∧
      (s.engine 0).phase = .acquire ∧ (s.engine 0).copy = some holdCopy ∧
      (s.engine 0).verdict = none ∧
      (s.engine 0).stop = (if p.1 = .withdrawn then some .unseated else none) ∧
      (s.bank 4).state = .connected ∧ (s.bank 6).state = .connecting ∧ s.exchange 6 = none ∧
      s.exchange 4 = none ∧ (s.bank 7).state = .idle ∧ (s.bank 7).cap = p.2.2 ∧
      (s.bank 6).cap = 400 ∧ (s.bank 4).cap = 1600) ∧
    (∀ need ∈ [2000, 19000], let s := losingConnected need;
      s.Polled 1 ⟨.connect 4, 990, 1000⟩ ∧ s.ownWork = none ∧ s.arb.waits = [] ∧
      (s.bank 1).state = .connected ∧ (s.bank 1).engine ≠ none ∧
      s.arb.service = some ⟨0, need, 4, 0, [4, 1, 6], .active⟩ ∧ (s.bank 4).state = .connecting ∧
      s.exchange 4 ≠ none ∧ (s.engine 0).phase = .acquire ∧ (s.engine 0).copy = some holdCopy ∧
      (s.engine 0).stop = none) ∧
    (∀ st ∈ [BankState.offline, .releasing], ∀ need ∈ [1600, 1601],
      let s := lostWhileWaiting st need;
      s.Polled 1 ⟨.release, 990, 1000⟩ ∧ s.ownWork = none ∧ s.feed.waits = [] ∧
      s.arb.waits = [⟨0, need, 1, 4, 0⟩] ∧ (s.engine 0).phase = .acquire ∧
      (s.engine 0).bankReq = .waiting ∧ (s.engine 0).copy = some holdCopy ∧
      (s.engine 0).verdict = none ∧ (s.engine 0).stop = none ∧ (s.bank 1).state = st ∧
      (s.bank 1).engine = none ∧
      ((s.addresses.filter fun y => y ≠ 1 && (s.bank y).state ≠ .offline).map
        fun y => (s.bank y).cap).sum = 1600) ∧
    (∀ p ∈ [(2000, BankState.idle), (2000, .releasing), (9000, .idle)],
      let s := failedAlone p.1 p.2;
      s.Polled 1 ⟨.connect 4, 990, 1000⟩ ∧ s.ownWork = none ∧ s.feed.waits = [] ∧
      s.arb.waits = [⟨0, p.1, 1, 4, 0⟩] ∧ (s.engine 0).phase = .acquire ∧
      (s.engine 0).bankReq = .waiting ∧ (s.engine 0).copy = some holdCopy ∧
      (s.engine 0).verdict = none ∧ (s.engine 0).stop = none ∧ (s.bank 1).state = .connecting ∧
      s.arb.service = some ⟨0, p.1, 4, 0, [1, 4], .failed⟩ ∧ (s.bank 7).state = p.2) := by
  unfold State.Polled State.OnLoad
  decide +kernel

/-- R160, R165: a waiting request above the new total is answered NO_CAPACITY, and one whose failed service
is over goes into service again when the IDLE banks meet it. -/
theorem test_loss_tests_the_waiting_request :
    (run (.faultReply (replyBytes 0x86#8 0 3#8)) (lostWhileWaiting .releasing 1601)).outbox.get 0 =
      [.close h3 0 .hold .noCapacity none none 1 false] ∧
    (run (.faultReply (replyBytes 0x86#8 0 3#8)) (lostWhileWaiting .releasing 1600)).arb.waits.length =
      1 ∧
    (run (.faultReply (replyBytes 0x86#8 0 3#8)) (failedAlone 2000 .idle)).arb.service.map
      (fun v => (v.engine, v.chosen, v.status)) = some (0, [7], .active) := by decide +kernel

/-- R165: the bank CONNECTED is released, the one not yet asked is IDLE again, and the request waits with
its time of joining. -/
theorem test_connect_failure_returns_the_request :
    let t := run (.faultReply (replyBytes 0x86#8 0 3#8)) (losing .active 2000 500)
    t.arb.waits = [⟨0, 2000, 1, 4, 0⟩] ∧ (t.bank 4).state = .releasing ∧ (t.bank 6).state = .idle ∧
    t.arb.service = none := by decide +kernel

/-! #### Step timers and messages -/

theorem witness_StepTimersGiveVerdicts :
    ∀ g ∈ someBanks,
    (let s := onStep (holding g { busy holdCopy with holdFrom := some 200 });
      s.held = false ∧ s.OnStep 0 holdCopy ∧ holdCopy.params = holdStep ∧ s.feed.waits = [] ∧
      s.ownWork = none ∧ (s.engine 0).holdFrom = some 200) ∧
    (onStep (holding g { busy tripCopy with tripFrom := some 800 })).OnStep 0 tripCopy ∧
    (onStep (holding g { busy tripCopy with tripFrom := some 800 })).ownWork = none ∧
    (onStep (holding g { busy restartCopy with restartFrom := some 500 })).OnStep 0 restartCopy ∧
    (onStep (holding g { busy restartCopy with restartFrom := some 500 })).ownWork = none := by
  unfold State.OnStep
  decide +kernel

/-- R130, R116: the duration of a HOLD step of level 0 closes it with PASS. -/
theorem test_timer_at_level_zero :
    let t := run (.holdDurationExpiry 0) (onStep (holding [] { busy holdCopy with holdFrom := some 200 }))
    t.now = 2200 ∧ t.engine 0 = Engine.free ∧
    t.outbox.get 0 = [.close h3 0 .hold .pass none none 1 false] := by decide +kernel

theorem witness_SettleLatchAndPulseTimers :
    (let s := onStep { busy derateCopy with settleFrom := some 100 };
      s.held = false ∧ s.ownWork = none ∧ (s.engine 0).copy = some derateCopy ∧
      derateCopy.params = .derate derate0 ∧
      (s.engine 0).settleFrom = some 100) ∧
    (let s := onStep { busy latchCopy with latchFrom := some 500 };
      s.held = false ∧ s.ownWork = none ∧ (s.engine 0).copy = some latchCopy ∧
      latchCopy.params = latchStep ∧
      (s.engine 0).latchFrom = some 500 ∧ s.EngagedOn 0 3 (record0 .running 2) latchCopy.bay) ∧
    (∀ waits ∈ [true, false],
      let s := onStep { busy latchCopy with awaitRearm := waits };
      let t := s.setBay 4 { s.bay 4 with rearm := some (1000, 0) };
      t.held = false ∧ (t.bay 4).rearm = some (1000, 0) ∧ (t.engine 0).awaitRearm = waits ∧
      (t.engine 0).copy.map (·.bay) = some 4 ∧ t.ownWork = none ∧
      t.EngagedOn 0 3 (record0 .running 2) 4 ∧ (4 : BayIx).val < t.straps.bays ∧
      (t.bay 4).seated = true ∧ (t.bay 4).seatLost = false) ∧
    (let s := listed (station .held 0);
      s.ownWork = none ∧
      ({ s with store := { s.store with pulse := some 1000 } } : State).store.pulse = some 1000) := by
  unfold State.EngagedOn
  decide +kernel

/-- A message of engine 0 about slot 3 stands at the head of its outbox, and the record is intact. -/
def writes (s : State) (m : Message) (r : ShelfRecord) : Prop :=
  s.held = false ∧ h3 = s.handleOf 3 ∧ s.record 3 = some r ∧ r.intact = true ∧
  r.results.Pairwise (fun a b => a.index < b.index) ∧ s.outbox.get 0 = m :: []

def retried (n : Nat) : ShelfRecord := ({ record0 .running 0 with retry := n } : ShelfRecord).seal

/-- A DOUBTFUL record, its code right, that still names engine 0. -/
def engagedDoubt : ShelfRecord := ({ record0 .running 0 with state := .doubtful } : ShelfRecord).seal
def unseated (s : State) : State := s.setBay 4 { s.bay 4 with seated := false, raw := false }
def doubtedModel (s : State) : State := s.setModelSlot 2 ⟨3, some (model0 .doubtful 1)⟩

/-- A close meets a record that reads DOUBTFUL and stands in the start queue. -/
def closesDamaged : State :=
  let s := (station .queued 0).setSlot 3 ⟨5, some { record0 .queued 0 with state := .doubtful }⟩
  sent s (.close h3 0 .hold .pass none none 1 false)

/-- A close for which a LOOKUP waits, with attention by level or by pulse. -/
def closesForLookup (pulse : Bool) : State :=
  let s := sent (station .running 0) (.close h3 0 .hold .pass none none 1 false)
  { s with
    straps := { s.straps with pulse := pulse }
    execLink := ⟨some ⟨.lookup, 0, 0x07#8, h3.bytes, some ⟨0, h3⟩⟩, none, false⟩ }

/-- R54, R192: the close completes the LOOKUP with the record as it left it, QUEUED, and the VERDICT starts a
pulse. -/
theorem test_close_completes_the_lookup :
    let t := run (.stepClose 0) (closesForLookup true)
    t.execLink.unread.map (fun a => (a.outcome, a.body[2]?, a.body.getLast?)) =
      some (.ok, some 0x00#8, some 0x00#8) ∧
    (t.record 3).map (·.state) = some .queued ∧ t.store.pulse = some 1000 ∧
    t.attentionActive = true := by decide +kernel

/-- R24: a second close that finds a mismatch on a DOUBTFUL record changes nothing, after a TAKE too. -/
theorem test_second_mismatch_changes_nothing :
    let s := (station .running 0).setSlot 3 ⟨5, some { record0 .running 0 with state := .doubtful }⟩
    let t := run (.stepClose 0) (sent s (.close h3 0 .hold .pass none none 1 false))
    t.slot 3 = s.slot 3 ∧ t.store.attention = [] := by decide +kernel

theorem witness_EngineMessagesWriteTheRecord :
    writes (sent (onStep (busy restartCopy)) (.passage h3 1 300 .indicator 1))
      (.passage h3 1 300 .indicator 1) (record0 .running 2) ∧
    writes (sent (station .held 0) (.passage h3 1 300 .indicator 1))
      (.passage h3 1 300 .indicator 1) (record0 .held 0) ∧
    (∀ o ∈ [StepOutcome.pass, .shed, .feedLost, .aborted, .unseated, .noCapacity, .outOfConditions,
        .holdTripped, .doubt],
      ∀ n ∈ [2, 3], ∀ late ∈ [true, false],
      writes (sent ((station .running 0).setSlot 3 ⟨5, some (retried n)⟩)
          (.close h3 n .hold o none none 1 late))
        (.close h3 n .hold o none none 1 late) (retried n)) ∧
    (∀ r ∈ [{ record0 .running 0 with engaged := some 4 }, { record0 .running 0 with note := 1 },
        { record0 .running 0 with state := .doubtful }],
      let s := sent ((station .running 0).setSlot 3 ⟨5, some r⟩) (.close h3 0 .hold .pass none none 1 false);
      s.held = false ∧ h3 = s.handleOf 3 ∧ s.record 3 = some r ∧ r.intact = false ∧
      3 ∉ s.store.queue ∧ (∀ f, s.holds f h3 = false) ∧
      s.outbox.get 0 = .close h3 0 .hold .pass none none 1 false :: []) ∧
    (closesDamaged.record 3).map (fun r => (r.intact, r.state)) = some (false, .doubtful) ∧
    3 ∈ closesDamaged.store.queue ∧
    (∀ p ∈ [true, false], let s := closesForLookup p;
      writes s (.close h3 0 .hold .pass none none 1 false) (record0 .running 0) ∧
      (s.link .executive).request.map (·.waiting) = some (some ⟨0, h3⟩) ∧ s.straps.pulse = p) ∧
    (retried 3).engaged = some 0 ∧ (retried 3).model = (station .running 0).modelHandleOf 2 ∧
    (station .running 0).model 2 = some (model0 .active 1) ∧ (retried 3).bay = some 4 ∧
    (model0 .active 1).plan.length = 4 ∧ ((station .running 0).bay 4).seated = true ∧
    (retried 3).state = .running ∧ (station .running 0).store.attention = [] ∧
    (∀ m ∈ [Message.close h3 2 .hold .shed none none 1 false, .passage h3 1 300 .indicator 1],
      writes (sent ((station .running 0).setSlot 3 ⟨5, some engagedDoubt⟩) m) m engagedDoubt) ∧
    engagedDoubt.state = .doubtful ∧ engagedDoubt.engaged = some 0 ∧
    (∀ o ∈ [StepOutcome.pass, .shed, .feedLost],
      writes (sent (unseated (station .running 0)) (.close h3 0 .hold o none none 1 false))
        (.close h3 0 .hold o none none 1 false) (record0 .running 0) ∧
      writes (sent (doubtedModel (listed (station .running 0))) (.close h3 0 .hold o none none 1 false))
        (.close h3 0 .hold o none none 1 false) (record0 .running 0)) ∧
    ((unseated (station .running 0)).bay 4).seated = false ∧
    (doubtedModel (station .running 0)).model 2 = some (model0 .doubtful 1) ∧
    (listed (station .running 0)).store.attention ≠ [] := by
  unfold writes
  decide +kernel

/-- R123, R191: a charged interruption with the seat down holds the record and lists it as HELD; one that
queues it lists nothing; and a PASS adds VERDICT. -/
theorem test_close_reasons :
    (run (.stepClose 0) (sent (unseated (station .running 0))
      (.close h3 0 .hold .shed none none 1 false))).store.attention =
        [⟨h3, ⟨false, false, false, true, false⟩⟩] ∧
    (run (.stepClose 0) (sent (station .running 0)
      (.close h3 0 .hold .shed none none 1 false))).store.attention = [] ∧
    (run (.stepClose 0) (sent (doubtedModel (station .running 0))
      (.close h3 0 .hold .pass none none 1 false))).store.attention =
        [⟨h3, ⟨true, false, false, true, false⟩⟩] := by decide +kernel

end Sys2Proof.Tests
end

section
/-! SUPPORT. The ledger of the machine: the tables, the start queue, the feed settings and the request links, with one
lemma for each operation of an engine, of the feed and of the load link, which leave it as it is. -/

namespace Sys2Proof.Machine

/-- The tables, the start queue, the feed settings and the request links: what the record store, the model
table and the links write, and what an engine, the sense link or the load link never does. -/
structure Ledger where
  slots : Tab ShelfSlot 32
  queue : List SlotIx
  models : Tab ModelSlot 16
  budget : Nat
  guard : Nat
  low : Nat
  high : Nat
  execLink : LinkState
  consoleLink : LinkState

/-- The ledger of a state. -/
def State.ledger (s : State) : Ledger :=
  { slots := s.store.slots, queue := s.store.queue, models := s.models.slots,
    budget := s.feed.budget, guard := s.feed.guard, low := s.feed.low, high := s.feed.high,
    execLink := s.execLink, consoleLink := s.consoleLink }

/-- An operation that leaves the shell leaves the ledger, which is a part of it. -/
theorem State.ledger_of_shell {s t : State} (h : t.shell = s.shell) : t.ledger = s.ledger := by
  have k := congrArg State.ledger h
  exact k

variable (s : State)

/-! ### Engines, messages and the lists of the feed and of the arbiter -/

@[simp] theorem State.setEngine_ledger (e : EngineIx) (x : Engine) :
    (s.setEngine e x).ledger = s.ledger := rfl
@[simp] theorem State.modEngine_ledger (e : EngineIx) (f : Engine → Engine) :
    (s.modEngine e f).ledger = s.ledger := rfl
@[simp] theorem State.send_ledger (e : EngineIx) (m : Message) :
    (s.send e m).ledger = s.ledger := rfl
@[simp] theorem State.setService_ledger (v : Option Service) :
    (s.setService v).ledger = s.ledger := rfl
@[simp] theorem State.setBank_ledger (b : BankIx) (x : Bank) :
    (s.setBank b x).ledger = s.ledger := rfl
@[simp] theorem State.modBank_ledger (b : BankIx) (f : Bank → Bank) :
    (s.modBank b f).ledger = s.ledger := rfl
@[simp] theorem State.ask_ledger (a : Asked) : (s.ask a).ledger = s.ledger := rfl
@[simp] theorem State.askOwnRelease_ledger (b : BankIx) :
    (s.askOwnRelease b).ledger = s.ledger := rfl
@[simp] theorem State.askSet_ledger (b : BankIx) (n : Nat) (ld : Bool) :
    (s.askSet b n ld).ledger = s.ledger := rfl
@[simp] theorem State.dropAsked_ledger (b : BankIx) : (s.dropAsked b).ledger = s.ledger := rfl
@[simp] theorem State.bankWithdraw_ledger (e : EngineIx) :
    (s.bankWithdraw e).ledger = s.ledger := rfl
@[simp] theorem State.enterWatch_ledger (e : EngineIx) : (s.enterWatch e).ledger = s.ledger := rfl
@[simp] theorem State.setArb_ledger (a : Arbiter) : (s.setArb a).ledger = s.ledger := rfl
@[simp] theorem State.setExchange_ledger (b : BankIx) (x : Option Exchange) :
    (s.setExchange b x).ledger = s.ledger := rfl
@[simp] theorem State.setTurn_ledger (t : Option Turn) : (s.setTurn t).ledger = s.ledger := rfl
@[simp] theorem State.bankTest_ledger : s.bankTest.ledger = s.ledger :=
  State.ledger_of_shell s.bankTest_shell
@[simp] theorem State.endService_ledger (v : Service) (x : ServiceStatus) :
    (s.endService v x).ledger = s.ledger := State.ledger_of_shell (s.endService_shell v x)
@[simp] theorem State.returnRequest_ledger (v : Service) :
    (s.returnRequest v).ledger = s.ledger := State.ledger_of_shell (s.returnRequest_shell v)
@[simp] theorem State.acquireExit_ledger (e : EngineIx) : (s.acquireExit e).ledger = s.ledger :=
  State.ledger_of_shell (s.acquireExit_shell e)
@[simp] theorem State.withdrawComplete_ledger (e : EngineIx) :
    (s.withdrawComplete e).ledger = s.ledger := State.ledger_of_shell (s.withdrawComplete_shell e)
@[simp] theorem State.unloadAdvance_ledger (e : EngineIx) :
    (s.unloadAdvance e).ledger = s.ledger := State.ledger_of_shell (s.unloadAdvance_shell e)
@[simp] theorem State.takeStop_ledger (e : EngineIx) (c : StopCause) :
    (s.takeStop e c).ledger = s.ledger := State.ledger_of_shell (s.takeStop_shell e c)
@[simp] theorem State.stopEngine_ledger (e : EngineIx) (c : StopCause) :
    (s.stopEngine e c).ledger = s.ledger := State.ledger_of_shell (s.stopEngine_shell e c)
@[simp] theorem State.stopHolder_ledger (i : SlotIx) (r : ShelfRecord) (c : StopCause) :
    (s.stopHolder i r c).ledger = s.ledger := State.ledger_of_shell (s.stopHolder_shell i r c)
@[simp] theorem State.reachVerdict_ledger (e : EngineIx) (v : Verdict) :
    (s.reachVerdict e v).ledger = s.ledger := State.ledger_of_shell (s.reachVerdict_shell e v)
@[simp] theorem State.passageAdvance_ledger (e : EngineIx) :
    (s.passageAdvance e).ledger = s.ledger := State.ledger_of_shell (s.passageAdvance_shell e)
@[simp] theorem State.detect_ledger (e : EngineIx) (c : DetectCause) (n : Nat) :
    (s.detect e c n).ledger = s.ledger := State.ledger_of_shell (s.detect_shell e c n)
@[simp] theorem State.arm_ledger (e : EngineIx) : (s.arm e).ledger = s.ledger :=
  State.ledger_of_shell (s.arm_shell e)
@[simp] theorem State.enterLoad_ledger (e : EngineIx) (g : List GrantBank) :
    (s.enterLoad e g).ledger = s.ledger := State.ledger_of_shell (s.enterLoad_shell e g)
@[simp] theorem State.submit_ledger (e : EngineIx) (c : WorkingCopy) (n : Nat) :
    (s.submit e c n).ledger = s.ledger := State.ledger_of_shell (s.submit_shell e c n)
@[simp] theorem State.feedTest_ledger : s.feedTest.ledger = s.ledger :=
  State.ledger_of_shell s.feedTest_shell
@[simp] theorem State.feedRetest_ledger (b : State) : (State.feedRetest b s).ledger = s.ledger :=
  State.ledger_of_shell (s.feedRetest_shell b)
@[simp] theorem State.settled_ledger : s.settled.ledger = s.ledger :=
  State.ledger_of_shell s.settled_shell
@[simp] theorem State.passToHolder_ledger (i : SlotIx) (r : ShelfRecord) (p : Nat) :
    (s.passToHolder i r p).ledger = s.ledger := State.ledger_of_shell (s.passToHolder_shell i r p)

/-- A change of the feed that keeps the settings keeps the ledger. -/
theorem State.setFeed_ledger {f : Feed} (hb : f.budget = s.feed.budget)
    (hg : f.guard = s.feed.guard) (hl : f.low = s.feed.low) (hh : f.high = s.feed.high) :
    (s.setFeed f).ledger = s.ledger := by
  simp only [State.ledger, State.setFeed, hb, hg, hl, hh]

/-! ### Time, bays, sense store, attention list -/

@[simp] theorem State.passTo_ledger (n : Nat) : (s.passTo n).ledger = s.ledger := by
  unfold State.passTo; split <;> rfl
@[simp] theorem State.atTick_ledger (n : Nat) : (s.atTick n).ledger = s.ledger := by
  unfold State.atTick; split <;> simp
@[simp] theorem State.setBay_ledger (b : BayIx) (x : Bay) : (s.setBay b x).ledger = s.ledger := rfl
@[simp] theorem State.setSense_ledger (b : BayIx) (x : BaySense) :
    (s.setSense b x).ledger = s.ledger := rfl
@[simp] theorem State.clearRun_ledger (b : Option BayIx) : (s.clearRun b).ledger = s.ledger := by
  cases b <;> rfl
@[simp] theorem State.clearBound_ledger (h : Handle) : (s.clearBound h).ledger = s.ledger :=
  foldl_keeps State.ledger _ (fun t b => t.clearRun_ledger (some b)) _ _
@[simp] theorem State.freeBay_ledger (b : BayIx) : (s.freeBay b).ledger = s.ledger := rfl
@[simp] theorem State.freeBound_ledger (h : Handle) : (s.freeBound h).ledger = s.ledger :=
  foldl_keeps State.ledger _ State.freeBay_ledger _ _
@[simp] theorem State.attend_ledger (i : SlotIx) (r : Reasons) :
    (s.attend i r).ledger = s.ledger := rfl
@[simp] theorem State.unattend_ledger (i : SlotIx) : (s.unattend i).ledger = s.ledger := rfl
@[simp] theorem State.popMessage_ledger (e : EngineIx) : (s.popMessage e).ledger = s.ledger := rfl
@[simp] theorem State.attendClose_ledger (i : SlotIx) (o : StepOutcome) (x : RecState) :
    (s.attendClose i o x).ledger = s.ledger := by
  unfold State.attendClose; split <;> rfl

/-! ### A forwarded sample -/

@[simp] theorem State.collapseSample_ledger (e : EngineIx) (v : Nat) (x : Sample) :
    (s.collapseSample e v x).ledger = s.ledger := by
  unfold State.collapseSample; split <;> simp

@[simp] theorem State.restartSample_ledger (e : EngineIx) (r : RestartParams) (x : Sample) :
    (s.restartSample e r x).ledger = s.ledger := by
  unfold State.restartSample
  dsimp only
  split
  · simp
  split
  · split
    · split <;> simp
    · split
      · split <;> simp
      · rfl
    · rfl
  · rfl

@[simp] theorem State.countSample_ledger (e : EngineIx) (p : DerateParams) (x : Sample) :
    (s.countSample e p x).ledger = s.ledger := by
  unfold State.countSample
  split
  · rfl
  split
  · simp
  · dsimp only; split <;> simp

@[simp] theorem State.derateSample_ledger (e : EngineIx) (p : DerateParams) (x : Sample) :
    (s.derateSample e p x).ledger = s.ledger := by
  unfold State.derateSample
  split
  · simp
  · split <;> simp

@[simp] theorem State.forward_ledger (e : EngineIx) (x : Sample) :
    (s.forward e x).ledger = s.ledger := by
  unfold State.forward
  split
  · rfl
  split
  · simp
  · split <;> simp
  · simp

/-! ### The feed supervisor -/

@[simp] theorem State.shed_ledger : s.shed.ledger = s.ledger := by
  unfold State.shed
  split
  · rfl
  · rw [State.stopEngine_ledger]; rfl

@[simp] theorem State.overDraw_ledger (d : Nat) : (s.overDraw d).ledger = s.ledger := by
  unfold State.overDraw
  split
  · rfl
  split
  · split
    · rfl
    · simp
  · rfl

@[simp] theorem sendFeedLost_ledger (e : EngineIx) : (sendFeedLost s e).ledger = s.ledger := by
  unfold sendFeedLost
  split
  · rw [State.takeStop_ledger]; rfl
  · rfl

@[simp] theorem State.feedFault_ledger : s.feedFault.ledger = s.ledger := by
  unfold State.feedFault
  rw [foldl_keeps State.ledger _ sendFeedLost_ledger]
  rfl

@[simp] theorem State.judgeWindow_ledger (v : Nat) : (s.judgeWindow v).ledger = s.ledger := by
  unfold State.judgeWindow
  split
  · split
    · rfl
    split
    · rfl
    · simp
  · split <;> rfl
  · split
    · rfl
    · simp

@[simp] theorem State.feedStaleEvent_ledger : s.feedStaleEvent.ledger = s.ledger := by
  unfold State.feedStaleEvent
  dsimp only
  split
  · rfl
  · rw [State.feedFault_ledger]; rfl

/-! ### The take, the evaluator and the step timers -/

@[simp] theorem State.prepare_ledger (e : EngineIx) (c : WorkingCopy) :
    (s.prepare e c).ledger = s.ledger := by
  unfold State.prepare; split <;> rfl

@[simp] theorem State.takeEvaluation_ledger (e : EngineIx) (c : WorkingCopy) (v : Evaluation) :
    (s.takeEvaluation e c v).ledger = s.ledger := by
  unfold State.takeEvaluation; split <;> simp

@[simp] theorem State.concludeStep_ledger (e : EngineIx) (v : Verdict) :
    (s.concludeStep e v).ledger = s.ledger := by
  simp [State.concludeStep]

@[simp] theorem State.askRearm_ledger (e : EngineIx) (b : BayIx) :
    (s.askRearm e b).ledger = s.ledger := by
  unfold State.askRearm; split <;> rfl

@[simp] theorem State.rearmReport_ledger (e : EngineIx) (b : BayIx) :
    (s.rearmReport e b).ledger = s.ledger := by
  unfold State.rearmReport; dsimp only; split <;> rfl

@[simp] theorem State.requestExtract_ledger (e : EngineIx) (h : Handle) (l : Link) :
    (s.requestExtract e h l).ledger = s.ledger := by
  unfold State.requestExtract
  split
  · split <;> rfl
  · rfl

/-! ### The load link -/

@[simp] theorem State.reportSent_ledger (a : Asked) : (s.reportSent a).ledger = s.ledger := by
  unfold State.reportSent
  split
  · split <;> simp
  · rfl

@[simp] theorem State.takeTurn_ledger : s.takeTurn.ledger = s.ledger := by
  unfold State.takeTurn
  split
  · rw [State.reportSent_ledger]; rfl
  · split <;> rfl

@[simp] theorem State.pollAnswered_ledger (b : BankIx) : (s.pollAnswered b).ledger = s.ledger := rfl

@[simp] theorem State.closeExchange_ledger (b : BankIx) :
    (s.closeExchange b).ledger = s.ledger := rfl

/-- A reply frame leaves the ledger when what it is handed to does. -/
theorem State.onReply_ledger (k : ReplyKind) (bytes : List Byte) {f : Reply → State → State}
    (hf : ∀ y t, (f y t).ledger = t.ledger) : (s.onReply k bytes f).ledger = s.ledger := by
  unfold State.onReply State.live
  split
  · rfl
  · dsimp only
    split
    · rfl
    · simp [hf]

@[simp] theorem State.serviceDrained_ledger (v : Service) :
    (s.serviceDrained v).ledger = s.ledger := by
  unfold State.serviceDrained; dsimp only; split <;> simp

@[simp] theorem State.readyLate_ledger (v : Service) (b : BankIx) :
    (s.readyLate v b).ledger = s.ledger := by
  simp [State.readyLate]

@[simp] theorem State.readyActive_ledger (v : Service) (b : BankIx) :
    (s.readyActive v b).ledger = s.ledger := by
  unfold State.readyActive; dsimp only; split <;> simp

@[simp] theorem State.levelInLoad_ledger (e : EngineIx) (limited : Bool) :
    (s.levelInLoad e limited).ledger = s.ledger := by
  unfold State.levelInLoad
  split
  · simp
  · split <;> simp

@[simp] theorem State.rezero_ledger (e : EngineIx) (b : BankIx) :
    (s.rezero e b).ledger = s.ledger := by
  unfold State.rezero; split <;> simp

@[simp] theorem State.levelTaken_ledger (e : EngineIx) (b : BankIx) (n : Nat) (limited : Bool) :
    (s.levelTaken e b n limited).ledger = s.ledger := by
  unfold State.levelTaken; dsimp only; split <;> simp

@[simp] theorem State.bankGone_ledger (e : EngineIx) (b : BankIx) :
    (s.bankGone e b).ledger = s.ledger := by
  simp [State.bankGone]

@[simp] theorem State.releasedReport_ledger (h : Option EngineIx) (b : BankIx) :
    (s.releasedReport h b).ledger = s.ledger := by
  cases h <;> simp [State.releasedReport]

@[simp] theorem State.answerNoCapacity_ledger (e : EngineIx) :
    (s.answerNoCapacity e).ledger = s.ledger := by
  simp [State.answerNoCapacity]

@[simp] theorem State.connectFailed_ledger (v : Service) :
    (s.connectFailed v).ledger = s.ledger := by
  unfold State.connectFailed; dsimp only; split <;> simp

@[simp] theorem State.chosenLost_ledger (v : Service) : (s.chosenLost v).ledger = s.ledger := by
  unfold State.chosenLost; split <;> simp

@[simp] theorem State.grantLost_ledger (e : EngineIx) (b : BankIx) :
    (s.grantLost e b).ledger = s.ledger := by
  simp [State.grantLost]

@[simp] theorem State.afterLoss_ledger (b : BankIx) (k : Bank) :
    (s.afterLoss b k).ledger = s.ledger := by
  unfold State.afterLoss
  split
  · split <;> simp
  · split <;> simp
  · simp
  · simp
  · rfl

@[simp] theorem testWaiting_ledger (w : BankWait) : (State.ledger (testWaiting s w)) = s.ledger := by
  unfold testWaiting; split <;> simp

@[simp] theorem State.testAfter_ledger (b : State) : (s.testAfter b).ledger = s.ledger := by
  unfold State.testAfter; split <;> simp

@[simp] theorem State.loseBank_ledger (b : BankIx) (c : Option Nat) :
    (s.loseBank b c).ledger = s.ledger := by
  simp [State.loseBank, foldl_keeps State.ledger _ testWaiting_ledger]

/-! ### The soft reset -/

@[simp] theorem State.softArbiter_ledger : s.softArbiter.ledger = s.ledger := by
  unfold State.softArbiter
  rw [foldl_keeps State.ledger _ State.askOwnRelease_ledger]
  rfl

end Sys2Proof.Machine
end

section
/-! SUPPORT. The moves of the tables: everything that a command can do to the records, the start queue, the models and
the feed settings, as a chain of moves each of which the invariants survive. -/

namespace Sys2Proof.Machine

/-! ### Writes of the tables -/

section
variable (s : State)

/-! A sealed record or descriptor differs in its code alone. -/

@[simp] theorem ShelfRecord.seal_serial (r : ShelfRecord) : r.seal.serial = r.serial := rfl
@[simp] theorem ShelfRecord.seal_model (r : ShelfRecord) : r.seal.model = r.model := rfl
@[simp] theorem ShelfRecord.seal_bay (r : ShelfRecord) : r.seal.bay = r.bay := rfl
@[simp] theorem ShelfRecord.seal_state (r : ShelfRecord) : r.seal.state = r.state := rfl
@[simp] theorem ShelfRecord.seal_hold (r : ShelfRecord) : r.seal.hold = r.hold := rfl
@[simp] theorem ShelfRecord.seal_priority (r : ShelfRecord) : r.seal.priority = r.priority := rfl
@[simp] theorem ShelfRecord.seal_cursor (r : ShelfRecord) : r.seal.cursor = r.cursor := rfl
@[simp] theorem ShelfRecord.seal_results (r : ShelfRecord) : r.seal.results = r.results := rfl
@[simp] theorem ShelfRecord.seal_engaged (r : ShelfRecord) : r.seal.engaged = r.engaged := rfl
@[simp] theorem Model.seal_state (x : Model) : x.seal.state = x.state := by
  simp only [Model.seal]
@[simp] theorem Model.seal_refCount (x : Model) : x.seal.refCount = x.refCount := by
  simp only [Model.seal]
@[simp] theorem Model.seal_plan (x : Model) : x.seal.plan = x.plan := by
  simp only [Model.seal]

@[simp] theorem ShelfRecord.seal_bytes (r : ShelfRecord) : r.seal.bytes = r.bytes := by
  unfold ShelfRecord.bytes ShelfRecord.seal; rfl

@[simp] theorem Model.seal_bytes (x : Model) : x.seal.bytes = x.bytes := by
  unfold Model.bytes Model.seal; rfl

/-- R23: a record that has just been written matches its code. -/
@[simp] theorem ShelfRecord.seal_intact (r : ShelfRecord) : r.seal.intact = true := by
  have hc : r.seal.code = crc8 r.bytes := rfl
  unfold ShelfRecord.intact ShelfRecord.crc
  rw [ShelfRecord.seal_bytes, hc]
  exact decide_eq_true_iff.mpr rfl

/-- R44: a descriptor that has just been written matches its code. -/
@[simp] theorem Model.seal_intact (x : Model) : x.seal.intact = true := by
  have hc : x.seal.code = crc8 x.bytes := by simp only [Model.seal, Model.crc]
  unfold Model.intact Model.crc
  rw [Model.seal_bytes, hc]
  exact decide_eq_true_iff.mpr rfl

theorem State.slot_writeRecord (i j : SlotIx) (r : ShelfRecord) :
    (s.writeRecord i r).slot j = if j = i then ⟨(s.slot i).gen, some r.seal⟩ else s.slot j :=
  s.slot_setSlot i j _

theorem State.record_writeRecord (i j : SlotIx) (r : ShelfRecord) :
    (s.writeRecord i r).record j = if j = i then some r.seal else s.record j := by
  unfold State.record
  rw [State.slot_writeRecord]
  split <;> rfl

theorem State.modelSlot_writeModel (m n : ModelIx) (x : Model) :
    (s.writeModel m x).modelSlot n =
      if n = m then ⟨(s.modelSlot m).gen, some x.seal⟩ else s.modelSlot n :=
  s.modelSlot_setModelSlot m n _

theorem State.model_writeModel (m n : ModelIx) (x : Model) :
    (s.writeModel m x).model n = if n = m then some x.seal else s.model n := by
  unfold State.model
  rw [State.modelSlot_writeModel]
  split <;> rfl

/-- A write of a record leaves every generation. -/
@[simp] theorem State.writeRecord_gen (i j : SlotIx) (r : ShelfRecord) :
    ((s.writeRecord i r).slot j).gen = (s.slot j).gen := by
  rw [State.slot_writeRecord]
  split
  · subst j; rfl
  · rfl

/-- A write of a descriptor leaves every generation. -/
@[simp] theorem State.writeModel_gen (m n : ModelIx) (x : Model) :
    ((s.writeModel m x).modelSlot n).gen = (s.modelSlot n).gen := by
  rw [State.modelSlot_writeModel]
  split
  · subst n; rfl
  · rfl

@[simp] theorem State.writeModel_modelHandleOf (m n : ModelIx) (x : Model) :
    (s.writeModel m x).modelHandleOf n = s.modelHandleOf n := by
  simp [State.modelHandleOf]

@[simp] theorem State.writeRecord_handleOf (i j : SlotIx) (r : ShelfRecord) :
    (s.writeRecord i r).handleOf j = s.handleOf j := by
  simp [State.handleOf]

/-- A reference count changes by a write of the model that the handle names, or not at all. -/
theorem State.adjustRef_cases (h : Handle) (f : Nat → Nat) :
    s.adjustRef h f = s ∨ ∃ m x, s.model m = some x ∧ h = s.modelHandleOf m ∧
      s.adjustRef h f = s.writeModel m { x with refCount := f x.refCount } := by
  unfold State.adjustRef
  split
  · split
    · split
      · exact .inr ⟨_, _, ‹_›, ‹_›, rfl⟩
      · exact .inl rfl
    · exact .inl rfl
  · exact .inl rfl

@[simp] theorem State.modelIx_modelHandleOf (m : ModelIx) : (s.modelHandleOf m).modelIx = some m := by
  simp [State.modelHandleOf, Handle.modelIx, Config.modelLimit]

/-- One handle names one model slot. -/
theorem State.modelHandleOf_inj {m n : ModelIx} (h : s.modelHandleOf m = s.modelHandleOf n) :
    m = n := by
  have := congrArg Handle.modelIx h
  simpa using this

/-- R42: the count of an in-use model that the handle names is changed. -/
theorem State.adjustRef_of_model {m : ModelIx} {x : Model} (hx : s.model m = some x)
    (f : Nat → Nat) :
    s.adjustRef (s.modelHandleOf m) f = s.writeModel m { x with refCount := f x.refCount } := by
  simp [State.adjustRef, hx]

/-- R9: the plan length of a record that names a model. -/
theorem State.planLength_of_model {r : ShelfRecord} {m : ModelIx} {x : Model}
    (hr : r.model = s.modelHandleOf m) (hx : s.model m = some x) :
    s.planLength r = x.plan.length := by
  simp [State.planLength, State.modelOf, hr, hx]

end

/-! ### What stays -/

/-- The tables and the start queue stay. -/
structure State.TablesKept (s t : State) : Prop where
  slots : t.store.slots = s.store.slots
  queue : t.store.queue = s.store.queue
  models : t.models.slots = s.models.slots

/-- R20, R188: the code, the effective tier, the tag and the body of a request, which it keeps until it is
answered. -/
def Request.fixed (q : Request) : ReqCode × Nat × Byte × List Byte :=
  (q.code, q.tier, q.tag, q.body)

/-- No link gains a request or changes the one it has. -/
def State.RequestsKept (s t : State) : Prop :=
  ∀ l, (t.link l).request = none ∨
    (t.link l).request.map Request.fixed = (s.link l).request.map Request.fixed

/-- The tables, the start queue and the feed settings stay, and no link gains a request. -/
structure State.Kept (s t : State) : Prop extends State.TablesKept s t where
  budget : t.feed.budget = s.feed.budget
  guard : t.feed.guard = s.feed.guard
  low : t.feed.low = s.feed.low
  high : t.feed.high = s.feed.high
  requests : s.RequestsKept t

section
variable {s t u : State}

theorem State.TablesKept.refl (s : State) : s.TablesKept s := ⟨rfl, rfl, rfl⟩

theorem State.TablesKept.trans (h : s.TablesKept t) (k : t.TablesKept u) : s.TablesKept u :=
  ⟨k.slots.trans h.slots, k.queue.trans h.queue, k.models.trans h.models⟩

theorem State.RequestsKept.trans (h : s.RequestsKept t) (k : t.RequestsKept u) :
    s.RequestsKept u := fun l => by
  rcases k l with k | k
  · exact .inl k
  · rcases h l with h | h
    · rw [h] at k
      exact .inl (by simpa using k)
    · exact .inr (k.trans h)

/-- R20, R188: a request that stands after a change that keeps requests is the one that stood before. -/
theorem State.RequestsKept.fixed_eq {l : Link} {p p' : Request} (h : s.RequestsKept t)
    (hp : (s.link l).request = some p) (hp' : (t.link l).request = some p') :
    p'.fixed = p.fixed := by
  have := h l
  simpa [hp, hp'] using this

/-- Equal ledgers: tables, settings and requests stay. -/
theorem State.Kept.of_ledger (h : t.ledger = s.ledger) : s.Kept t where
  slots := congrArg Ledger.slots h
  queue := congrArg Ledger.queue h
  models := congrArg Ledger.models h
  budget := congrArg Ledger.budget h
  guard := congrArg Ledger.guard h
  low := congrArg Ledger.low h
  high := congrArg Ledger.high h
  requests l := by
    cases l
    · exact .inr (congrArg (fun x => x.execLink.request.map Request.fixed) h)
    · exact .inr (congrArg (fun x => x.consoleLink.request.map Request.fixed) h)

theorem State.Kept.trans (h : s.Kept t) (k : t.Kept u) : s.Kept u where
  toTablesKept := h.toTablesKept.trans k.toTablesKept
  budget := k.budget.trans h.budget
  guard := k.guard.trans h.guard
  low := k.low.trans h.low
  high := k.high.trans h.high
  requests := h.requests.trans k.requests

namespace State.TablesKept
variable (h : s.TablesKept t)
include h

theorem slot (i : SlotIx) : t.slot i = s.slot i := congrArg (·.get i) h.slots
theorem record (i : SlotIx) : t.record i = s.record i := congrArg ShelfSlot.record (h.slot i)
theorem handleOf (i : SlotIx) : t.handleOf i = s.handleOf i := by
  simp only [State.handleOf, h.slot]
theorem modelSlot (m : ModelIx) : t.modelSlot m = s.modelSlot m := congrArg (·.get m) h.models
theorem model (m : ModelIx) : t.model m = s.model m := congrArg ModelSlot.model (h.modelSlot m)
theorem modelHandleOf (m : ModelIx) : t.modelHandleOf m = s.modelHandleOf m := by
  simp only [State.modelHandleOf, h.modelSlot]
theorem queueBefore (i j : SlotIx) : t.queueBefore i j = s.queueBefore i j := by
  simp only [State.queueBefore, State.queueRank, h.record]
theorem namingCount (m : ModelIx) : t.namingCount m = s.namingCount m := by
  simp only [State.namingCount, h.record, h.modelHandleOf]

end State.TablesKept

end

/-! ### The moves -/

/-- R3, R13, R88: a record names an engaged engine exactly when it is RUNNING and a hold reason exactly when it
is HELD. -/
def ShelfRecord.LifecycleHolds (r : ShelfRecord) : Prop :=
  (r.engaged.isSome = true ↔ r.state = .running) ∧ (r.hold.isSome = true ↔ r.state = .held)

/-- R10: results in ascending step index, one entry for an index. -/
def ShelfRecord.ResultsSorted (r : ShelfRecord) : Prop :=
  r.results.Pairwise fun a b => a.index < b.index

/-- The record `r` of slot `i` changes to `r'`: the serial stays, the results stay in order, and the engaged
engine and the hold reason stay with the state. -/
structure State.Alters (s : State) (i : SlotIx) (r r' : ShelfRecord) : Prop where
  record : s.record i = some r
  serial : r'.serial = r.serial
  results : r.ResultsSorted → r'.ResultsSorted
  lifecycle : s.LifecycleHolds → r'.LifecycleHolds

/-- The record `r` of slot `i` changes to `r'` and names the model it named; when it is PASSED after, its
cursor is the plan length, or it was PASSED with this cursor. -/
structure State.Rewrites (s : State) (i : SlotIx) (r r' : ShelfRecord) : Prop
    extends State.Alters s i r r' where
  model : r'.model = r.model
  passed : s.LifecycleHolds → r'.state = .passed →
    (r.state = .passed ∧ r'.cursor = r.cursor) ∨ r'.cursor = s.planLength r

/-- A change of a record that leaves its place in the start queue, or its absence, right. -/
def ShelfRecord.KeepsPlace (r r' : ShelfRecord) : Prop :=
  (r'.state = .queued ↔ r.state = .queued) ∧
    (r.state = .queued → r'.priority = r.priority ∧ r'.bay = r.bay)

/-- R28, R48, R185: the tables and the feed settings of a reset, and no request. -/
structure State.Blank (t : State) : Prop where
  slots : t.store.slots = Tab.fill 32 ⟨1, none⟩
  queue : t.store.queue = []
  models : t.models.slots = Tab.fill 16 ⟨1, none⟩
  settings : t.FeedSettingsInRange
  requests : ∀ l, (t.link l).request = none

/-- R29: every QUEUED or RUNNING record is HELD with reason RESET, and the start queue is empty. -/
@[irreducible] def State.softHeld (s : State) : State := ((List.finRange 32).foldl softHold s).setQueue []

/-- One move: a single write of a table with what goes with it, or a change of neither a table nor a setting. -/
inductive State.Move (s : State) : State → Prop
  | kept {t : State} (h : s.Kept t) : State.Move s t
  | budget {b g : Nat} (hb : b ≤ 60000) : State.Move s (s.setFeed (s.feed.setBudget b g))
  | window {lo hi : Nat} (hw : lo + 100 ≤ hi) (hhi : hi ≤ 6000) :
      State.Move s (s.setFeed (s.feed.setWindow lo hi))
  | blank {t : State} (h : t.Blank) : State.Move s t
  /-- A record keeps its place. -/
  | write {i : SlotIx} {r r' : ShelfRecord} (h : s.Rewrites i r r')
      (hq : s.LifecycleHolds → r.KeepsPlace r') : State.Move s (s.writeRecord i r')
  /-- A record leaves the start queue. -/
  | leave {i : SlotIx} {r r' : ShelfRecord} (h : s.Rewrites i r r') (hq : r'.state ≠ .queued) :
      State.Move s ((s.writeRecord i r').leaveQueue i)
  /-- A record enters the start queue, or moves in it. -/
  | enter {i : SlotIx} {r r' : ShelfRecord} (h : s.Rewrites i r r') (hq : r'.state = .queued) :
      State.Move s ((s.writeRecord i r').joinQueue i)
  /-- R51: ADMIT. -/
  | fill {i : SlotIx} {b : AdmitBody} {tier : Nat} {m : ModelIx} {x : Model}
      (hi : s.record i = none) (hs : s.serialTaken b.serial = false)
      (hm : b.model = s.modelHandleOf m) (hx : s.model m = some x) (ha : x.state = .active) :
      State.Move s
        ((s.writeRecord i (b.record tier)).writeModel m { x with refCount := x.refCount + 1 })
  /-- R69: RELEASE. -/
  | empty {i : SlotIx} {r : ShelfRecord} {u : State} (hr : s.record i = some r)
      (hu : (s.leaveQueue i).Kept u) :
      State.Move s ((u.adjustRef r.model fun n => n - 1).setSlot i
        ⟨State.nextGen (s.slot i).gen, none⟩)
  /-- R61: AMEND of the model handle. -/
  | rename {i : SlotIx} {r : ShelfRecord} {m : ModelIx} {x : Model} (hr : s.record i = some r)
      (hc : amendStateCheck r = none) (hx : s.model m = some x) (ha : x.state = .active) :
      State.Move s (s.changeModel i r (s.modelHandleOf m))
  /-- A descriptor is written. -/
  | describe {m : ModelIx} {x x' : Model} (hx : s.model m = some x)
      (hc : x'.refCount = x.refCount ∨ x'.refCount = s.namingCount m)
      (hp : x.state = .draft ∨ x'.plan = x.plan)
      (hd : x'.state = .draft → x.state = .draft ∨ x.refCount = 0) :
      State.Move s (s.writeModel m x')
  /-- R37: CREATE_MODEL. -/
  | create {m : ModelIx} {name : List Byte} {rev : Nat} (hm : s.model m = none) :
      State.Move s (s.writeModel m (draftModel name rev))
  /-- R41: DISCARD. -/
  | discard {m : ModelIx} {x : Model} (hx : s.model m = some x) (hc : x.refCount = 0) :
      State.Move s (s.discardModel m)
  /-- R29: the soft reset. -/
  | softHold : State.Move s s.softHeld

/-- `t` comes from `s` by a chain of moves. -/
abbrev State.Moves (s t : State) : Prop := Relation.ReflTransGen State.Move s t

end Sys2Proof.Machine
end

section
/-! SUPPORT. What the moves leave: where a record, a descriptor and a generation of the state after a move come from. -/

namespace Sys2Proof.Machine

/-! ### Joining an ordered list -/

theorem insertRanked_perm {α : Type} (before : α → α → Bool) (x : α) (l : List α) :
    (insertRanked before x l).Perm (x :: l) := by
  induction l with
  | nil => exact List.Perm.refl _
  | cons y ys ih =>
    unfold insertRanked
    split
    · exact List.Perm.refl _
    · exact (ih.cons y).trans (List.Perm.swap x y ys)

@[simp] theorem mem_insertRanked {α : Type} (before : α → α → Bool) (x y : α) (l : List α) :
    y ∈ insertRanked before x l ↔ y = x ∨ y ∈ l := by
  rw [(insertRanked_perm before x l).mem_iff, List.mem_cons]

/-- An item that joins an ordered list by a rank leaves it ordered. -/
theorem insertRanked_pairwise {α : Type} {before : α → α → Bool}
    (asymm : ∀ x y, before x y = true → before y x = false)
    (trans : ∀ x y z, before x y = false → before y z = false → before x z = false)
    (x : α) {l : List α} (h : l.Pairwise fun a b => before b a = false) :
    (insertRanked before x l).Pairwise fun a b => before b a = false := by
  induction l with
  | nil => exact List.pairwise_singleton _ x
  | cons y ys ih =>
    obtain ⟨hy, hys⟩ := List.pairwise_cons.mp h
    unfold insertRanked
    split
    next hb =>
      refine List.pairwise_cons.mpr ⟨fun z hz => ?_, h⟩
      rcases List.mem_cons.mp hz with rfl | hz
      · exact asymm _ _ hb
      · exact trans _ _ _ (hy z hz) (asymm _ _ hb)
    next hb =>
      refine List.pairwise_cons.mpr ⟨fun z hz => ?_, ih hys⟩
      rcases (mem_insertRanked before x z ys).mp hz with rfl | hz
      · simpa using hb
      · exact hy z hz

/-- Ranks by priority and bay alone: of two, at most one ranks before the other. -/
theorem ranksBefore_asymm (p b q c : Nat) (h : ranksBefore p b 0 q c 0 = true) :
    ranksBefore q c 0 p b 0 = false := by
  simp only [ranksBefore, Bool.or_eq_true, Bool.and_eq_true, decide_eq_true_eq,
    Bool.or_eq_false_iff, Bool.and_eq_false_iff, decide_eq_false_iff_not] at *
  omega

theorem ranksBefore_trans (p b q c u d : Nat) (h : ranksBefore p b 0 q c 0 = false)
    (k : ranksBefore q c 0 u d 0 = false) : ranksBefore p b 0 u d 0 = false := by
  simp only [ranksBefore, Bool.or_eq_false_iff, Bool.and_eq_false_iff,
    decide_eq_false_iff_not] at *
  omega

/-- R104: a slot that joins an ordered start queue leaves it ordered. -/
theorem State.insertRanked_queueBefore (s : State) (i : SlotIx) {l : List SlotIx}
    (h : l.Pairwise fun a b => s.queueBefore b a = false) :
    (insertRanked s.queueBefore i l).Pairwise fun a b => s.queueBefore b a = false :=
  insertRanked_pairwise (before := s.queueBefore) (fun _ _ => ranksBefore_asymm _ _ _ _)
    (fun _ _ _ => ranksBefore_trans _ _ _ _ _ _) i h

/-- Two tests that agree but at one item of a list without repetition: the numbers that pass differ as the
tests of that item do. -/
theorem length_filter_change {α : Type} {p q : α → Bool} {l : List α} {i : α} (hn : l.Nodup)
    (hi : i ∈ l) (h : ∀ j, j ≠ i → q j = p j) :
    (l.filter q).length + (p i).toNat = (l.filter p).length + (q i).toNat := by
  induction l with
  | nil => cases hi
  | cons a l ih =>
    obtain ⟨ha, hl⟩ := List.nodup_cons.mp hn
    by_cases hai : i = a
    · subst hai
      have : l.filter q = l.filter p :=
        List.filter_congr fun j hj => h j fun e => ha (e ▸ hj)
      rw [List.filter_cons, List.filter_cons, this]
      cases p i <;> cases q i <;> simp
    · have hmem : i ∈ l := (List.mem_cons.mp hi).resolve_left hai
      have := ih hl hmem
      rw [List.filter_cons, List.filter_cons, h a fun e => hai e.symm]
      cases p a <;> simp <;> omega

/-! ### Soft reset -/

/-- R29: the record that a soft reset writes over a QUEUED or RUNNING one. -/
def ShelfRecord.softHeld (r : ShelfRecord) : ShelfRecord :=
  { r with state := .held, hold := some .reset, engaged := none }

/-- R29: a slot after a soft reset. -/
def ShelfSlot.softHeld (x : ShelfSlot) : ShelfSlot :=
  match x.record with
  | some r => if r.state = .queued ∨ r.state = .running then ⟨x.gen, some r.softHeld.seal⟩ else x
  | none => x

theorem softHold_of_record {s : State} {i : SlotIx} {r : ShelfRecord} (hr : s.record i = some r) :
    softHold s i = if r.state = .queued ∨ r.state = .running then
      (s.writeRecord i r.softHeld).attend i Reasons.onlyHeld else s := by
  simp only [softHold, hr, ShelfRecord.softHeld]

theorem softHold_of_free {s : State} {i : SlotIx} (hr : s.record i = none) : softHold s i = s := by
  simp only [softHold, hr]

theorem ShelfSlot.softHeld_some (g : Nat) (r : ShelfRecord) : (ShelfSlot.mk g (some r)).softHeld =
    if r.state = .queued ∨ r.state = .running then ⟨g, some r.softHeld.seal⟩ else ⟨g, some r⟩ := rfl

theorem ShelfSlot.softHeld_none (g : Nat) : (ShelfSlot.mk g none).softHeld = ⟨g, none⟩ := rfl

theorem State.slot_softHold (s : State) (i j : SlotIx) :
    (Sys2Proof.Machine.softHold s i).slot j = if j = i then (s.slot j).softHeld else s.slot j := by
  cases hr : s.record i with
  | none =>
    rw [softHold_of_free hr]
    split
    next h =>
      subst h
      rw [show s.slot j = ⟨(s.slot j).gen, none⟩ from congrArg (ShelfSlot.mk _) hr,
        ShelfSlot.softHeld_none]
    · rfl
  | some r =>
    have hs : s.slot i = ⟨(s.slot i).gen, some r⟩ := congrArg (ShelfSlot.mk _) hr
    rw [softHold_of_record hr]
    split
    next hq =>
      show (s.writeRecord i r.softHeld).slot j = _
      rw [State.slot_writeRecord]
      split
      next h => rw [h, hs, ShelfSlot.softHeld_some, if_pos hq]
      · rfl
    next hq =>
      split
      next h => rw [h, hs, ShelfSlot.softHeld_some, if_neg hq]
      · rfl

@[simp] theorem ShelfSlot.softHeld_softHeld (x : ShelfSlot) : x.softHeld.softHeld = x.softHeld := by
  obtain ⟨g, _ | r⟩ := x
  · rfl
  · by_cases hr : r.state = .queued ∨ r.state = .running
    · rw [ShelfSlot.softHeld_some, if_pos hr, ShelfSlot.softHeld_some,
        if_neg (by simp [ShelfRecord.softHeld])]
    · rw [ShelfSlot.softHeld_some, if_neg hr, ShelfSlot.softHeld_some, if_neg hr]

theorem State.slot_foldl_softHold (s : State) (l : List SlotIx) (j : SlotIx) :
    (l.foldl Sys2Proof.Machine.softHold s).slot j =
      if j ∈ l then (s.slot j).softHeld else s.slot j := by
  induction l generalizing s with
  | nil => simp
  | cons i l ih =>
    rw [List.foldl_cons, ih, State.slot_softHold]
    by_cases hj : j = i <;> by_cases hl : j ∈ l <;> simp [hj, hl]

@[simp] theorem softHold_models (s : State) (i : SlotIx) :
    (State.models (softHold s i)) = s.models := by
  unfold softHold
  split
  · split <;> rfl
  · rfl

@[simp] theorem State.slot_setQueue (s : State) (q : List SlotIx) (j : SlotIx) :
    (s.setQueue q).slot j = s.slot j := rfl

theorem State.slot_softHeld (s : State) (j : SlotIx) : s.softHeld.slot j = (s.slot j).softHeld := by
  unfold State.softHeld
  rw [State.slot_setQueue, State.slot_foldl_softHold, if_pos (List.mem_finRange j)]

@[simp] theorem State.softHeld_models (s : State) : s.softHeld.models = s.models := by
  unfold State.softHeld
  rw [State.setQueue_models, foldl_keeps State.models _ softHold_models]

/-- R29: a record after a soft reset is one that was neither QUEUED nor RUNNING, or is HELD with reason
RESET. -/
theorem State.record_softHeld {s : State} {j : SlotIx} {r' : ShelfRecord}
    (h : s.softHeld.record j = some r') :
    (s.record j = some r' ∧ r'.state ≠ .queued) ∨
      ∃ r, s.record j = some r ∧ r' = r.softHeld.seal := by
  unfold State.record at *
  rw [State.slot_softHeld] at h
  unfold ShelfSlot.softHeld at h
  split at h
  next r hr =>
    split at h
    · exact .inr ⟨r, hr, (Option.some.inj h).symm⟩
    next hn =>
      refine .inl ⟨h, fun hq => hn ?_⟩
      rw [hr] at h
      cases h
      exact .inl hq
  next hr => rw [hr] at h; cases h

/-! ### References -/

@[simp] theorem State.adjustRef_store (s : State) (h : Handle) (f : Nat → Nat) :
    (s.adjustRef h f).store = s.store := by
  obtain k | ⟨m, x, -, -, k⟩ := s.adjustRef_cases h f <;> rw [k]
  rfl

/-- R61: the record that AMEND of the model handle writes. -/
def State.renamed (s : State) (r : ShelfRecord) (h : Handle) : ShelfRecord :=
  { r with model := h, cursor := 0, results := [], state := s.stateAfterModel r }

@[simp] theorem State.changeModel_store (s : State) (i : SlotIx) (r : ShelfRecord) (h : Handle) :
    (s.changeModel i r h).store = (s.writeRecord i (s.renamed r h)).store := by
  unfold State.changeModel
  dsimp only
  split
  · rfl
  · simp only [State.adjustRef_store]
    rfl

/-- Every descriptor stands, or is written with its state and its plan. -/
def State.Recounted (s t : State) : Prop :=
  ∀ m, t.modelSlot m = s.modelSlot m ∨ ∃ x y, s.model m = some x ∧
    t.modelSlot m = ⟨(s.modelSlot m).gen, some y⟩ ∧ y.intact = true ∧ y.state = x.state ∧
    y.plan = x.plan

theorem State.Recounted.of_models (s t : State) (h : t.models.slots = s.models.slots) :
    s.Recounted t := fun m => .inl (congrArg (·.get m) h)

theorem State.Recounted.writeModel {s : State} {m : ModelIx} {x y : Model}
    (hx : s.model m = some x) (hs : y.state = x.state) (hp : y.plan = x.plan) :
    s.Recounted (s.writeModel m y) := by
  intro k
  rw [State.modelSlot_writeModel]
  by_cases hk : k = m
  · subst hk
    exact .inr ⟨x, y.seal, hx, if_pos rfl, y.seal_intact, y.seal_state.trans hs, y.seal_plan.trans hp⟩
  · exact .inl (if_neg hk)

theorem State.Recounted.trans {s t u : State} (h : s.Recounted t) (k : t.Recounted u) :
    s.Recounted u := by
  intro m
  obtain k | ⟨x, z, hx, k, hi, hs, hp⟩ := k m
  · rw [k]; exact h m
  obtain h | ⟨x', y, hy, h, -, hs', hp'⟩ := h m
  · exact .inr ⟨x, z, (congrArg ModelSlot.model h).symm.trans hx, by rw [k, h], hi, hs, hp⟩
  · obtain rfl := Option.some.inj (hx.symm.trans (congrArg ModelSlot.model h))
    exact .inr ⟨x', z, hy, by rw [k, h], hi, hs.trans hs', hp.trans hp'⟩

theorem State.Recounted.adjustRef (s : State) (h : Handle) (f : Nat → Nat) :
    s.Recounted (s.adjustRef h f) := by
  obtain k | ⟨m, x, hx, -, k⟩ := s.adjustRef_cases h f <;> rw [k]
  · exact .of_models _ _ rfl
  · exact .writeModel hx rfl rfl

theorem State.Recounted.changeModel (s : State) (i : SlotIx) (r : ShelfRecord) (h : Handle) :
    s.Recounted (s.changeModel i r h) := by
  unfold State.changeModel
  extract_lets u
  have hu : s.Recounted u := .of_models s u rfl
  split
  · exact hu
  · exact hu.trans ((State.Recounted.adjustRef u _ _).trans (.adjustRef _ _ _))

theorem State.Recounted.gen {s t : State} (h : s.Recounted t) (m : ModelIx) :
    (t.modelSlot m).gen = (s.modelSlot m).gen := by
  obtain h | ⟨x, y, -, h, -⟩ := h m <;> rw [h]

theorem State.Recounted.modelHandleOf {s t : State} (h : s.Recounted t) (m : ModelIx) :
    t.modelHandleOf m = s.modelHandleOf m := by
  simp only [State.modelHandleOf, h.gen]

/-! ### Where records come from -/

/-- R5: the record names an ACTIVE model. -/
def State.NamesActive (s : State) (r : ShelfRecord) : Prop :=
  ∃ m x, r.model = s.modelHandleOf m ∧ s.model m = some x ∧ x.state = .active

/-- Where the record `r'` of slot `j` of the state `t` after a move comes from. One that ADMIT wrote has a serial
that no record had, and the other slots stand. -/
inductive State.RecordFrom (s t : State) (j : SlotIx) (r' : ShelfRecord) : Prop
  | same (h : s.record j = some r')
  | rewritten {r q : ShelfRecord} (h : s.Rewrites j r q) (hr : r' = q.seal)
  | renamed {r q : ShelfRecord} (h : s.Alters j r q) (hp : q.state ≠ .passed)
      (ha : s.NamesActive q) (hr : r' = q.seal)
  | admitted {b : AdmitBody} {tier : Nat} (ha : s.NamesActive (b.record tier))
      (hs : s.serialTaken b.serial = false) (ho : ∀ k, k ≠ j → t.record k = s.record k)
      (hr : r' = (b.record tier).seal)

/-- A record after a write of slot `i`: the one written, or one that stood. -/
theorem State.record_of_store {s t : State} {i j : SlotIx} {q r' : ShelfRecord}
    (ht : t.store.slots = (s.writeRecord i q).store.slots) (hr : t.record j = some r') :
    (j = i ∧ r' = q.seal) ∨ (j ≠ i ∧ s.record j = some r') := by
  have hj : t.record j = (s.writeRecord i q).record j := congrArg (fun x => (x.get j).record) ht
  rw [hj, State.record_writeRecord] at hr
  split at hr
  · exact .inl ⟨‹_›, (Option.some.inj hr).symm⟩
  · exact .inr ⟨‹_›, hr⟩

theorem State.RecordFrom.of_rewrites {s t : State} {i j : SlotIx} {r q r' : ShelfRecord}
    (h : s.Rewrites i r q) (ht : t.store.slots = (s.writeRecord i q).store.slots)
    (hr : t.record j = some r') : s.RecordFrom t j r' := by
  obtain ⟨rfl, rfl⟩ | ⟨-, hr⟩ := State.record_of_store ht hr
  · exact .rewritten h rfl
  · exact .same hr

/-- A record that can be renamed is neither QUEUED nor RUNNING. -/
theorem amendStateCheck_eq_none {r : ShelfRecord} :
    amendStateCheck r = none ↔ r.state ≠ .queued ∧ r.state ≠ .running := by
  unfold amendStateCheck
  split <;> simp_all

/-- R80, R81, R62: the states of a record that its bay and seat alone give. -/
theorem RecState.ne_of_seat_state {x : RecState} (hx : x ∈ [RecState.staged, .bound, .ready]) :
    x ≠ .running ∧ x ≠ .held ∧ x ≠ .queued ∧ x ≠ .passed := by
  simp only [List.mem_cons, List.not_mem_nil, or_false] at hx
  obtain rfl | rfl | rfl := hx <;> simp

theorem State.stateAfterModel_cases (s : State) (r : ShelfRecord) :
    (r.state ≠ .passed ∧ s.stateAfterModel r = r.state) ∨
      ((r.state = .passed ∨ r.state = .failed) ∧
        s.stateAfterModel r ∈ [RecState.staged, .bound, .ready]) := by
  unfold State.stateAfterModel
  split
  next hr =>
    refine .inr ⟨hr, ?_⟩
    split
    · simp
    · split <;> simp
  next hr => exact .inl ⟨fun h => hr (.inl h), rfl⟩

theorem State.renamed_alters {s : State} {i : SlotIx} {r : ShelfRecord} (h : Handle)
    (hr : s.record i = some r) (hc : amendStateCheck r = none) :
    s.Alters i r (s.renamed r h) where
  record := hr
  serial := rfl
  results _ := List.Pairwise.nil
  lifecycle hs := by
    obtain ⟨hq, hn⟩ := amendStateCheck_eq_none.mp hc
    obtain ⟨he, hh⟩ := hs.2.2 i r hr
    unfold ShelfRecord.LifecycleHolds State.renamed
    obtain ⟨-, k⟩ | ⟨h1, h2⟩ := s.stateAfterModel_cases r
    · rw [k]
      exact ⟨he, hh⟩
    · obtain ⟨hrun, hheld, -⟩ := RecState.ne_of_seat_state h2
      have hr : r.state ≠ .running ∧ r.state ≠ .held := by obtain h1 | h1 := h1 <;> simp [h1]
      exact ⟨he.trans (iff_of_false hr.1 hrun), hh.trans (iff_of_false hr.2 hheld)⟩

theorem State.renamed_state_ne {s : State} (r : ShelfRecord) (h : Handle) :
    (s.renamed r h).state ≠ .passed := by
  unfold State.renamed
  obtain ⟨h1, k⟩ | ⟨-, h2⟩ := s.stateAfterModel_cases r
  · rw [k]
    exact h1
  · exact (RecState.ne_of_seat_state h2).2.2.2

/-- R29: a soft reset rewrites a record that is QUEUED or RUNNING. -/
theorem State.softHeld_rewrites {s : State} {j : SlotIx} {r : ShelfRecord}
    (hr : s.record j = some r) : s.Rewrites j r r.softHeld where
  record := hr
  serial := rfl
  results h := h
  lifecycle _ := by simp [ShelfRecord.LifecycleHolds, ShelfRecord.softHeld]
  model := rfl
  passed _ h := by simp [ShelfRecord.softHeld] at h

/-- Where each record of the state after a move comes from. -/
theorem State.Move.record_from {s t : State} (h : s.Move t) {j : SlotIx} {r' : ShelfRecord}
    (hr : t.record j = some r') : s.RecordFrom t j r' := by
  cases h with
  | kept h => exact .same (by rwa [h.record] at hr)
  | budget => exact .same hr
  | window => exact .same hr
  | blank h =>
    have : t.record j = none := by simp [State.record, State.slot, h.slots]
    simp [this] at hr
  | write h => exact .of_rewrites h rfl hr
  | leave h => exact .of_rewrites h rfl hr
  | enter h => exact .of_rewrites h rfl hr
  | fill hi hs hm hx ha =>
    obtain ⟨rfl, rfl⟩ | ⟨-, hr⟩ := State.record_of_store rfl hr
    · refine .admitted ⟨_, _, hm, hx, ha⟩ hs (fun k hk => ?_) rfl
      exact (s.record_writeRecord j k _).trans (if_neg hk)
    · exact .same hr
  | @empty i r u _ hu =>
    have hj : (u.adjustRef r.model fun n => n - 1).record j = s.record j :=
      (congrArg (fun x : Store => (x.slots.get j).record) (State.adjustRef_store ..)).trans
        (hu.record j)
    unfold State.record at hr
    rw [State.slot_setSlot] at hr
    split at hr
    · simp at hr
    · exact .same (hj.symm.trans hr)
  | rename hi hc hx ha =>
    obtain ⟨rfl, rfl⟩ | ⟨-, hr⟩ :=
      State.record_of_store (congrArg Store.slots (State.changeModel_store ..)) hr
    · exact .renamed (State.renamed_alters _ hi hc) (State.renamed_state_ne _ _)
        ⟨_, _, rfl, hx, ha⟩ rfl
    · exact .same hr
  | describe => exact .same hr
  | create => exact .same hr
  | discard => exact .same hr
  | softHold =>
    obtain ⟨k, -⟩ | ⟨r, k, rfl⟩ := State.record_softHeld hr
    · exact .same k
    · exact .rewritten (State.softHeld_rewrites k) rfl

/-! ### Where descriptors come from -/

/-- Where the descriptor `x'` of slot `m` of the state `t` after a move comes from: the handle stays, an empty
slot was filled, or the descriptor that stood was written, with its plan unless it was a DRAFT, and to a DRAFT
only when it was one or no record counted. -/
structure State.ModelFrom (s t : State) (m : ModelIx) (x' : Model) : Prop where
  handle : t.modelHandleOf m = s.modelHandleOf m
  intact : s.model m = some x' ∨ x'.intact = true
  source : s.model m = none ∨ ∃ x, s.model m = some x ∧ (x.state = .draft ∨ x'.plan = x.plan) ∧
    (x'.state = .draft → x.state = .draft ∨ (x.refCount = 0 ∧ ∀ j, t.record j = s.record j))

theorem State.ModelFrom.of_recounted {s t : State} (h : s.Recounted t) {m : ModelIx} {x' : Model}
    (hx : t.model m = some x') : s.ModelFrom t m x' := by
  obtain k | ⟨x, y, hs, k, hi, hst, hp⟩ := h m
  · have : s.model m = some x' := (congrArg ModelSlot.model k).symm.trans hx
    exact ⟨h.modelHandleOf m, .inl this, .inr ⟨x', this, .inr rfl, .inl⟩⟩
  · obtain rfl := Option.some.inj (hx.symm.trans (congrArg ModelSlot.model k))
    exact ⟨h.modelHandleOf m, .inr hi, .inr ⟨x, hs, .inr hp, fun hd => .inl (hst ▸ hd)⟩⟩

theorem State.ModelFrom.of_models (s t : State) (h : t.models.slots = s.models.slots) {m : ModelIx}
    {x' : Model} (hx : t.model m = some x') : s.ModelFrom t m x' :=
  .of_recounted (.of_models s t h) hx

/-- A descriptor after a write of slot `m`: the one written, or one that stood. -/
theorem State.model_of_writeModel {s : State} {m k : ModelIx} {y x' : Model}
    (hx : (s.writeModel m y).model k = some x') :
    (k = m ∧ x' = y.seal) ∨ (k ≠ m ∧ s.model k = some x') := by
  rw [State.model_writeModel] at hx
  split at hx
  · exact .inl ⟨‹_›, (Option.some.inj hx).symm⟩
  · exact .inr ⟨‹_›, hx⟩

/-- Where each descriptor of the state after a move comes from. -/
theorem State.Move.model_from {s t : State} (h : s.Move t) {m : ModelIx} {x' : Model}
    (hx' : t.model m = some x') : s.ModelFrom t m x' := by
  cases h with
  | kept h => exact .of_models _ _ h.models hx'
  | budget => exact .of_models s _ (by rfl) hx'
  | window => exact .of_models s _ (by rfl) hx'
  | blank h =>
    have : t.model m = none := by simp [State.model, State.modelSlot, h.models]
    simp [this] at hx'
  | write => exact .of_models s _ (by rfl) hx'
  | leave => exact .of_models s _ (by rfl) hx'
  | enter => exact .of_models s _ (by rfl) hx'
  | @fill i b tier k x _ _ _ hx =>
    refine .of_recounted (.trans (.of_models s (s.writeRecord i (b.record tier)) rfl) ?_) hx'
    exact .writeModel (s := s.writeRecord i (b.record tier)) hx rfl rfl
  | @empty i r u _ hu =>
    refine .of_recounted (.trans (.of_models s u hu.models) ?_) hx'
    exact .trans (.adjustRef u r.model fun n => n - 1) (.of_models _ _ rfl)
  | @rename i r k x => exact .of_recounted (State.Recounted.changeModel s i r _) hx'
  | @describe k x y hx hc hp hd =>
    obtain ⟨rfl, rfl⟩ | ⟨-, hx'⟩ := State.model_of_writeModel hx'
    · exact ⟨s.writeModel_modelHandleOf .., .inr y.seal_intact, .inr ⟨x, hx, by simpa using hp,
        fun h => (hd (by simpa using h)).imp id fun h => ⟨h, fun _ => rfl⟩⟩⟩
    · exact ⟨s.writeModel_modelHandleOf .., .inl hx', .inr ⟨x', hx', .inr rfl, .inl⟩⟩
  | create hm =>
    obtain ⟨rfl, rfl⟩ | ⟨-, hx'⟩ := State.model_of_writeModel hx'
    · exact ⟨s.writeModel_modelHandleOf .., .inr (Model.seal_intact _), .inl hm⟩
    · exact ⟨s.writeModel_modelHandleOf .., .inl hx', .inr ⟨x', hx', .inr rfl, .inl⟩⟩
  | @discard k x hx hc =>
    have hk : m ≠ k := fun e => by
      subst e
      simp [State.discardModel, State.model, State.modelSlot_setModelSlot] at hx'
    have hm : (s.discardModel k).modelSlot m = s.modelSlot m := by
      rw [State.discardModel, State.modelSlot_setModelSlot, if_neg hk]
    have hx' : s.model m = some x' := (congrArg ModelSlot.model hm).symm.trans hx'
    exact ⟨by simp only [State.modelHandleOf, hm], .inl hx', .inr ⟨x', hx', .inr rfl, .inl⟩⟩
  | softHold => exact .of_models _ _ (congrArg ModelTable.slots s.softHeld_models) hx'

end Sys2Proof.Machine
end

section
/-! SUPPORT. Every move keeps the invariants of the tables and of the feed settings. -/

namespace Sys2Proof.Machine

/-! ### Generations and settings (R14, R173, R174) -/

/-- R14: a generation stays, rises by one or is that of a reset. -/
def GenerationFrom (g g' : Nat) : Prop := g' = g ∨ g' = State.nextGen g ∨ g' = 1

theorem GenerationFrom.inRange {g g' : Nat} (h : GenerationFrom g g') (hg : 1 ≤ g ∧ g ≤ 1023) :
    1 ≤ g' ∧ g' ≤ 1023 := by
  rcases h with h | h | h
  · omega
  · unfold State.nextGen at h
    split at h <;> omega
  · omega

theorem State.Move.slot_gen {s t : State} (h : s.Move t) (j : SlotIx) :
    GenerationFrom (s.slot j).gen (t.slot j).gen := by
  cases h with
  | kept h => exact .inl (by rw [h.slot])
  | budget => exact .inl rfl
  | window => exact .inl rfl
  | blank h => exact .inr (.inr (by simp [State.slot, h.slots]))
  | write => exact .inl (s.writeRecord_gen ..)
  | leave => exact .inl (s.writeRecord_gen ..)
  | enter => exact .inl (s.writeRecord_gen ..)
  | fill => exact .inl (s.writeRecord_gen ..)
  | @empty i r u _ hu =>
    have hj : (u.adjustRef r.model fun n => n - 1).slot j = s.slot j :=
      (congrArg (fun x : Store => x.slots.get j) (State.adjustRef_store ..)).trans (hu.slot j)
    rw [State.slot_setSlot]
    split
    · subst j; exact .inr (.inl rfl)
    · exact .inl (congrArg ShelfSlot.gen hj)
  | @rename i r m =>
    refine .inl (Eq.trans ?_ (s.writeRecord_gen i j (s.renamed r (s.modelHandleOf m))))
    exact congrArg (fun x : Store => (x.slots.get j).gen) (State.changeModel_store ..)
  | describe => exact .inl rfl
  | create => exact .inl rfl
  | discard => exact .inl rfl
  | softHold =>
    rw [State.slot_softHeld]
    unfold ShelfSlot.softHeld
    split
    · split <;> exact .inl rfl
    · exact .inl rfl

theorem State.Move.modelSlot_gen {s t : State} (h : s.Move t) (m : ModelIx) :
    GenerationFrom (s.modelSlot m).gen (t.modelSlot m).gen := by
  cases h with
  | kept h => exact .inl (by rw [h.modelSlot])
  | budget => exact .inl rfl
  | window => exact .inl rfl
  | blank h => exact .inr (.inr (by simp [State.modelSlot, h.models]))
  | write => exact .inl rfl
  | leave => exact .inl rfl
  | enter => exact .inl rfl
  | @fill i b tier => exact .inl ((s.writeRecord i (b.record tier)).writeModel_gen ..)
  | @empty i r u _ hu =>
    refine .inl (Eq.trans ((State.Recounted.adjustRef u _ _).gen m) ?_)
    exact congrArg ModelSlot.gen (hu.modelSlot m)
  | @rename i r k => exact .inl ((State.Recounted.changeModel s i r _).gen m)
  | describe => exact .inl (s.writeModel_gen ..)
  | create => exact .inl (s.writeModel_gen ..)
  | discard =>
    rw [State.discardModel, State.modelSlot_setModelSlot]
    split
    · subst m; exact .inr (.inl rfl)
    · exact .inl rfl
  | softHold => exact .inl (congrArg (fun x : ModelTable => (x.slots.get m).gen) s.softHeld_models)

theorem State.Move.generationsInRange {s t : State} (h : s.Move t) (hs : s.GenerationsInRange) :
    t.GenerationsInRange :=
  ⟨fun i => (h.slot_gen i).inRange (hs.1 i), fun m => (h.modelSlot_gen m).inRange (hs.2 m)⟩

@[simp] theorem State.adjustRef_feed (s : State) (h : Handle) (f : Nat → Nat) :
    (s.adjustRef h f).feed = s.feed := by
  obtain k | ⟨m, x, -, -, k⟩ := s.adjustRef_cases h f <;> rw [k]
  rfl

@[simp] theorem State.changeModel_feed (s : State) (i : SlotIx) (r : ShelfRecord) (h : Handle) :
    (s.changeModel i r h).feed = s.feed := by
  unfold State.changeModel
  dsimp only
  split
  · rfl
  · simp only [State.adjustRef_feed]; rfl

@[simp] theorem softHold_feed (s : State) (i : SlotIx) : (State.feed (softHold s i)) = s.feed := by
  unfold softHold
  split
  · split <;> rfl
  · rfl

@[simp] theorem State.softHeld_feed (s : State) : s.softHeld.feed = s.feed := by
  unfold State.softHeld
  rw [State.setQueue_feed, foldl_keeps State.feed _ softHold_feed]

/-- Equal settings: in range together. -/
theorem State.FeedSettingsInRange.of_eq {s t : State} (hs : s.FeedSettingsInRange)
    (hb : t.feed.budget = s.feed.budget) (hg : t.feed.guard = s.feed.guard)
    (hl : t.feed.low = s.feed.low) (hh : t.feed.high = s.feed.high) : t.FeedSettingsInRange := by
  unfold State.FeedSettingsInRange
  rw [hb, hg, hl, hh]
  exact hs

theorem State.Move.feedSettingsInRange {s t : State} (h : s.Move t) (hs : s.FeedSettingsInRange) :
    t.FeedSettingsInRange := by
  have keep {t : State} (ht : t.feed = s.feed) : t.FeedSettingsInRange :=
    hs.of_eq (by rw [ht]) (by rw [ht]) (by rw [ht]) (by rw [ht])
  obtain ⟨-, -, hw, hh⟩ := id hs
  cases h with
  | kept h => exact hs.of_eq h.budget h.guard h.low h.high
  | @budget b g hb => exact ⟨Nat.min_le_right g b, hb, hw, hh⟩
  | window hw hhi => exact ⟨hs.1, hs.2.1, hw, hhi⟩
  | blank h => exact h.settings
  | write => exact keep rfl
  | leave => exact keep rfl
  | enter => exact keep rfl
  | fill => exact keep rfl
  | @empty i r u _ hu =>
    have hf := u.adjustRef_feed r.model fun n => n - 1
    exact hs.of_eq (by rw [State.setSlot_feed, hf, hu.budget]; rfl)
      (by rw [State.setSlot_feed, hf, hu.guard]; rfl)
      (by rw [State.setSlot_feed, hf, hu.low]; rfl)
      (by rw [State.setSlot_feed, hf, hu.high]; rfl)
  | rename => exact keep (State.changeModel_feed ..)
  | describe => exact keep rfl
  | create => exact keep rfl
  | discard => exact keep rfl
  | softHold => exact keep s.softHeld_feed

/-! ### Integrity codes (R23, R44) -/

theorem State.Move.codesMatch {s t : State} (h : s.Move t) (hs : s.CodesMatch) : t.CodesMatch := by
  refine ⟨fun i r hr => ?_, fun m x hx => (h.model_from hx).intact.elim (hs.2 m x) id⟩
  cases h.record_from hr with
  | same h => exact hs.1 i r h
  | rewritten _ hr => rw [hr]; exact ShelfRecord.seal_intact _
  | renamed _ _ _ hr => rw [hr]; exact ShelfRecord.seal_intact _
  | admitted _ _ _ hr => rw [hr]; exact ShelfRecord.seal_intact _

/-! ### Lifecycle (R3, R13, R84) -/

/-- R13, R88: the engaged engine and the hold reason of each record after a move. -/
theorem State.Move.record_lifecycle {s t : State} (h : s.Move t) (hs : s.LifecycleHolds)
    {i : SlotIx} {r : ShelfRecord} (hr : t.record i = some r) : r.LifecycleHolds := by
  cases h.record_from hr with
  | same h => exact hs.2.2 i r h
  | rewritten h hr => rw [hr]; exact h.lifecycle hs
  | renamed h _ _ hr => rw [hr]; exact h.lifecycle hs
  | admitted _ _ _ hr => rw [hr]; simp [ShelfRecord.LifecycleHolds, AdmitBody.record]

/-- R104: the start queue holds each QUEUED record once and no other. -/
def State.QueueExact (s : State) : Prop :=
  s.store.queue.Nodup ∧ ∀ i, i ∈ s.store.queue ↔ (s.record i).map (·.state) = some .queued

/-- A write of slot `i` that leaves the other slots: the queue is right when it is right of slot `i`. -/
theorem State.QueueExact.of_write {s t : State} {i : SlotIx} {q : ShelfRecord} (hs : s.QueueExact)
    (ht : t.store.slots = (s.writeRecord i q).store.slots) (hn : t.store.queue.Nodup)
    (hi : i ∈ t.store.queue ↔ q.state = .queued)
    (hj : ∀ j, j ≠ i → (j ∈ t.store.queue ↔ j ∈ s.store.queue)) : t.QueueExact := by
  refine ⟨hn, fun j => ?_⟩
  have hr : t.record j = if j = i then some q.seal else s.record j :=
    (congrArg (fun x : Tab ShelfSlot 32 => (x.get j).record) ht).trans (s.record_writeRecord i j q)
  rw [hr]
  by_cases h : j = i
  · subst h; simpa using hi
  · rw [if_neg h, hj j h, hs.2 j]

theorem State.QueueExact.of_kept {s t : State} (hs : s.QueueExact) (h : s.TablesKept t) :
    t.QueueExact := by
  unfold State.QueueExact
  simp only [h.queue, h.record]
  exact hs

theorem State.queue_filter_mem {q : List SlotIx} {i j : SlotIx} :
    j ∈ q.filter (· ≠ i) ↔ j ∈ q ∧ j ≠ i := by simp

theorem State.Move.queueExact {s t : State} (h : s.Move t) (hs : s.LifecycleHolds) :
    t.QueueExact := by
  have hq : s.QueueExact := ⟨hs.1, hs.2.1⟩
  cases h with
  | kept h => exact hq.of_kept h.toTablesKept
  | budget => exact hq
  | window => exact hq
  | blank h =>
    refine ⟨by rw [h.queue]; exact List.nodup_nil, fun i => ?_⟩
    simp [h.queue, State.record, State.slot, h.slots]
  | @write i r r' h hp =>
    refine hq.of_write (q := r') rfl hq.1 ?_ fun j _ => Iff.rfl
    refine Iff.trans (hq.2 i) ?_
    simpa [h.record] using (hp hs).1.symm
  | @leave i r r' h hp =>
    refine hq.of_write (q := r') rfl (hq.1.filter _) ?_ fun j hj => ?_
    · exact ⟨fun h => absurd rfl (State.queue_filter_mem.mp h).2, fun h => absurd h hp⟩
    · exact State.queue_filter_mem.trans (and_iff_left hj)
  | @enter i r r' h hp =>
    refine hq.of_write (q := r') rfl ?_ ?_ fun j hj => ?_
    · refine (insertRanked_perm _ _ _).nodup_iff.mpr (List.nodup_cons.mpr ⟨?_, hq.1.filter _⟩)
      exact fun h => (State.queue_filter_mem.mp h).2 rfl
    · exact iff_of_true ((mem_insertRanked ..).mpr (.inl rfl)) hp
    · refine (mem_insertRanked ..).trans ((or_iff_right hj).trans ?_)
      exact State.queue_filter_mem.trans (and_iff_left hj)
  | @fill i b tier m x hi =>
    refine hq.of_write (q := b.record tier) rfl hq.1 ?_ fun j _ => Iff.rfl
    refine iff_of_false (fun h => ?_) (by simp [AdmitBody.record])
    have := (hq.2 i).mp h
    simp [hi] at this
  | @empty i r u _ hu =>
    have hst := u.adjustRef_store r.model fun n => n - 1
    have hqu : ((u.adjustRef r.model fun n => n - 1).setSlot i
        ⟨State.nextGen (s.slot i).gen, none⟩).store.queue = s.store.queue.filter (· ≠ i) :=
      (congrArg Store.queue hst).trans hu.queue
    refine ⟨by rw [hqu]; exact hq.1.filter _, fun j => ?_⟩
    have hj : (u.adjustRef r.model fun n => n - 1).slot j = s.slot j :=
      (congrArg (fun x : Store => x.slots.get j) hst).trans (hu.slot j)
    rw [hqu, State.queue_filter_mem, State.record, State.slot_setSlot]
    by_cases hji : j = i
    · simp [hji]
    · rw [if_neg hji, hj, hq.2 j]
      exact and_iff_left hji
  | @rename i r m x hr hc =>
    have hst := State.changeModel_store s i r (s.modelHandleOf m)
    have hqu : (s.changeModel i r (s.modelHandleOf m)).store.queue = s.store.queue := by
      rw [hst]; rfl
    refine hq.of_write (congrArg Store.slots hst) (by rw [hqu]; exact hq.1) ?_
      fun j _ => by rw [hqu]
    obtain ⟨hnq, -⟩ := amendStateCheck_eq_none.mp hc
    rw [hqu, hq.2 i, hr]
    refine iff_of_false (by simpa using hnq) ?_
    unfold State.renamed
    obtain ⟨-, k⟩ | ⟨-, k⟩ := s.stateAfterModel_cases r
    · rw [k]
      exact hnq
    · exact (RecState.ne_of_seat_state k).2.2.1
  | describe => exact hq
  | create => exact hq
  | discard => exact hq
  | softHold =>
    have hqu : s.softHeld.store.queue = [] := by unfold State.softHeld; rw [State.setQueue_store]
    refine ⟨by rw [hqu]; exact List.nodup_nil, fun j => ?_⟩
    rw [hqu]
    refine iff_of_false (by simp) fun h => ?_
    obtain ⟨r, hr, hst⟩ := Option.map_eq_some_iff.mp h
    obtain ⟨-, k⟩ | ⟨q, -, rfl⟩ := State.record_softHeld hr
    · exact k hst
    · simp [ShelfRecord.softHeld] at hst

theorem State.Move.lifecycleHolds {s t : State} (h : s.Move t) (hs : s.LifecycleHolds) :
    t.LifecycleHolds :=
  have hq := h.queueExact hs
  ⟨hq.1, hq.2, fun _ _ hr => h.record_lifecycle hs hr⟩

/-! ### Order of the start queue (R104) -/

/-- A part of an ordered start queue whose slots rank as they did is ordered. -/
theorem State.QueueOrdered.sublist {s t : State} {l : List SlotIx} (hs : s.QueueOrdered)
    (hl : l.Sublist s.store.queue) (hr : ∀ i ∈ l, t.queueRank i = s.queueRank i) :
    l.Pairwise fun i j => t.queueBefore j i = false := by
  refine List.Pairwise.imp_of_mem (fun {i j} hi hj h => ?_) (List.Pairwise.sublist hl hs)
  unfold State.queueBefore
  rw [hr i hi, hr j hj]
  exact h

/-- A slot whose record stands ranks as it did. -/
theorem State.queueRank_congr {s t : State} {i : SlotIx} (h : t.record i = s.record i) :
    t.queueRank i = s.queueRank i := by
  simp only [State.queueRank, h]

/-- A write of slot `i` leaves the rank of the other slots. -/
theorem State.queueRank_writeRecord {s t : State} {i j : SlotIx} {q : ShelfRecord}
    (ht : t.store.slots = (s.writeRecord i q).store.slots) (hj : j ≠ i) :
    t.queueRank j = s.queueRank j := by
  refine State.queueRank_congr ?_
  have := s.record_writeRecord i j q
  rw [if_neg hj] at this
  exact (congrArg (fun x : Tab ShelfSlot 32 => (x.get j).record) ht).trans this

theorem State.queueRank_of_record {s : State} {i : SlotIx} {r : ShelfRecord}
    (h : s.record i = some r) :
    s.queueRank i = (r.priority, (r.bay.map (·.val)).getD 24) := by
  unfold State.queueRank
  cases hb : r.bay <;> simp [h, hb]

theorem State.Move.queueOrdered {s t : State} (h : s.Move t) (hs : s.LifecycleHolds)
    (ho : s.QueueOrdered) : t.QueueOrdered := by
  have hsub := fun i => List.filter_sublist (p := fun j => decide (j ≠ i)) (l := s.store.queue)
  cases h with
  | kept h =>
    unfold State.QueueOrdered
    simp only [h.queue, h.queueBefore]
    exact ho
  | budget => exact ho
  | window => exact ho
  | blank h =>
    unfold State.QueueOrdered
    rw [h.queue]
    exact List.Pairwise.nil
  | @write i r r' h hp =>
    refine ho.sublist (List.Sublist.refl _) fun j hj => ?_
    by_cases hji : j = i
    · subst hji
      have hq : r.state = .queued := by
        have := (hs.2.1 j).mp hj
        rw [h.record] at this
        exact Option.some.inj this
      obtain ⟨hpr, hb⟩ := (hp hs).2 hq
      have hw := s.record_writeRecord j j r'
      rw [if_pos rfl] at hw
      rw [State.queueRank_of_record hw, State.queueRank_of_record h.record]
      simp [hpr, hb]
    · exact State.queueRank_writeRecord rfl hji
  | @leave i r r' h hp =>
    exact ho.sublist (hsub i) fun j hj =>
      State.queueRank_writeRecord rfl (State.queue_filter_mem.mp hj).2
  | @enter i r r' h hp =>
    refine State.insertRanked_queueBefore (s.writeRecord i r') i ?_
    exact ho.sublist (hsub i) fun j hj =>
      State.queueRank_writeRecord rfl (State.queue_filter_mem.mp hj).2
  | @fill i b tier m x hi =>
    refine ho.sublist (List.Sublist.refl _) fun j hj => ?_
    refine State.queueRank_writeRecord (i := i) (q := b.record tier) rfl fun e => ?_
    have := (hs.2.1 j).mp hj
    simp [e, hi] at this
  | @empty i r u _ hu =>
    have hst := u.adjustRef_store r.model fun n => n - 1
    have hqu : ((u.adjustRef r.model fun n => n - 1).setSlot i
        ⟨State.nextGen (s.slot i).gen, none⟩).store.queue = s.store.queue.filter (· ≠ i) :=
      (congrArg Store.queue hst).trans hu.queue
    unfold State.QueueOrdered
    rw [hqu]
    refine ho.sublist (hsub i) fun j hj => State.queueRank_congr ?_
    have hj' : (u.adjustRef r.model fun n => n - 1).slot j = s.slot j :=
      (congrArg (fun x : Store => x.slots.get j) hst).trans (hu.slot j)
    rw [State.record, State.slot_setSlot, if_neg (State.queue_filter_mem.mp hj).2, hj']
    rfl
  | @rename i r m x hr hc =>
    have hst := State.changeModel_store s i r (s.modelHandleOf m)
    unfold State.QueueOrdered
    have hqu : (s.changeModel i r (s.modelHandleOf m)).store.queue = s.store.queue := by
      rw [hst]; rfl
    rw [hqu]
    refine ho.sublist (List.Sublist.refl _) fun j hj => ?_
    refine State.queueRank_writeRecord (congrArg Store.slots hst) fun e => ?_
    have := (hs.2.1 j).mp hj
    rw [e, hr] at this
    exact (amendStateCheck_eq_none.mp hc).1 (Option.some.inj this)
  | describe => exact ho
  | create => exact ho
  | discard => exact ho
  | softHold =>
    unfold State.QueueOrdered
    rw [show s.softHeld.store.queue = [] by unfold State.softHeld; rw [State.setQueue_store]]
    exact List.Pairwise.nil

/-! ### Serials and results (R4, R10) -/

theorem State.serialTaken_eq_false {s : State} {x : List Byte} (h : s.serialTaken x = false)
    {j : SlotIx} {r : ShelfRecord} (hr : s.record j = some r) : r.serial ≠ x := by
  intro e
  have := List.any_eq_false.mp h j (List.mem_finRange j)
  simp [hr, e] at this

/-- Every move but ADMIT keeps the serials in their slots, and ADMIT adds one that no record has. -/
theorem State.Move.serialsDistinct {s t : State} (h : s.Move t) (hs : s.SerialsDistinct) :
    t.SerialsDistinct := by
  have main {i j : SlotIx} {r q : ShelfRecord} (hr : t.record i = some r)
      (hq : t.record j = some q) (he : r.serial = q.serial) :
      i = j ∨ ∃ r', s.record i = some r' ∧ r'.serial = r.serial := by
    have stood {r0 : ShelfRecord} (h0 : s.record i = some r0) (hs : r.serial = r0.serial) :
        i = j ∨ ∃ r', s.record i = some r' ∧ r'.serial = r.serial := .inr ⟨r0, h0, hs.symm⟩
    cases h.record_from hr with
    | same h0 => exact stood h0 rfl
    | rewritten h0 hr => exact stood h0.record (hr ▸ h0.serial)
    | renamed h0 _ _ hr => exact stood h0.record (hr ▸ h0.serial)
    | admitted _ hf ho hr =>
      refine .inl (by_contra fun hij => ?_)
      rw [ho j fun e => hij e.symm] at hq
      exact State.serialTaken_eq_false hf hq (he.symm.trans (hr ▸ rfl))
  intro i j r q hr hq he
  obtain rfl | ⟨r0, hr0, h1⟩ := main hr hq he
  · rfl
  obtain rfl | ⟨q0, hq0, h2⟩ := main hq hr he.symm
  · rfl
  · exact hs i j r0 q0 hr0 hq0 (h1.trans (he.trans h2.symm))

theorem State.Move.resultsSorted {s t : State} (h : s.Move t) (hs : s.ResultsSorted) :
    t.ResultsSorted := by
  intro i r hr
  cases h.record_from hr with
  | same h => exact hs i r h
  | rewritten h hr => rw [hr]; exact h.results (hs i _ h.record)
  | renamed h _ _ hr => rw [hr]; exact h.results (hs i _ h.record)
  | admitted _ _ _ hr => rw [hr]; exact List.Pairwise.nil

/-! ### References (R5, R42) -/

/-- The record names the model of slot `m`. -/
def State.names (s : State) (m : ModelIx) (i : SlotIx) : Bool :=
  ((s.record i).map (·.model)) = some (s.modelHandleOf m)

theorem State.namingCount_eq (s : State) (m : ModelIx) :
    s.namingCount m = ((List.finRange 32).filter (s.names m)).length := rfl

/-- The same records name the model: the same count. -/
theorem State.namingCount_congr {s t : State} {m : ModelIx} (h : ∀ i, t.names m i = s.names m i) :
    t.namingCount m = s.namingCount m := by
  rw [State.namingCount_eq, State.namingCount_eq, List.filter_congr fun i _ => h i]

/-- The count after a change of one slot. -/
theorem State.namingCount_change {s t : State} {m : ModelIx} (i : SlotIx)
    (h : ∀ j, j ≠ i → t.names m j = s.names m j) :
    t.namingCount m + (s.names m i).toNat = s.namingCount m + (t.names m i).toNat := by
  rw [State.namingCount_eq, State.namingCount_eq]
  exact length_filter_change (List.nodup_finRange 32) (List.mem_finRange i) h

/-- A record that names a model is counted. -/
theorem State.namingCount_pos {s : State} {m : ModelIx} {i : SlotIx} {r : ShelfRecord}
    (hr : s.record i = some r) (hm : r.model = s.modelHandleOf m) : 0 < s.namingCount m := by
  rw [State.namingCount_eq]
  refine List.length_pos_of_mem (a := i) (List.mem_filter.mpr ⟨List.mem_finRange i, ?_⟩)
  simp [State.names, hr, hm]

theorem State.names_congr {s t : State} {m : ModelIx} {i : SlotIx}
    (hh : t.modelHandleOf m = s.modelHandleOf m)
    (hr : (t.record i).map (·.model) = (s.record i).map (·.model)) :
    t.names m i = s.names m i := by
  unfold State.names
  rw [hh, hr]

/-- Two states whose models stand and whose records name the same models. -/
theorem State.RefCountsAgree.of_names {s t : State} (hs : s.RefCountsAgree)
    (hm : t.models.slots = s.models.slots)
    (hr : ∀ i, (t.record i).map (·.model) = (s.record i).map (·.model)) : t.RefCountsAgree := by
  have hslot m : t.modelSlot m = s.modelSlot m := congrArg (·.get m) hm
  have hmodel m : t.model m = s.model m := congrArg ModelSlot.model (hslot m)
  have hhandle m : t.modelHandleOf m = s.modelHandleOf m := by simp only [State.modelHandleOf, hslot]
  refine ⟨fun i r h => ?_, fun m x hx => ?_⟩
  · have := hr i
    rw [h] at this
    obtain ⟨q, hq, he⟩ := Option.map_eq_some_iff.mp this.symm
    obtain ⟨m, h1, h2⟩ := hs.1 i q hq
    exact ⟨m, by rw [hhandle, ← h1, he], by rw [hmodel]; exact h2⟩
  · rw [hmodel] at hx
    rw [hs.2 m x hx, State.namingCount_congr fun i => State.names_congr (hhandle m) (hr i)]

/-- A record that a rewrite leaves names the model it named. -/
theorem State.map_model_writeRecord {s t : State} {i : SlotIx} {r q : ShelfRecord}
    (hr : s.record i = some r) (hq : q.model = r.model)
    (ht : t.store.slots = (s.writeRecord i q).store.slots) (j : SlotIx) :
    (t.record j).map (·.model) = (s.record j).map (·.model) := by
  have hj : t.record j = (s.writeRecord i q).record j :=
    congrArg (fun x : Tab ShelfSlot 32 => (x.get j).record) ht
  rw [hj, State.record_writeRecord]
  split
  · subst j; simp [hr, hq]
  · rfl

/-- A change of the record of slot `i`, when each reference count follows it. -/
theorem State.RefCountsAgree.of_change {s t : State} (hs : s.RefCountsAgree) (i : SlotIx)
    (hr : ∀ j, j ≠ i → t.record j = s.record j)
    (hi : ∀ r, t.record i = some r → ∃ m, r.model = s.modelHandleOf m ∧ (s.model m).isSome = true)
    (hh : ∀ m, t.modelHandleOf m = s.modelHandleOf m)
    (hm : ∀ m x, s.model m = some x → (t.model m).isSome = true)
    (hc : ∀ m y, t.model m = some y → ∃ x, s.model m = some x ∧
      y.refCount + (s.names m i).toNat = x.refCount + (t.names m i).toNat) : t.RefCountsAgree := by
  refine ⟨fun j r h => ?_, fun m y hy => ?_⟩
  · have : ∃ m, r.model = s.modelHandleOf m ∧ (s.model m).isSome = true := by
      by_cases hj : j = i
      · subst hj; exact hi r h
      · rw [hr j hj] at h; exact hs.1 j r h
    obtain ⟨m, h1, h2⟩ := this
    obtain ⟨x, hx⟩ := Option.isSome_iff_exists.mp h2
    exact ⟨m, h1.trans (hh m).symm, hm m x hx⟩
  · obtain ⟨x, hx, hcount⟩ := hc m y hy
    have hn := State.namingCount_change (s := s) (t := t) (m := m) i fun j hj =>
      State.names_congr (hh m) (by rw [hr j hj])
    have := hs.2 m x hx
    omega

/-- Descriptors alone change, and each in-use one keeps its handle and counts the records that name it. -/
theorem State.RefCountsAgree.of_records {s t : State} (hs : s.RefCountsAgree)
    (hr : ∀ i, t.record i = s.record i)
    (hm : ∀ m x, s.model m = some x → (∃ i, s.names m i = true) →
      (t.model m).isSome = true ∧ t.modelHandleOf m = s.modelHandleOf m)
    (hc : ∀ m y, t.model m = some y →
      t.modelHandleOf m = s.modelHandleOf m ∧ y.refCount = s.namingCount m) : t.RefCountsAgree := by
  refine ⟨fun i r h => ?_, fun m y hy => ?_⟩
  · rw [hr] at h
    obtain ⟨m, h1, h2⟩ := hs.1 i r h
    obtain ⟨x, hx⟩ := Option.isSome_iff_exists.mp h2
    obtain ⟨h3, h4⟩ := hm m x hx ⟨i, by simp [State.names, h, h1]⟩
    exact ⟨m, h1.trans h4.symm, h3⟩
  · obtain ⟨h1, h2⟩ := hc m y hy
    rw [h2, State.namingCount_congr fun i => State.names_congr h1 (by rw [hr])]

/-- A model that no record names is counted 0 times, and another is not. -/
theorem State.namingCount_eq_zero {s : State} {m : ModelIx} :
    s.namingCount m = 0 ↔ ∀ i, s.names m i = false := by
  rw [State.namingCount_eq, List.length_eq_zero_iff, List.filter_eq_nil_iff]
  simp

/-- An EMPTY model slot is named by no record. -/
theorem State.RefCountsAgree.names_empty {s : State} (hs : s.RefCountsAgree) {m : ModelIx}
    (hm : s.model m = none) (i : SlotIx) : s.names m i = false := by
  by_contra hn
  have hn : (s.record i).map (·.model) = some (s.modelHandleOf m) := by
    simpa [State.names] using hn
  obtain ⟨r, hr, he⟩ := Option.map_eq_some_iff.mp hn
  obtain ⟨k, h1, h2⟩ := hs.1 i r hr
  obtain rfl := s.modelHandleOf_inj (h1.symm.trans he)
  simp [hm] at h2

theorem State.names_of_record {s : State} {m : ModelIx} {i : SlotIx} {r : ShelfRecord}
    (hr : s.record i = some r) : s.names m i = decide (r.model = s.modelHandleOf m) := by
  simp [State.names, hr]

theorem State.names_of_free {s : State} {m : ModelIx} {i : SlotIx} (hr : s.record i = none) :
    s.names m i = false := by
  simp [State.names, hr]

theorem State.isSome_model_writeModel {s : State} {m k : ModelIx} {x y : Model}
    (hx : s.model k = some x) : ((s.writeModel m y).model k).isSome = true := by
  rw [State.model_writeModel]
  split
  · rfl
  · rw [hx]; rfl

/-- R51: ADMIT counts one reference. -/
theorem State.RefCountsAgree.fill {s : State} (hs : s.RefCountsAgree) {i : SlotIx} {q : ShelfRecord}
    {m : ModelIx} {x : Model} (hi : s.record i = none) (hm : q.model = s.modelHandleOf m)
    (hx : s.model m = some x) :
    ((s.writeRecord i q).writeModel m { x with refCount := x.refCount + 1 }).RefCountsAgree := by
  let u := s.writeRecord i q
  let t := u.writeModel m { x with refCount := x.refCount + 1 }
  have hrec j : t.record j = if j = i then some q.seal else s.record j := s.record_writeRecord i j q
  have hh k : t.modelHandleOf k = s.modelHandleOf k := u.writeModel_modelHandleOf ..
  refine hs.of_change i (fun j hj => (hrec j).trans (if_neg hj)) (fun r hr => ?_) hh
    (fun k y hy => State.isSome_model_writeModel (s := u) hy) fun k y hy => ?_
  · obtain rfl := Option.some.inj (((hrec i).trans (if_pos rfl)).symm.trans hr)
    exact ⟨m, hm, by rw [hx]; rfl⟩
  · rw [State.names_of_free hi, State.names_of_record ((hrec i).trans (if_pos rfl)), hh,
      ShelfRecord.seal_model, hm]
    obtain ⟨rfl, rfl⟩ | ⟨hk, hy⟩ := State.model_of_writeModel hy
    · exact ⟨x, hx, by simp⟩
    · refine ⟨y, hy, ?_⟩
      simp [show ¬ s.modelHandleOf m = s.modelHandleOf k from
        fun e => hk (s.modelHandleOf_inj e).symm]

/-- R69: RELEASE takes one reference back. -/
theorem State.RefCountsAgree.empty {s : State} (hs : s.RefCountsAgree) {i : SlotIx}
    {r : ShelfRecord} (hr : s.record i = some r) (g : Nat) :
    ((s.adjustRef r.model fun n => n - 1).setSlot i ⟨g, none⟩).RefCountsAgree := by
  obtain ⟨m, hm, hx⟩ := hs.1 i r hr
  obtain ⟨x, hx⟩ := Option.isSome_iff_exists.mp hx
  have hpos : 0 < x.refCount := (hs.2 m x hx).symm ▸ State.namingCount_pos hr hm
  rw [hm, s.adjustRef_of_model hx]
  let u := s.writeModel m { x with refCount := x.refCount - 1 }
  have hrec j : (u.setSlot i ⟨g, none⟩).record j = if j = i then none else s.record j := by
    unfold State.record
    rw [State.slot_setSlot]
    split <;> rfl
  refine hs.of_change i (fun j hj => (hrec j).trans (if_neg hj)) (fun q hq => ?_)
    (fun k => s.writeModel_modelHandleOf ..)
    (fun k y hy => State.isSome_model_writeModel (s := s) hy) fun k y hy => ?_
  · rw [hrec, if_pos rfl] at hq; cases hq
  · rw [State.names_of_record hr, State.names_of_free ((hrec i).trans (if_pos rfl)), hm]
    obtain ⟨rfl, rfl⟩ | ⟨hk, hy⟩ := State.model_of_writeModel (s := s) hy
    · refine ⟨x, hx, ?_⟩
      simp only [Model.seal_refCount, decide_true, Bool.toNat_true, Bool.toNat_false]
      omega
    · refine ⟨y, hy, ?_⟩
      simp [show ¬ s.modelHandleOf m = s.modelHandleOf k from
        fun e => hk (s.modelHandleOf_inj e).symm]

/-- R61, R42: one reference moves from the old model to the new one. -/
theorem State.RefCountsAgree.rename {s : State} (hs : s.RefCountsAgree) {i : SlotIx}
    {r : ShelfRecord} {m : ModelIx} {x : Model} (hr : s.record i = some r)
    (hx : s.model m = some x) : (s.changeModel i r (s.modelHandleOf m)).RefCountsAgree := by
  let q := s.renamed r (s.modelHandleOf m)
  let u := s.writeRecord i q
  obtain ⟨k, hk, hy⟩ := hs.1 i r hr
  obtain ⟨y, hy⟩ := Option.isSome_iff_exists.mp hy
  have hpos : 0 < y.refCount := (hs.2 k y hy).symm ▸ State.namingCount_pos hr hk
  have hdef : s.changeModel i r (s.modelHandleOf m) = if s.modelHandleOf m = r.model then u
    else (u.adjustRef r.model fun n => n - 1).adjustRef (s.modelHandleOf m) fun n => n + 1 := rfl
  rw [hdef]
  split
  next he =>
    exact hs.of_names rfl (State.map_model_writeRecord hr he rfl)
  next he =>
    have hkm : m ≠ k := fun e => he (by rw [hk, e])
    let v := u.writeModel k { y with refCount := y.refCount - 1 }
    have hvx : v.model m = some x := (u.model_writeModel k m _).trans (by rw [if_neg hkm]; exact hx)
    have hv n : v.modelHandleOf n = s.modelHandleOf n := u.writeModel_modelHandleOf ..
    have h1 : u.adjustRef r.model (fun n => n - 1) = v := by
      rw [hk]; exact u.adjustRef_of_model hy _
    have h2 : v.adjustRef (s.modelHandleOf m) (fun n => n + 1) =
        v.writeModel m { x with refCount := x.refCount + 1 } := by
      rw [← hv]; exact v.adjustRef_of_model hvx _
    rw [h1, h2]
    have hrec j : (v.writeModel m { x with refCount := x.refCount + 1 }).record j =
        if j = i then some q.seal else s.record j := s.record_writeRecord i j q
    have hh n : (v.writeModel m { x with refCount := x.refCount + 1 }).modelHandleOf n =
        s.modelHandleOf n := (v.writeModel_modelHandleOf ..).trans (hv n)
    refine hs.of_change i (fun j hj => (hrec j).trans (if_neg hj)) (fun p hp => ?_) hh ?_
      fun n z hz => ?_
    · obtain rfl := Option.some.inj (((hrec i).trans (if_pos rfl)).symm.trans hp)
      exact ⟨m, rfl, by rw [hx]; rfl⟩
    · intro n z hz
      obtain ⟨z', hz'⟩ := Option.isSome_iff_exists.mp
        (State.isSome_model_writeModel (s := u) (m := k) (y := { y with refCount := y.refCount - 1 })
          (show u.model n = some z from hz))
      exact State.isSome_model_writeModel (s := v) hz'
    · rw [State.names_of_record hr, State.names_of_record ((hrec i).trans (if_pos rfl)), hh,
        show q.seal.model = s.modelHandleOf m from rfl, hk]
      have hne {a b : ModelIx} (h : a ≠ b) : ¬ s.modelHandleOf a = s.modelHandleOf b :=
        fun e => h (s.modelHandleOf_inj e)
      obtain ⟨rfl, rfl⟩ | ⟨hn, hz⟩ := State.model_of_writeModel (s := v) hz
      · exact ⟨x, hx, by simp [hne hkm.symm]⟩
      · obtain ⟨rfl, rfl⟩ | ⟨hn', hz⟩ := State.model_of_writeModel (s := u) hz
        · refine ⟨y, hy, ?_⟩
          simp only [Model.seal_refCount, hne hkm, decide_true, decide_false, Bool.toNat_true,
            Bool.toNat_false]
          omega
        · exact ⟨z, hz, by simp [hne hn.symm, hne hn'.symm]⟩

/-- R29: a record names the same model after a soft reset. -/
theorem State.map_model_softHeld (s : State) (j : SlotIx) :
    (s.softHeld.record j).map (·.model) = (s.record j).map (·.model) := by
  unfold State.record
  rw [State.slot_softHeld]
  unfold ShelfSlot.softHeld
  split
  next hr =>
    split
    · rw [hr]; rfl
    · rfl
  · rfl

theorem State.Move.refCountsAgree {s t : State} (h : s.Move t) (hs : s.RefCountsAgree) :
    t.RefCountsAgree := by
  cases h with
  | kept h => exact hs.of_names h.models fun i => by rw [h.record]
  | budget => exact hs
  | window => exact hs
  | blank h =>
    have hr i : t.record i = none := by simp [State.record, State.slot, h.slots]
    have hm m : t.model m = none := by simp [State.model, State.modelSlot, h.models]
    exact ⟨fun i r k => by simp [hr] at k, fun m x k => by simp [hm] at k⟩
  | write h => exact hs.of_names rfl (State.map_model_writeRecord h.record h.model rfl)
  | leave h => exact hs.of_names rfl (State.map_model_writeRecord h.record h.model rfl)
  | enter h => exact hs.of_names rfl (State.map_model_writeRecord h.record h.model rfl)
  | fill hi _ hm hx => exact hs.fill hi hm hx
  | @empty i r u hr hu =>
    have hs' : u.RefCountsAgree :=
      hs.of_names (hu.models.trans rfl) fun j => by rw [hu.record]; rfl
    exact hs'.empty ((hu.record i).trans hr) _
  | rename hr _ hx => exact hs.rename hr hx
  | @describe m x x' hx hc =>
    refine hs.of_records (fun i => rfl) (fun k y hy _ =>
      ⟨State.isSome_model_writeModel hy, s.writeModel_modelHandleOf ..⟩) fun k y hy =>
      ⟨s.writeModel_modelHandleOf .., ?_⟩
    obtain ⟨rfl, rfl⟩ | ⟨-, hy⟩ := State.model_of_writeModel hy
    · rw [Model.seal_refCount]
      exact hc.elim (fun h => h.trans (hs.2 _ x hx)) id
    · exact hs.2 k y hy
  | @create m name rev hm =>
    refine hs.of_records (fun i => rfl) (fun k y hy _ =>
      ⟨State.isSome_model_writeModel hy, s.writeModel_modelHandleOf ..⟩) fun k y hy =>
      ⟨s.writeModel_modelHandleOf .., ?_⟩
    obtain ⟨rfl, rfl⟩ | ⟨-, hy⟩ := State.model_of_writeModel hy
    · exact (State.namingCount_eq_zero.mpr (hs.names_empty hm)).symm
    · exact hs.2 k y hy
  | @discard m x hx hc =>
    have hslot {k : ModelIx} (hk : k ≠ m) : (s.discardModel m).modelSlot k = s.modelSlot k := by
      rw [State.discardModel, State.modelSlot_setModelSlot, if_neg hk]
    have hhandle {k : ModelIx} (hk : k ≠ m) :
        (s.discardModel m).modelHandleOf k = s.modelHandleOf k := by
      simp only [State.modelHandleOf, hslot hk]
    refine hs.of_records (fun i => rfl) (fun k y hy ⟨i, hi⟩ => ?_) fun k y hy => ?_
    · have hk : k ≠ m := fun e => by
        have := State.namingCount_eq_zero.mp ((hs.2 m x hx).symm.trans hc) i
        rw [← e, hi] at this
        cases this
      refine ⟨?_, hhandle hk⟩
      unfold State.model
      rw [hslot hk]
      exact Option.isSome_iff_exists.mpr ⟨y, hy⟩
    · have hk : k ≠ m := fun e => by
        subst e
        simp [State.discardModel, State.model, State.modelSlot_setModelSlot] at hy
      have hy : s.model k = some y := (congrArg ModelSlot.model (hslot hk)).symm.trans hy
      exact ⟨hhandle hk, hs.2 k y hy⟩
  | softHold =>
    exact hs.of_names (congrArg ModelTable.slots s.softHeld_models) s.map_model_softHeld

/-! ### Plans (R9, R42) -/

/-- R9: with the lifecycle kept, a move brings no record to name a DRAFT model, and leaves the cursor of a
PASSED record at the plan length. -/
theorem State.Move.plansHold {s t : State} (h : s.Move t) (hl : s.LifecycleHolds)
    (hr : s.RefCountsAgree) (hs : s.PlansHold) : t.PlansHold := by
  intro i r' m x' hr' hm hx'
  obtain ⟨hh, -, hsrc⟩ := h.model_from hx'
  rw [hh] at hm
  -- the descriptor `x` stood in slot `m`, an ACTIVE one when the record came to name it
  have old {q : ShelfRecord} (hq : s.record i = some q) (hqm : q.model = s.modelHandleOf m) :
      ∃ x, s.model m = some x ∧ x.state ≠ .draft ∧ x'.state ≠ .draft ∧ x'.plan = x.plan ∧
        (q.state = .passed → q.cursor = x.plan.length) := by
    obtain hn | ⟨x, hx, hp, hd⟩ := hsrc
    · have := hr.names_empty hn i
      simp [State.names_of_record hq, hqm] at this
    · obtain ⟨hnd, hcur⟩ := hs i q m x hq hqm hx
      refine ⟨x, hx, hnd, fun e => ?_, hp.resolve_left hnd, hcur⟩
      obtain e | ⟨e, -⟩ := hd e
      · exact hnd e
      · have := State.namingCount_pos hq hqm
        rw [← hr.2 m x hx, e] at this
        exact absurd this (Nat.lt_irrefl 0)
  have fresh (hq : s.NamesActive r') : x'.state ≠ .draft := by
    obtain ⟨k, y, hk, hy, ha⟩ := hq
    obtain rfl := s.modelHandleOf_inj (hk.symm.trans hm)
    obtain hn | ⟨x, hx, -, hd⟩ := hsrc
    · rw [hy] at hn; cases hn
    · obtain rfl := Option.some.inj (hx.symm.trans hy)
      intro e
      obtain e | ⟨e, hrec⟩ := hd e
      · rw [ha] at e; cases e
      · have := State.namingCount_pos ((hrec i).symm.trans hr') hm
        rw [← hr.2 k x hx, e] at this
        exact Nat.lt_irrefl 0 this
  cases h.record_from hr' with
  | same h0 =>
    obtain ⟨x, -, -, hnd, hp, hcur⟩ := old h0 hm
    exact ⟨hnd, fun e => by rw [hp]; exact hcur e⟩
  | @rewritten r q h0 hq =>
    subst hq
    have hrm : r.model = s.modelHandleOf m := h0.model.symm.trans hm
    obtain ⟨x, hx, -, hnd, hp, hcur⟩ := old h0.record hrm
    refine ⟨hnd, fun e => ?_⟩
    rw [hp, ShelfRecord.seal_cursor]
    obtain ⟨h1, h2⟩ | h1 := h0.passed hl e
    · rw [h2]; exact hcur h1
    · rw [h1, s.planLength_of_model hrm hx]
  | renamed _ hp ha hq => subst hq; exact ⟨fresh ha, fun e => absurd e hp⟩
  | admitted ha _ _ hq => subst hq; exact ⟨fresh ha, fun e => by cases e⟩

end Sys2Proof.Machine
end

section
/-! SUPPORT. The operations of the record store, of the model table and of the links as chains of moves. -/

namespace Sys2Proof.Machine

/-! ### Chains of moves -/

section
variable {s t u : State}

theorem State.Moves.refl (s : State) : s.Moves s := Relation.ReflTransGen.refl

theorem State.Moves.trans (h : s.Moves t) (k : t.Moves u) : s.Moves u :=
  Relation.ReflTransGen.trans h k

theorem State.Moves.move (h : s.Moves t) (k : t.Move u) : s.Moves u := Relation.ReflTransGen.tail h k

theorem State.Moves.kept (h : s.Moves t) (k : t.Kept u) : s.Moves u := h.move (.kept k)

theorem State.Moves.ledger (h : s.Moves t) (k : u.ledger = t.ledger) : s.Moves u :=
  h.kept (.of_ledger k)

theorem State.Moves.foldl {α : Type} (f : State → α → State) (hf : ∀ v a, State.Moves v (f v a))
    (l : List α) (h : s.Moves t) : s.Moves (l.foldl f t) := by
  induction l generalizing t with
  | nil => exact h
  | cons a l ih => exact ih (Relation.ReflTransGen.trans h (hf t a))

/-- What the owner does with the request that it serves. -/
theorem State.Moves.serve {l : Link} {code : ReqCode} {f : Request → State → State}
    (h : ∀ q, (s.link l).request = some q → s.Moves (f q s)) : s.Moves (s.serve l code f) := by
  unfold State.serve
  split
  · exact .refl s
  · split
    · split
      · exact h _ ‹_›
      · exact .refl s
    · exact .refl s

theorem State.Moves.live {f : State → State} (h : s.Moves (f s)) : s.Moves (s.live f) := by
  unfold State.live
  split
  · exact .refl s
  · exact h

/-- An event that leaves the ledger is one move. -/
theorem State.Moves.live_ledger {f : State → State} (h : (f s).ledger = s.ledger) :
    s.Moves (s.live f) := .live ((State.Moves.refl s).ledger h)

end

/-! ### Answers -/

theorem State.formAnswer_kept (s : State) (l : Link) (tag : Byte) (c : Code) (body : List Byte) :
    s.Kept (s.formAnswer l tag c body) where
  slots := by rw [State.formAnswer_store]
  queue := by rw [State.formAnswer_store]
  models := by rw [State.formAnswer_models]
  budget := by rw [State.formAnswer_feed]
  guard := by rw [State.formAnswer_feed]
  low := by rw [State.formAnswer_feed]
  high := by rw [State.formAnswer_feed]
  requests l' := by
    cases l <;> cases l'
    · exact .inl rfl
    · exact .inr rfl
    · exact .inr rfl
    · exact .inl rfl

theorem State.answer_kept (s : State) (l : Link) (c : Code) (body : List Byte) :
    s.Kept (s.answer l c body) := by
  unfold State.answer
  split
  · exact s.formAnswer_kept ..
  · exact .of_ledger rfl

theorem State.completeLookup_kept (s : State) (l : Link) (i : SlotIx) :
    s.Kept (s.completeLookup l i) := by
  unfold State.completeLookup
  split
  · split
    · exact s.answer_kept ..
    · exact .of_ledger rfl
  · exact .of_ledger rfl

theorem State.completeLookups_kept (s : State) (i : SlotIx) : s.Kept (s.completeLookups i) :=
  (s.completeLookup_kept ..).trans (State.completeLookup_kept ..)

theorem State.completeWaiting_kept (s : State) (l : Link) : s.Kept (s.completeWaiting l) := by
  unfold State.completeWaiting
  split
  · split
    · exact s.answer_kept ..
    · exact .of_ledger rfl
  · exact .of_ledger rfl

/-- R53: a request that waits keeps its code, tier, tag and body. -/
theorem State.waitLookup_kept (s : State) {l : Link} {q : Request} (w : Waiting)
    (h : (s.link l).request = some q) : s.Kept (s.waitLookup l q w) where
  slots := by rw [State.waitLookup, State.setLink_store]
  queue := by rw [State.waitLookup, State.setLink_store]
  models := by rw [State.waitLookup, State.setLink_models]
  budget := by rw [State.waitLookup, State.setLink_feed]
  guard := by rw [State.waitLookup, State.setLink_feed]
  low := by rw [State.waitLookup, State.setLink_feed]
  high := by rw [State.waitLookup, State.setLink_feed]
  requests l' := by
    refine .inr ?_
    cases l <;> cases l'
    · exact (congrArg (Option.map Request.fixed) h).symm
    · rfl
    · rfl
    · exact (congrArg (Option.map Request.fixed) h).symm

theorem State.Moves.answer {s t : State} (h : s.Moves t) (l : Link) (c : Code) (body : List Byte) :
    s.Moves (t.answer l c body) := h.kept (t.answer_kept ..)

theorem State.Moves.refuse {s t : State} (h : s.Moves t) (l : Link) (c : Code) :
    s.Moves (t.refuse l c) := h.answer ..

theorem State.Moves.amended {s t : State} (h : s.Moves t) (l : Link) (a : AmendItem)
    (value : List Byte) : s.Moves (t.amended l a value) := h.answer ..

theorem State.Moves.answerModel {s t : State} (h : s.Moves t) (l : Link) (c : Code) (m : ModelIx) :
    s.Moves (t.answerModel l c m) := h.answer ..

/-! ### Rewrites of one record -/

section
variable {s : State} {i : SlotIx} {r : ShelfRecord}

/-- A write that touches neither the state nor what goes with it keeps the place in the queue. -/
theorem State.Rewrites.plain {r' : ShelfRecord} (hr : s.record i = some r)
    (serial : r'.serial = r.serial) (results : r'.results = r.results) (state : r'.state = r.state)
    (hold : r'.hold = r.hold) (engaged : r'.engaged = r.engaged) (model : r'.model = r.model)
    (cursor : r'.cursor = r.cursor) : s.Rewrites i r r' where
  record := hr
  serial := serial
  results h := by unfold ShelfRecord.ResultsSorted; rw [results]; exact h
  lifecycle hs := by
    unfold ShelfRecord.LifecycleHolds
    rw [state, hold, engaged]
    exact hs.2.2 i r hr
  model := model
  passed _ h := .inl ⟨state.symm.trans h, cursor⟩

/-- R24: a record that goes DOUBTFUL. -/
theorem State.doubt_rewrites (hr : s.record i = some r) :
    s.Rewrites i r { r with state := .doubtful, hold := none, engaged := none } where
  record := hr
  serial := rfl
  results h := h
  lifecycle _ := by simp [ShelfRecord.LifecycleHolds]
  model := rfl
  passed _ h := by cases h

/-- R85: a QUEUED record that is held. -/
theorem State.hold_rewrites (hr : s.record i = some r) (hq : r.state = .queued) (why : HoldReason) :
    s.Rewrites i r { r with state := .held, hold := some why } where
  record := hr
  serial := rfl
  results h := h
  lifecycle hs := by
    have he := (hs.2.2 i r hr).1
    simp only [hq, reduceCtorEq, iff_false] at he
    simp only [ShelfRecord.LifecycleHolds, he, Option.isSome_some]
    simp
  model := rfl
  passed _ h := by cases h

/-- R65, R66: a record that is neither RUNNING nor QUEUED enters the start queue. -/
theorem State.queue_rewrites {r' : ShelfRecord} (hr : s.record i = some r)
    (hst : r.state ≠ .running) (hh : r'.hold = none ∨ r.state ≠ .held ∧ r'.hold = r.hold)
    (serial : r'.serial = r.serial) (results : r'.results = r.results ∨ r'.results = [])
    (state : r'.state = .queued) (engaged : r'.engaged = r.engaged) (model : r'.model = r.model) :
    s.Rewrites i r r' where
  record := hr
  serial := serial
  results h := by
    unfold ShelfRecord.ResultsSorted
    obtain e | e := results <;> rw [e]
    · exact h
    · exact List.Pairwise.nil
  lifecycle hs := by
    obtain ⟨h1, h2⟩ := hs.2.2 i r hr
    unfold ShelfRecord.LifecycleHolds
    rw [state, engaged]
    refine ⟨by simpa [hst] using h1, ?_⟩
    obtain hh | ⟨hne, hh⟩ := hh <;> rw [hh]
    · simp
    · simpa [hne] using h2
  model := model
  passed _ h := by rw [state] at h; cases h

/-- A state that BIND, unbind and a seat event write: it is none that a reason, an engine or the queue goes
with, and it follows one that is none either. -/
theorem State.seat_rewrites {r' : ShelfRecord} {x : RecState} (hr : s.record i = some r)
    (hst : r.state = x) (hx : x ∈ [RecState.staged, .bound, .ready])
    (hx' : r'.state ∈ [RecState.staged, .bound, .ready]) (serial : r'.serial = r.serial)
    (results : r'.results = r.results) (hold : r'.hold = r.hold) (engaged : r'.engaged = r.engaged)
    (model : r'.model = r.model) : s.Rewrites i r r' ∧ r.KeepsPlace r' := by
  subst hst
  obtain ⟨hrun, hheld, hqueued, -⟩ := RecState.ne_of_seat_state hx
  obtain ⟨hrun', hheld', hqueued', hpassed'⟩ := RecState.ne_of_seat_state hx'
  refine ⟨⟨⟨hr, serial, fun h => ?_, fun hs => ?_⟩, model, fun _ h => absurd h hpassed'⟩,
    iff_of_false hqueued' hqueued, fun hq => absurd hq hqueued⟩
  · unfold ShelfRecord.ResultsSorted; rw [results]; exact h
  · obtain ⟨h1, h2⟩ := hs.2.2 i r hr
    unfold ShelfRecord.LifecycleHolds
    rw [hold, engaged]
    exact ⟨h1.trans (iff_of_false hrun hrun'), h2.trans (iff_of_false hheld hheld')⟩

end

/-! ### Integrity faults and validation -/

theorem State.holdQueued_moves {s : State} {i : SlotIx} {r : ShelfRecord} (hr : s.record i = some r)
    (hq : r.state = .queued) (why : HoldReason) : s.Moves (s.holdQueued i r why) :=
  ((State.Moves.refl s).move (.leave (State.hold_rewrites hr hq why) (by simp))).ledger rfl

/-- R24: the record that a mismatch leaves. -/
def ShelfRecord.doubted (r : ShelfRecord) : ShelfRecord :=
  { r with state := .doubtful, hold := none, engaged := none }

/-- R24: what goes with a mismatch before the engine that holds the record is told: the record is DOUBTFUL, out
of the start queue and listed for attention, and its bay is cleared. -/
def State.doubtStore (s : State) (i : SlotIx) (r : ShelfRecord) : State :=
  (((s.writeRecord i r.doubted).leaveQueue i).clearBound (s.handleOf i)).attend i Reasons.onlyDoubt

/-- R24: the engine that holds the record with the handle receives DOUBT. -/
def State.stopDoubted (s : State) (h : Handle) : State :=
  match s.holder h with
  | some e => s.stopEngine e .doubt
  | none => s

@[simp] theorem State.stopDoubted_shell (s : State) (h : Handle) :
    (s.stopDoubted h).shell = s.shell := by
  unfold State.stopDoubted
  split
  · exact s.stopEngine_shell ..
  · rfl

/-- R24: a mismatch that is not already known. -/
theorem State.doubtRecord_of_fresh {s : State} {i : SlotIx} {r : ShelfRecord}
    (hr : s.record i = some r) (hd : s.alreadyDoubtful i r = false) :
    s.doubtRecord i = ((s.doubtStore i r).stopDoubted (s.handleOf i)).completeLookups i := by
  unfold State.doubtRecord
  simp only [hr, hd, Bool.false_eq_true, if_false]
  rfl

/-- R24: a mismatch that is already known changes nothing. -/
theorem State.doubtRecord_of_known {s : State} {i : SlotIx} {r : ShelfRecord}
    (hr : s.record i = some r) (hd : s.alreadyDoubtful i r = true) : s.doubtRecord i = s := by
  simp [State.doubtRecord, hr, hd]

/-- R24: the tables and the requests after a mismatch that is not already known. -/
theorem State.doubtRecord_kept {s : State} {i : SlotIx} {r : ShelfRecord}
    (hr : s.record i = some r) (hd : s.alreadyDoubtful i r = false) :
    ((s.writeRecord i r.doubted).leaveQueue i).Kept (s.doubtRecord i) := by
  rw [State.doubtRecord_of_fresh hr hd]
  refine State.Kept.trans (.of_ledger ?_) (State.completeLookups_kept ..)
  rw [State.ledger_of_shell (State.stopDoubted_shell ..)]
  simp [State.doubtStore]

theorem State.doubtRecord_moves (s : State) (i : SlotIx) : s.Moves (s.doubtRecord i) := by
  cases hr : s.record i with
  | none => simp only [State.doubtRecord, hr]; exact .refl s
  | some r =>
    cases hd : s.alreadyDoubtful i r with
    | true => rw [State.doubtRecord_of_known hr hd]
    | false =>
      exact ((State.Moves.refl s).move
        (.leave (State.doubt_rewrites hr) (by simp))).kept (State.doubtRecord_kept hr hd)

theorem State.readRecord_moves (s : State) (i : SlotIx) : s.Moves (s.readRecord i) := by
  unfold State.readRecord
  split
  · split
    · exact .refl s
    · exact s.doubtRecord_moves i
  · exact .refl s

theorem State.readRecord_of_intact {s : State} {i : SlotIx} {r : ShelfRecord}
    (hr : s.record i = some r) (hi : r.intact = true) : s.readRecord i = s := by
  simp [State.readRecord, hr, hi]

theorem State.readRecord_of_damaged {s : State} {i : SlotIx} {r : ShelfRecord}
    (hr : s.record i = some r) (hi : r.intact = false) : s.readRecord i = s.doubtRecord i := by
  simp [State.readRecord, hr, hi]

/-- R24: the slots after a mismatch that is not already known. -/
theorem State.slot_doubtRecord {s : State} {i : SlotIx} {r : ShelfRecord}
    (hr : s.record i = some r) (hd : s.alreadyDoubtful i r = false) (j : SlotIx) :
    (s.doubtRecord i).slot j =
      if j = i then ⟨(s.slot i).gen, some r.doubted.seal⟩ else s.slot j :=
  ((State.doubtRecord_kept hr hd).slot j).trans (s.slot_writeRecord i j _)

/-- R17: a read that leaves a record that is not DOUBTFUL found no mismatch. -/
theorem State.readRecord_of_sound {s : State} {i : SlotIx} {r : ShelfRecord}
    (hr : (s.readRecord i).record i = some r) (hst : r.state ≠ .doubtful) :
    s.readRecord i = s := by
  cases hq : s.record i with
  | none => simp [State.readRecord, hq]
  | some q =>
    cases hi : q.intact with
    | true => exact State.readRecord_of_intact hq hi
    | false =>
      rw [State.readRecord_of_damaged hq hi] at hr ⊢
      cases hd : s.alreadyDoubtful i q with
      | true => exact State.doubtRecord_of_known hq hd
      | false =>
        have k := congrArg ShelfSlot.record (State.slot_doubtRecord hq hd i)
        rw [if_pos rfl] at k
        obtain rfl := Option.some.inj (k.symm.trans hr)
        exact absurd rfl hst

theorem State.holdForModel_moves (m : ModelIx) (s : State) (i : SlotIx) :
    s.Moves (State.holdForModel m s i) := by
  unfold State.holdForModel
  split
  next r hr =>
    split
    next hq =>
      have hq : r.state = .queued := by
        simp only [State.queuedOn, hr, Bool.and_eq_true, decide_eq_true_eq] at hq
        exact hq.2
      exact State.holdQueued_moves hr hq _
    · exact .refl s
  · exact .refl s

theorem State.doubtModel_moves (s : State) (m : ModelIx) : s.Moves (s.doubtModel m) := by
  unfold State.doubtModel
  split
  · exact .refl s
  next x hx =>
    split
    · exact .refl s
    · exact .foldl _ (State.holdForModel_moves m) _ ((State.Moves.refl s).move
        (.describe hx (.inr rfl) (.inr rfl) (by simp)))

theorem State.readModel_moves (s : State) (m : ModelIx) : s.Moves (s.readModel m) := by
  unfold State.readModel
  split
  · split
    · exact .refl s
    · exact s.doubtModel_moves m
  · exact .refl s

/-- R16: what a validation of a shelf handle can answer: a failure that reads nothing, or, when the slot is in
use, a failure after the read or the record as the read left it. -/
theorem State.validate_cases (s : State) (h : Handle) (skip : Bool) (tier : Nat)
    (needed : ShelfRecord → Nat) :
    (∃ c, s.validate h skip tier needed = (s, .fail c)) ∨
    (∃ c, s.validate h skip tier needed = (s.readRecord h.index, .fail c)) ∨
    ∃ r, (s.readRecord h.index).record h.index = some r ∧ h = s.handleOf h.index ∧
      s.validate h skip tier needed = (s.readRecord h.index, .pass (h.index, r)) := by
  unfold State.validate
  split
  · exact .inl ⟨_, rfl⟩
  split
  · exact .inl ⟨_, rfl⟩
  next ht =>
    split
    · exact .inl ⟨_, rfl⟩
    split
    · exact .inl ⟨_, rfl⟩
    · dsimp only
      split
      · exact .inr (.inl ⟨_, rfl⟩)
      next hg =>
        split
        · exact .inr (.inl ⟨_, rfl⟩)
        next r hr =>
          split
          · exact .inr (.inl ⟨_, rfl⟩)
          split
          · exact .inr (.inl ⟨_, rfl⟩)
          · refine .inr (.inr ⟨r, hr, ?_, rfl⟩)
            obtain ⟨tb, ix, g⟩ := h
            simp only [ne_eq, not_not] at ht hg
            simp [State.handleOf, ht, hg]

theorem State.validate_moves (s : State) (h : Handle) (skip : Bool) (tier : Nat)
    (needed : ShelfRecord → Nat) : s.Moves (s.validate h skip tier needed).1 := by
  obtain ⟨c, k⟩ | ⟨c, k⟩ | ⟨r, -, -, k⟩ := s.validate_cases h skip tier needed <;> rw [k]
  · exact s.readRecord_moves _
  · exact s.readRecord_moves _

/-- R16: a handle that fails a check: the read that was made is all that has happened. -/
theorem State.validate_fail {s s1 : State} {h : Handle} {skip : Bool} {tier : Nat}
    {needed : ShelfRecord → Nat} {c : Code} (hv : s.validate h skip tier needed = (s1, .fail c)) :
    s.Moves s1 := by
  have hm := s.validate_moves h skip tier needed
  rwa [hv] at hm

/-- R16: a handle that passes its checks names the record that stands in its slot. -/
theorem State.validate_pass {s s1 : State} {h : Handle} {skip : Bool} {tier : Nat}
    {needed : ShelfRecord → Nat} {i : SlotIx} {r : ShelfRecord}
    (hv : s.validate h skip tier needed = (s1, .pass (i, r))) :
    s1.record i = some r ∧ s.Moves s1 ∧ (r.state ≠ .doubtful → s1 = s) := by
  have hm := s.validate_moves h skip tier needed
  rw [hv] at hm
  suffices s1.record i = some r ∧ (r.state ≠ .doubtful → s1 = s) from ⟨this.1, hm, this.2⟩
  obtain ⟨c, k⟩ | ⟨c, k⟩ | ⟨q, hq, -, k⟩ := s.validate_cases h skip tier needed <;>
    rw [k] at hv <;> cases hv
  exact ⟨hq, State.readRecord_of_sound hq⟩

/-- R36: what a validation of a model handle can answer. -/
theorem State.validateModel_cases (s : State) (h : Handle) (skip : Bool) (tier : Nat) :
    (∃ c, s.validateModel h skip tier = (s, .fail c)) ∨
    (∃ m c, s.validateModel h skip tier = (s.readModel m, .fail c)) ∨
    ∃ m x, (s.readModel m).model m = some x ∧
      s.validateModel h skip tier = (s.readModel m, .pass (m, x)) := by
  unfold State.validateModel
  split
  · exact .inl ⟨_, rfl⟩
  split
  · exact .inl ⟨_, rfl⟩
  split
  · exact .inl ⟨_, rfl⟩
  split
  · exact .inl ⟨_, rfl⟩
  · dsimp only
    split
    · exact .inr (.inl ⟨_, _, rfl⟩)
    split
    · exact .inr (.inl ⟨_, _, rfl⟩)
    next hx =>
      split
      · exact .inr (.inl ⟨_, _, rfl⟩)
      split
      · exact .inr (.inl ⟨_, _, rfl⟩)
      · exact .inr (.inr ⟨_, _, hx, rfl⟩)

theorem State.validateModel_moves (s : State) (h : Handle) (skip : Bool) (tier : Nat) :
    s.Moves (s.validateModel h skip tier).1 := by
  obtain ⟨c, k⟩ | ⟨m, c, k⟩ | ⟨m, x, -, k⟩ := s.validateModel_cases h skip tier <;> rw [k]
  · exact s.readModel_moves _
  · exact s.readModel_moves _

/-- R36: a model handle that fails a check: the read that was made is all that has happened. -/
theorem State.validateModel_fail {s s1 : State} {h : Handle} {skip : Bool} {tier : Nat} {c : Code}
    (hv : s.validateModel h skip tier = (s1, .fail c)) : s.Moves s1 := by
  have hm := s.validateModel_moves h skip tier
  rwa [hv] at hm

/-- R36: a model handle that passes its checks names the descriptor that stands in its slot. -/
theorem State.validateModel_pass {s s1 : State} {h : Handle} {skip : Bool} {tier : Nat}
    {m : ModelIx} {x : Model} (hv : s.validateModel h skip tier = (s1, .pass (m, x))) :
    s1.model m = some x ∧ s.Moves s1 := by
  have hm := s.validateModel_moves h skip tier
  rw [hv] at hm
  refine ⟨?_, hm⟩
  obtain ⟨c, k⟩ | ⟨n, c, k⟩ | ⟨n, y, hy, k⟩ := s.validateModel_cases h skip tier <;>
    rw [k] at hv <;> cases hv
  exact hy

@[simp] theorem State.holdForModel_models (m : ModelIx) (s : State) (i : SlotIx) :
    (State.holdForModel m s i).models = s.models := by
  unfold State.holdForModel
  split
  · split <;> rfl
  · rfl

/-- R46: the descriptor after a mismatch that is not already known. -/
theorem State.doubtModel_models {s : State} {m : ModelIx} {x : Model} (hx : s.model m = some x)
    (hd : s.modelAlreadyDoubtful m x = false) :
    (s.doubtModel m).models =
      (s.writeModel m { x with state := .doubtful, refCount := s.namingCount m }).models := by
  unfold State.doubtModel
  simp only [hx, hd, Bool.false_eq_true, if_false]
  exact foldl_keeps State.models _ (State.holdForModel_models m) _ _

/-- R36: a read that leaves an ACTIVE descriptor found no mismatch. -/
theorem State.readModel_of_active {s : State} {m : ModelIx} {x : Model}
    (hx : (s.readModel m).model m = some x) (ha : x.state = .active) : s.readModel m = s := by
  cases hm : s.model m with
  | none => simp [State.readModel, hm]
  | some y =>
    unfold State.readModel at hx ⊢
    simp only [hm] at hx ⊢
    split
    · rfl
    next hi =>
      rw [if_neg hi] at hx
      cases hd : s.modelAlreadyDoubtful m y with
      | true => simp [State.doubtModel, hm, hd]
      | false =>
        have k := congrArg (fun t : ModelTable => (t.slots.get m).model)
          (State.doubtModel_models hm hd)
        have := k.symm.trans hx
        have := (s.model_writeModel m m _).symm.trans this
        rw [if_pos rfl] at this
        obtain rfl := Option.some.inj this
        simp at ha

/-- R19: a carried model handle that resolves, when the model is ACTIVE, names it, and nothing has changed. -/
theorem State.carriedModel_pass {s s1 : State} {h : Handle} {m : ModelIx} {x : Model}
    (hc : s.carriedModel h = (s1, .pass (m, x))) :
    s1 = s ∧ h = s.modelHandleOf m ∧ s.model m = some x ∧ x.state = .active := by
  unfold State.carriedModel at hc
  split at hc
  · cases hc
  next k hk =>
    dsimp only at hc
    split at hc
    next y hy =>
      split at hc
      next ha =>
        cases hc
        have hs := State.readModel_of_active hy ha
        rw [hs] at hy
        refine ⟨hs, ?_, hy, ha⟩
        unfold State.resolveModel at hk
        split at hk
        · cases hk
        split at hk
        · cases hk
        next ht =>
          split at hk
          · cases hk
          next m' hm' =>
            split at hk
            · cases hk
            split at hk
            · cases hk
            next hg =>
              cases hk
              obtain ⟨tb, ix, g⟩ := h
              simp only [ne_eq, not_not] at ht hg
              unfold Handle.modelIx at hm'
              split at hm' <;> cases hm'
              simp [State.modelHandleOf, ht, hg]
      · cases hc
    · cases hc

theorem State.carriedModel_moves (s : State) (h : Handle) : s.Moves (s.carriedModel h).1 := by
  unfold State.carriedModel
  split
  · exact .refl s
  · dsimp only
    split
    · split <;> exact s.readModel_moves _
    · exact s.readModel_moves _

/-- R19: a carried model handle that fails: the read that was made is all that has happened. -/
theorem State.carriedModel_fail {s s1 : State} {h : Handle} {c : Code}
    (hc : s.carriedModel h = (s1, .fail c)) : s.Moves s1 := by
  have hm := s.carriedModel_moves h
  rwa [hc] at hm

/-- R65, R66: START and RESUME read the model; when it is ACTIVE nothing has changed. -/
theorem State.modelActive_spec (s : State) (r : ShelfRecord) :
    s.Moves (s.modelActive r).1 ∧ ((s.modelActive r).2 = true → (s.modelActive r).1 = s) := by
  unfold State.modelActive
  split
  · refine ⟨s.readModel_moves _, fun h => ?_⟩
    simp only [decide_eq_true_eq] at h
    obtain ⟨x, hx, ha⟩ := Option.map_eq_some_iff.mp h
    exact State.readModel_of_active hx ha
  · exact ⟨.refl s, fun h => by cases h⟩

end Sys2Proof.Machine
end

section
/-! SUPPORT. What every command does to the tables, the settings and the requests: a chain of moves. -/

namespace Sys2Proof.Machine

variable {s t : State} {l : Link}

/-! ### ADMIT, LOOKUP, PROBE, FIND -/

theorem State.freeSlot_free {i : SlotIx} (h : s.freeSlot = some i) : s.record i = none := by
  have := List.find?_some h
  simp only [Bool.and_eq_true, Option.isNone_iff_eq_none] at this
  exact this.2

theorem admitWith_moves (s : State) (l : Link) (tier : Nat) (b : AdmitBody) :
    s.Moves (admitWith l tier b s) := by
  unfold admitWith
  split
  · exact (State.Moves.refl s).refuse ..
  split
  next h => exact (State.carriedModel_fail h).refuse ..
  next s1 m x h =>
    obtain ⟨rfl, hm, hx, ha⟩ := State.carriedModel_pass h
    split
    · exact (State.Moves.refl _).refuse ..
    split
    · exact (State.Moves.refl _).refuse ..
    split
    · exact (State.Moves.refl _).refuse ..
    next hs =>
      split
      · exact (State.Moves.refl _).refuse ..
      next i hi =>
        split
        · exact (State.Moves.refl _).refuse ..
        · exact ((State.Moves.refl _).move
            (.fill (State.freeSlot_free hi) (by simpa using hs) hm hx ha)).answer ..

theorem execAdmit_moves (h : execAdmit l s = .next t) : s.Moves t := by
  cases h
  refine .serve fun q _ => ?_
  split
  · exact (State.Moves.refl s).refuse ..
  · exact admitWith_moves ..

theorem execLookup_moves (h : execLookup l s = .next t) : s.Moves t := by
  cases h
  refine .serve fun q hq => ?_
  split
  · exact (State.Moves.refl s).refuse ..
  split
  next h => exact (State.validate_fail h).refuse ..
  next s1 i r h =>
    obtain ⟨-, hm, hs⟩ := State.validate_pass h
    split
    next e hst _ =>
      obtain rfl := hs (by rw [hst]; simp)
      exact (hm.kept (s1.waitLookup_kept ⟨e, s1.handleOf i⟩ hq)).ledger (by simp)
    · exact hm.answer ..

theorem execProbe_moves (h : execProbe l s = .next t) : s.Moves t := by
  cases h
  refine .serve fun q _ => ?_
  split
  · exact (State.Moves.refl s).refuse ..
  split
  next h => exact (State.validate_fail h).answer ..
  next h => exact (State.validate_pass h).2.1.answer ..

theorem execFind_moves (h : execFind l s = .next t) : s.Moves t := by
  cases h
  refine .serve fun q _ => ?_
  split
  · exact (State.Moves.refl s).refuse ..
  · split <;> exact (State.Moves.refl s).answer ..

/-! ### START, RESUME, ABORT, RELEASE, TAKE -/

theorem State.startRecord_moves {i : SlotIx} {r : ShelfRecord} (hr : s.record i = some r)
    (hst : r.state = .ready ∨ r.state = .passed ∨ r.state = .failed) :
    s.Moves (s.startRecord i r) := by
  refine (State.Moves.refl s).move (.enter (State.queue_rewrites hr ?_ (.inr ⟨?_, rfl⟩) rfl
    (.inr rfl) rfl rfl rfl) rfl)
  · rintro h; simp [h] at hst
  · rintro h; simp [h] at hst

theorem State.resumeRecord_moves {i : SlotIx} {r : ShelfRecord} (hr : s.record i = some r)
    (hst : r.state = .held) : s.Moves (s.resumeRecord i r) :=
  (State.Moves.refl s).move (.enter (State.queue_rewrites hr (by rw [hst]; simp) (.inl rfl) rfl
    (.inl rfl) rfl rfl rfl) rfl)

theorem execStart_moves (h : execStart l s = .next t) : s.Moves t := by
  cases h
  refine .serve fun q _ => ?_
  split
  · exact (State.Moves.refl s).refuse ..
  split
  next h => exact (State.validate_fail h).refuse ..
  next s1 i r h =>
    obtain ⟨hr, hm, -⟩ := State.validate_pass h
    obtain ⟨ha, hs⟩ := s1.modelActive_spec r
    split
    · exact hm.refuse ..
    next hst =>
      split
      · exact hm.refuse ..
      extract_lets a
      split
      · exact (hm.trans ha).refuse ..
      next hact =>
        have hact : a.1 = s1 := hs (by simpa using hact)
        rw [hact]
        split
        · exact hm.refuse ..
        · exact (hm.trans (State.startRecord_moves hr (by tauto))).answer ..

theorem execResume_moves (h : execResume l s = .next t) : s.Moves t := by
  cases h
  refine .serve fun q _ => ?_
  split
  · exact (State.Moves.refl s).refuse ..
  split
  next h => exact (State.validate_fail h).refuse ..
  next s1 i r h =>
    obtain ⟨hr, hm, -⟩ := State.validate_pass h
    obtain ⟨ha, hs⟩ := s1.modelActive_spec r
    split
    · exact hm.refuse ..
    next hst =>
      split
      · exact hm.refuse ..
      extract_lets a
      split
      · exact (hm.trans ha).refuse ..
      next hact =>
        have hact : a.1 = s1 := hs (by simpa using hact)
        rw [hact]
        split
        · exact hm.refuse ..
        · exact (hm.trans (State.resumeRecord_moves hr (by tauto))).answer ..

theorem execAbort_moves (h : execAbort l s = .next t) : s.Moves t := by
  cases h
  refine .serve fun q _ => ?_
  split
  · exact (State.Moves.refl s).refuse ..
  split
  next h => exact (State.validate_fail h).refuse ..
  next s1 i r h =>
    obtain ⟨hr, hm, -⟩ := State.validate_pass h
    split
    next hq => exact (hm.trans (State.holdQueued_moves hr hq _)).answer ..
    · exact (hm.ledger (State.stopHolder_ledger ..)).answer ..
    · exact hm.refuse ..

theorem State.releaseRecord_moves {i : SlotIx} {r : ShelfRecord} (hr : s.record i = some r) :
    s.Moves (s.releaseRecord i r) :=
  (State.Moves.refl s).move (.empty hr (.of_ledger (by simp)))

theorem execRelease_moves (h : execRelease l s = .next t) : s.Moves t := by
  cases h
  refine .serve fun q _ => ?_
  split
  · exact (State.Moves.refl s).refuse ..
  split
  next h => exact (State.validate_fail h).refuse ..
  next s1 i r h =>
    obtain ⟨hr, hm, -⟩ := State.validate_pass h
    split
    · exact hm.refuse ..
    · exact (hm.trans (State.releaseRecord_moves hr)).answer ..

theorem execTake_moves (h : execTake l s = .next t) : s.Moves t := by
  cases h
  refine .serve fun q _ => ?_
  split
  · exact (State.Moves.refl s).refuse ..
  split
  · exact (State.Moves.refl s).answer ..
  next xs _ =>
    have k : s.Moves { s with store := { s.store with attention := xs } } :=
      (State.Moves.refl s).ledger rfl
    exact k.answer ..

/-! ### AMEND, BIND -/

/-- R58: the AMEND of one item, when the item's own part makes moves. -/
theorem State.serveAmend_moves {item : AmendItem}
    {f : Request → AmendValue → State → SlotIx → ShelfRecord → State}
    (hf : ∀ q v u i r, State.record u i = some r → u.Moves (f q v u i r)) :
    s.Moves (s.serveAmend l item f) := by
  refine .serve fun q _ => ?_
  split
  · exact .refl s
  split
  · exact (State.Moves.refl s).refuse ..
  split
  next h => exact (State.validate_fail h).refuse ..
  next h =>
    obtain ⟨hr, hm, -⟩ := State.validate_pass h
    exact hm.trans (hf _ _ _ _ _ hr)

/-- R60, R63, R64: an item whose write changes neither state, reason, engine, model, cursor, priority nor bay. -/
theorem State.writeAmended_moves {i : SlotIx} {r r' : ShelfRecord} (hr : s.record i = some r)
    {a : AmendItem} {value : List Byte} (serial : r'.serial = r.serial := by rfl)
    (results : r'.results = r.results := by rfl) (state : r'.state = r.state := by rfl)
    (hold : r'.hold = r.hold := by rfl) (engaged : r'.engaged = r.engaged := by rfl)
    (model : r'.model = r.model := by rfl) (cursor : r'.cursor = r.cursor := by rfl)
    (priority : r'.priority = r.priority := by rfl) (bay : r'.bay = r.bay := by rfl) :
    s.Moves ((s.writeRecord i r').amended l a value) :=
  ((State.Moves.refl s).move (.write (.plain hr serial results state hold engaged model cursor)
    fun _ => ⟨by rw [state], fun _ => ⟨priority, bay⟩⟩)).amended ..

/-- R59: the new priority is written, and a QUEUED record moves in the start queue. -/
theorem State.requeue_moves {i : SlotIx} {r : ShelfRecord} (hr : s.record i = some r) (p : Nat) :
    s.Moves ((s.writeRecord i { r with priority := p }).requeue i r) := by
  have h : s.Rewrites i r { r with priority := p } := .plain hr rfl rfl rfl rfl rfl rfl rfl
  unfold State.requeue
  split
  next hq => exact (State.Moves.refl s).move (.enter h hq)
  next hq =>
    exact (State.Moves.refl s).move (.write h fun _ => ⟨Iff.rfl, fun k => absurd k hq⟩)

theorem execAmendPriority_moves (h : execAmendPriority l s = .next t) : s.Moves t := by
  cases h
  refine State.serveAmend_moves fun q v u i r hr => ?_
  split
  · split
    · exact (State.Moves.refl u).refuse ..
    · exact ((State.requeue_moves hr _).ledger (State.passToHolder_ledger ..)).answer ..
  · exact .refl u

theorem execAmendGuardLevel_moves (h : execAmendGuardLevel l s = .next t) : s.Moves t := by
  cases h
  refine State.serveAmend_moves fun q v u i r hr => ?_
  split
  · split
    · exact (State.Moves.refl u).refuse ..
    · exact State.writeAmended_moves hr
  · exact .refl u

theorem execAmendNote_moves (h : execAmendNote l s = .next t) : s.Moves t := by
  cases h
  refine State.serveAmend_moves fun q v u i r hr => ?_
  split
  · exact State.writeAmended_moves hr
  · exact .refl u

theorem execAmendModelHandle_moves (h : execAmendModelHandle l s = .next t) : s.Moves t := by
  cases h
  refine State.serveAmend_moves fun q v u i r hr => ?_
  split
  · split
    · exact (State.Moves.refl u).refuse ..
    next hc =>
      split
      next h => exact (State.carriedModel_fail h).refuse ..
      next h =>
        obtain ⟨rfl, rfl, hx, ha⟩ := State.carriedModel_pass h
        split
        · exact (State.Moves.refl _).refuse ..
        · exact ((State.Moves.refl _).move (.rename hr hc hx ha)).answer ..
  · exact .refl u

theorem execAddModule_moves (h : execAddModule l s = .next t) : s.Moves t := by
  cases h
  refine State.serveAmend_moves fun q v u i r hr => ?_
  split
  · split
    · exact (State.Moves.refl u).refuse ..
    split
    · exact (State.Moves.refl u).refuse ..
    split
    · exact (State.Moves.refl u).refuse ..
    split
    · exact (State.Moves.refl u).refuse ..
    · exact State.writeAmended_moves hr
  · exact .refl u

theorem execDropModule_moves (h : execDropModule l s = .next t) : s.Moves t := by
  cases h
  refine State.serveAmend_moves fun q v u i r hr => ?_
  split
  · split
    · exact (State.Moves.refl u).refuse ..
    split
    · exact (State.Moves.refl u).refuse ..
    split
    · exact (State.Moves.refl u).refuse ..
    split
    · exact (State.Moves.refl u).refuse ..
    · exact State.writeAmended_moves hr
  · exact .refl u

theorem execAmendPresentFlag_moves (h : execAmendPresentFlag l s = .next t) : s.Moves t := by
  cases h
  refine State.serveAmend_moves fun q v u i r hr => ?_
  split
  · split
    · exact (State.Moves.refl u).refuse ..
    split
    · exact (State.Moves.refl u).refuse ..
    split
    · exact (State.Moves.refl u).refuse ..
    · exact State.writeAmended_moves hr
  · exact .refl u

theorem State.bindRecord_moves {i : SlotIx} {r : ShelfRecord} (hr : s.record i = some r)
    (hst : r.state = .staged) (b : BayIx) : s.Moves (s.bindRecord i r b) := by
  obtain ⟨h, hk⟩ := State.seat_rewrites (s := s)
    (r' := { r with bay := some b, state := if (s.bay b).seated then .ready else .bound }) hr hst
    (by simp) (by by_cases k : (s.bay b).seated = true <;> simp [k]) rfl rfl rfl rfl rfl
  exact ((State.Moves.refl s).move (.write h fun _ => hk)).ledger rfl

theorem execBind_moves (h : execBind l s = .next t) : s.Moves t := by
  cases h
  refine .serve fun q _ => ?_
  split
  · exact (State.Moves.refl s).refuse ..
  split
  · exact .refl s
  split
  next h => exact (State.validate_fail h).refuse ..
  next h =>
    obtain ⟨hr, hm, -⟩ := State.validate_pass h
    split
    · exact hm.refuse ..
    split
    · exact hm.refuse ..
    next hst =>
      split
      · exact hm.refuse ..
      · exact (hm.trans (State.bindRecord_moves hr (by simpa using hst) _)).answer ..

theorem State.unbindRecord_moves {i : SlotIx} {r : ShelfRecord} (hr : s.record i = some r)
    (hq : r.state ≠ .queued) (b : BayIx) : s.Moves (s.unbindRecord i r b) := by
  by_cases hst : r.state = .bound ∨ r.state = .ready
  · obtain ⟨h, hk⟩ := State.seat_rewrites (s := s) (x := r.state)
      (r' := { r with bay := none, state := unboundState r.state }) hr rfl
      (by obtain h | h := hst <;> simp [h]) (by simp [unboundState, hst]) rfl rfl rfl rfl rfl
    exact ((State.Moves.refl s).move (.write h fun _ => hk)).ledger rfl
  · have hu : unboundState r.state = r.state := if_neg hst
    have h : s.Rewrites i r { r with bay := none, state := unboundState r.state } :=
      .plain hr rfl rfl hu rfl rfl rfl rfl
    refine ((State.Moves.refl s).move (.write h fun _ => ⟨?_, fun k => absurd k hq⟩)).ledger rfl
    rw [hu]

theorem execUnbind_moves (h : execUnbind l s = .next t) : s.Moves t := by
  cases h
  refine .serve fun q _ => ?_
  split
  · exact (State.Moves.refl s).refuse ..
  split
  · exact .refl s
  split
  · exact (State.Moves.refl s).refuse ..
  split
  · exact (State.Moves.refl s).refuse ..
  next i _ =>
    have hm := s.readRecord_moves i
    dsimp only
    split
    · exact hm.refuse ..
    next r hr =>
      split
      · exact hm.refuse ..
      split
      · exact hm.refuse ..
      split
      · exact hm.refuse ..
      next hq =>
        exact (hm.trans (State.unbindRecord_moves hr (fun k => hq (.inl k)) _)).answer ..

/-! ### Model requests -/

/-- R36: a model request, when its own part makes moves. -/
theorem State.serveModel_moves {α : Type} {code : ReqCode} {read : List Byte → Option α}
    {handle : α → Handle} {skip : Bool} {f : α → State → ModelIx → Model → State}
    (hf : ∀ a u m x, State.model u m = some x → u.Moves (f a u m x)) :
    s.Moves (s.serveModel l code read handle skip f) := by
  refine .serve fun q _ => ?_
  split
  · exact (State.Moves.refl s).refuse ..
  split
  next h => exact (State.validateModel_fail h).refuse ..
  next h =>
    obtain ⟨hx, hm⟩ := State.validateModel_pass h
    exact hm.trans (hf _ _ _ _ hx)

theorem State.emptyModel_empty {m : ModelIx} (h : s.emptyModel = some m) : s.model m = none := by
  have := List.find?_some h
  simpa using this

theorem execCreateModel_moves (h : execCreateModel l s = .next t) : s.Moves t := by
  cases h
  refine .serve fun q _ => ?_
  split
  · exact (State.Moves.refl s).refuse ..
  split
  · exact (State.Moves.refl s).refuse ..
  split
  · exact (State.Moves.refl s).refuse ..
  split
  · exact (State.Moves.refl s).refuse ..
  split
  · exact (State.Moves.refl s).refuse ..
  next h => exact ((State.Moves.refl s).move (.create (State.emptyModel_empty h))).answerModel ..

/-- R38: an item is stored beside the reference count. -/
theorem Model.edited_refCount (x : Model) (a : EditItem) : (x.edited a).refCount = x.refCount := by
  unfold Model.edited; split <;> rfl

theorem execEditModel_moves (h : execEditModel l s = .next t) : s.Moves t := by
  cases h
  refine State.serveModel_moves fun a u m x hx => ?_
  split
  · exact (State.Moves.refl u).answerModel ..
  next hst =>
    have hst : x.state = .draft := by simpa using hst
    split
    · exact (State.Moves.refl u).answerModel ..
    split
    · exact (State.Moves.refl u).answerModel ..
    · exact ((State.Moves.refl u).move (.describe hx (.inl (x.edited_refCount _)) (.inl hst)
        fun _ => .inl hst)).answerModel ..

theorem execActivate_moves (h : execActivate l s = .next t) : s.Moves t := by
  cases h
  refine State.serveModel_moves fun a u m x hx => ?_
  split
  · exact (State.Moves.refl u).answerModel ..
  split
  · exact (State.Moves.refl u).answer ..
  · refine State.Moves.answerModel ((State.Moves.refl u).move ?_) ..
    exact .describe hx (.inl rfl) (.inr rfl) (by simp)

theorem execRevise_moves (h : execRevise l s = .next t) : s.Moves t := by
  cases h
  refine State.serveModel_moves fun a u m x hx => ?_
  split
  · exact (State.Moves.refl u).answerModel ..
  split
  · exact (State.Moves.refl u).answerModel ..
  next hc =>
    split
    · exact (State.Moves.refl u).answerModel ..
    split
    · exact (State.Moves.refl u).answerModel ..
    · refine State.Moves.answerModel ((State.Moves.refl u).move ?_) ..
      exact .describe hx (.inl rfl) (.inr rfl) fun _ => .inr (by omega)

theorem execDiscard_moves (h : execDiscard l s = .next t) : s.Moves t := by
  cases h
  refine State.serveModel_moves fun a u m x hx => ?_
  split
  · exact (State.Moves.refl u).answerModel ..
  · exact ((State.Moves.refl u).move (.discard hx (by omega))).answer ..

/-! ### Station requests -/

/-- R173: the budget that a body of SET_BUDGET carries is at most 60000. -/
theorem readBudgetBody_range {bs : List Byte} {b g : Nat}
    (h : readAll readBudgetBody bs = some (b, g)) : b ≤ 60000 := by
  unfold readAll at h
  split at h
  next x hx =>
    cases h
    simp only [readBudgetBody, Option.bind_eq_bind, Option.bind_eq_some_iff] at hx
    obtain ⟨⟨b', bs1⟩, -, ⟨g', bs2⟩, -, hx⟩ := hx
    dsimp only at hx
    split at hx
    next hr => cases hx; exact hr.1
    · cases hx
  · cases h

/-- R174: the limits that a body of SET_FEED_WINDOW carries hold a recovery band. -/
theorem readWindowBody_range {bs : List Byte} {lo hi : Nat}
    (h : readAll readWindowBody bs = some (lo, hi)) : lo + 100 ≤ hi ∧ hi ≤ 6000 := by
  unfold readAll at h
  split at h
  next x hx =>
    cases h
    simp only [readWindowBody, Option.bind_eq_bind, Option.bind_eq_some_iff] at hx
    obtain ⟨⟨lo', bs1⟩, -, ⟨hi', bs2⟩, -, hx⟩ := hx
    dsimp only at hx
    split at hx
    next hr => cases hx; exact ⟨hr.2.2, hr.2.1⟩
    · cases hx
  · cases h

theorem execSetBudget_moves (h : execSetBudget l s = .next t) : s.Moves t := by
  cases h
  refine .serve fun q _ => ?_
  split
  · exact (State.Moves.refl s).refuse ..
  next b g hb =>
    split
    · exact (State.Moves.refl s).refuse ..
    · exact ((((State.Moves.refl s).ledger s.settled_ledger).move
        (.budget (readBudgetBody_range hb))).ledger (State.feedTest_ledger _)).answer ..

theorem execSetFeedWindow_moves (h : execSetFeedWindow l s = .next t) : s.Moves t := by
  cases h
  refine .serve fun q _ => ?_
  split
  · exact (State.Moves.refl s).refuse ..
  next lo hi hb =>
    obtain ⟨hw, hhi⟩ := readWindowBody_range hb
    split
    · exact (State.Moves.refl s).refuse ..
    · exact ((State.Moves.refl s).move (.window hw hhi)).answer ..

theorem State.serveStation_moves {code : ReqCode} {f : State → State} (hf : s.Moves (f s)) :
    s.Moves (s.serveStation l code f) := by
  refine .serve fun q _ => ?_
  split
  · exact (State.Moves.refl s).refuse ..
  split
  · exact (State.Moves.refl s).refuse ..
  · exact hf

theorem execBankStatus_moves (h : execBankStatus l s = .next t) : s.Moves t := by
  cases h
  exact State.serveStation_moves (((State.Moves.refl s).ledger s.settled_ledger).answer ..)

theorem execStationStatus_moves (h : execStationStatus l s = .next t) : s.Moves t := by
  cases h
  exact State.serveStation_moves (((State.Moves.refl s).ledger s.settled_ledger).answer ..)

/-- R195: the soft reset is the holding of the records, and nothing else of the tables. -/
theorem State.softReset_moves (s : State) : s.Moves s.softReset := by
  have h := (State.Moves.refl s).move .softHold
  unfold State.softHeld at h
  unfold State.softReset
  generalize ((List.finRange 32).foldl softHold s).setQueue [] = u at h ⊢
  exact h.ledger (State.softArbiter_ledger _)

theorem execReset_moves (h : execReset l s = .next t) : s.Moves t := by
  cases h
  exact State.serveStation_moves ((((State.Moves.refl s).answer ..).kept
    (State.completeWaiting_kept ..)).trans (State.softReset_moves _))

end Sys2Proof.Machine
end

section
/-! SUPPORT. What the events do to the tables, the settings and the requests, and what a step does. -/

namespace Sys2Proof.Machine

variable {s t : State}

/-! ### Resets and scrubs -/

theorem State.atRelease_blank (now : Nat) (pins : StrapPins) (seats indicators : BitVec 24) :
    (State.atRelease now pins seats indicators).Blank where
  slots := rfl
  queue := rfl
  models := rfl
  settings := by
    show (0 ≤ 0 ∧ 0 ≤ 60000 ∧ 3400 + 100 ≤ 4600 ∧ 4600 ≤ 6000)
    decide
  requests l := by cases l <;> rfl

theorem State.Blank.of_ledger {s t : State} (h : s.Blank) (k : t.ledger = s.ledger) : t.Blank := by
  have hk := State.Kept.of_ledger k
  refine ⟨hk.slots.trans h.slots, hk.queue.trans h.queue, hk.models.trans h.models,
    h.settings.of_eq hk.budget hk.guard hk.low hk.high, fun l => ?_⟩
  have := hk.requests l
  simpa [h.requests l] using this

theorem execPowerOnReset_moves (h : execPowerOnReset s = .next t) : s.Moves t := by
  cases h
  exact (State.Moves.refl s).move (.blank ((State.atRelease_blank s.now Config.resetPins 0 0).of_ledger
    rfl))

theorem execResetRelease_moves {pins : StrapPins} {seats indicators : BitVec 24}
    (h : execResetRelease pins seats indicators s = .next t) : s.Moves t := by
  cases h
  exact (State.Moves.refl s).move (.blank ((State.atRelease_blank s.now pins seats
    indicators).of_ledger rfl))

theorem execShelfScrub_moves (h : execShelfScrub s = .next t) : s.Moves t := by
  cases h
  refine .live ?_
  extract_lets s0 s1
  exact (((State.Moves.refl s).ledger (s.atTick_ledger _)).trans (s0.readRecord_moves _)).ledger rfl

theorem execModelScrub_moves (h : execModelScrub s = .next t) : s.Moves t := by
  cases h
  refine .live ?_
  extract_lets s0 s1
  exact (((State.Moves.refl s).ledger (s.atTick_ledger _)).trans (s0.readModel_moves _)).ledger rfl

/-! ### Bay lines -/

/-- R75: a seat event writes the bound record by its state, or reaches its engine. -/
theorem State.seatEvent_moves (s : State) (b : BayIx) (up : Bool) : s.Moves (s.seatEvent b up) := by
  unfold State.seatEvent
  split
  · exact .refl s
  split
  · exact .refl s
  next r hr =>
    split
    next hst =>
      obtain ⟨h, hk⟩ := State.seat_rewrites (r' := { r with state := .ready }) hr hst (by simp)
        (by simp) rfl rfl rfl rfl rfl
      exact (State.Moves.refl s).move (.write h fun _ => hk)
    next hst =>
      obtain ⟨h, hk⟩ := State.seat_rewrites (r' := { r with state := .bound }) hr hst (by simp)
        (by simp) rfl rfl rfl rfl rfl
      exact (State.Moves.refl s).move (.write h fun _ => hk)
    next hq => exact State.holdQueued_moves hr hq _
    · exact (State.Moves.refl s).ledger (by simp)
    · exact .refl s

theorem execSeatInputChange_moves {b : BayIx} {up : Bool} (h : execSeatInputChange b up s = .next t) :
    s.Moves t := by
  cases h
  refine .live_ledger ?_
  split <;> rfl

theorem execDebounceExpiry_moves {b : BayIx} (h : execDebounceExpiry b s = .next t) :
    s.Moves t := by
  cases h
  refine .live ?_
  split
  · exact .refl s
  · dsimp only
    split
    · exact (State.Moves.refl s).ledger (by simp)
    · exact ((State.Moves.refl s).ledger (by simp)).trans (State.seatEvent_moves _ _ _)

theorem execTripIndicatorChange_moves {b : BayIx} {a : Bool}
    (h : execTripIndicatorChange b a s = .next t) : s.Moves t := by
  cases h
  refine .live_ledger ?_
  split
  · rfl
  dsimp only
  split
  · split <;> simp
  · rfl

theorem execRearmPulseEnd_moves {b : BayIx} (h : execRearmPulseEnd b s = .next t) :
    s.Moves t := by
  cases h
  refine .live_ledger ?_
  split <;> simp

/-! ### Sense link and feed -/

theorem execBayFrame_moves {f : List Byte} (h : execBayFrame f s = .next t) : s.Moves t := by
  cases h
  refine .live_ledger ?_
  split
  · rfl
  dsimp only
  split <;> simp [State.storeBay]

theorem execBayStale_moves {b : BayIx} (h : execBayStale b s = .next t) : s.Moves t := by
  cases h
  refine .live_ledger ?_
  split
  · rfl
  dsimp only
  split <;> simp

theorem execFeedFrame_moves {f : List Byte} (h : execFeedFrame f s = .next t) : s.Moves t := by
  cases h
  refine .live_ledger ?_
  split
  · rfl
  · rw [State.judgeWindow_ledger, State.overDraw_ledger]; rfl

theorem execFeedStale_moves (h : execFeedStale s = .next t) : s.Moves t := by
  cases h
  refine .live_ledger ?_
  split
  · rfl
  · rw [State.feedStaleEvent_ledger]; exact s.atTick_ledger _

theorem execRecoveryExpiry_moves (h : execRecoveryExpiry s = .next t) : s.Moves t := by
  cases h
  refine .live_ledger ?_
  split
  · rfl
  · rw [State.feedTest_ledger]
    exact (State.setFeed_ledger _ rfl rfl rfl rfl).trans (s.atTick_ledger _)

theorem execAttentionPulseEnd_moves (h : execAttentionPulseEnd s = .next t) : s.Moves t := by
  cases h
  refine .live_ledger ?_
  split
  · rfl
  · exact s.atTick_ledger _

/-! ### Engines -/

theorem State.mem_queue_state {i : SlotIx} {r : ShelfRecord} (hs : s.LifecycleHolds)
    (hi : i ∈ s.store.queue) (hr : s.record i = some r) : r.state = .queued := by
  have := (hs.2.1 i).mp hi
  rw [hr] at this
  exact Option.some.inj this

/-- R106: the head of the queue becomes RUNNING with its engine. -/
theorem State.takeRecord_moves {e : EngineIx} {i : SlotIx} {r : ShelfRecord}
    (hr : s.record i = some r) (hi : i ∈ s.store.queue) (c : WorkingCopy) :
    s.Moves (s.takeRecord e i r c) := by
  have h : s.Rewrites i r { r with state := .running, engaged := some e } :=
    { record := hr, serial := rfl, results := fun h => h, model := rfl
      passed := fun _ h => by cases h
      lifecycle := fun hs => by
        have hq := State.mem_queue_state hs hi hr
        have hh := (hs.2.2 i r hr).2
        simp only [hq, reduceCtorEq, iff_false] at hh
        simp [ShelfRecord.LifecycleHolds, hh] }
  exact ((State.Moves.refl s).move (.leave h (by simp))).ledger rfl

theorem State.takeHead_moves {e : EngineIx} {i : SlotIx} (hi : i ∈ s.store.queue) :
    s.Moves (s.takeHead e i) := by
  unfold State.takeHead
  split
  · exact .refl s
  next r hr =>
    split
    · exact s.doubtRecord_moves i
    split
    · exact .refl s
    split
    · exact .refl s
    split
    · exact s.doubtModel_moves _
    split
    · exact .refl s
    next c _ => exact (State.takeRecord_moves (e := e) hr hi c).ledger (by simp)

theorem execEngineTake_moves (h : execEngineTake s = .next t) : s.Moves t := by
  cases h
  refine .live ?_
  have hm := (State.Moves.refl s).ledger s.settled_ledger
  dsimp only
  split
  next i q e hq _ =>
    split
    · exact hm
    · exact hm.trans (State.takeHead_moves (by rw [hq]; exact List.mem_cons_self))
  · exact hm

theorem execDerateEvaluation_moves {e : EngineIx} (h : execDerateEvaluation e s = .next t) :
    s.Moves t := by
  cases h
  refine .live_ledger ?_
  dsimp only
  split
  · split <;> simp
  · simp

theorem execHoldDurationExpiry_moves {e : EngineIx} (h : execHoldDurationExpiry e s = .next t) :
    s.Moves t := by
  cases h
  refine .live_ledger ?_
  split
  · split <;> simp
  · rfl

theorem execTripWindowClose_moves {e : EngineIx} (h : execTripWindowClose e s = .next t) :
    s.Moves t := by
  cases h
  refine .live_ledger ?_
  split
  · split <;> simp
  · rfl

theorem execSettleExpiry_moves {e : EngineIx} (h : execSettleExpiry e s = .next t) :
    s.Moves t := by
  cases h
  refine .live_ledger ?_
  split
  · split <;> simp
  · rfl

theorem execLatchObserveExpiry_moves {e : EngineIx} (h : execLatchObserveExpiry e s = .next t) :
    s.Moves t := by
  cases h
  refine .live_ledger ?_
  split
  · split
    · split <;> simp
    · rfl
  · rfl

theorem execRestartWindowClose_moves {e : EngineIx} (h : execRestartWindowClose e s = .next t) :
    s.Moves t := by
  cases h
  refine .live_ledger ?_
  split
  · split <;> simp
  · rfl

/-! ### Engine messages -/

/-- R10: an entry put into results in ascending index is among them, and the others of another index stay. -/
theorem mem_putResult {x : ResultEntry} {l : List ResultEntry}
    (hl : l.Pairwise fun a b => a.index < b.index) (y : ResultEntry) :
    y ∈ putResult x l ↔ y = x ∨ (y ∈ l ∧ y.index ≠ x.index) := by
  induction l with
  | nil => simp [putResult]
  | cons z zs ih =>
    obtain ⟨hz, hzs⟩ := List.pairwise_cons.mp hl
    unfold putResult
    split
    next hlt =>
      have : ∀ y ∈ z :: zs, y.index ≠ x.index := fun y hy => by
        rcases List.mem_cons.mp hy with rfl | hy
        · omega
        · have := hz y hy; omega
      rw [List.mem_cons, and_iff_left_of_imp (this y)]
    split
    next heq =>
      have : ∀ y ∈ zs, y.index ≠ x.index := fun y hy => by have := hz y hy; omega
      rw [List.mem_cons, List.mem_cons]
      constructor
      · rintro (rfl | hy)
        · exact .inl rfl
        · exact .inr ⟨.inr hy, this y hy⟩
      · rintro (rfl | ⟨rfl | hy, hne⟩)
        · exact .inl rfl
        · exact absurd heq.symm hne
        · exact .inr hy
    next hlt hne =>
      rw [List.mem_cons, ih hzs, List.mem_cons]
      have hzx : z.index ≠ x.index := fun e => hne e.symm
      constructor
      · rintro (rfl | rfl | ⟨hy, h⟩)
        · exact .inr ⟨.inl rfl, hzx⟩
        · exact .inl rfl
        · exact .inr ⟨.inr hy, h⟩
      · rintro (rfl | ⟨rfl | hy, h⟩)
        · exact .inr (.inl rfl)
        · exact .inl rfl
        · exact .inr (.inr ⟨hy, h⟩)

theorem putResult_sorted (x : ResultEntry) {l : List ResultEntry}
    (hl : l.Pairwise fun a b => a.index < b.index) :
    (putResult x l).Pairwise fun a b => a.index < b.index := by
  induction l with
  | nil => exact List.pairwise_singleton _ x
  | cons z zs ih =>
    obtain ⟨hz, hzs⟩ := List.pairwise_cons.mp hl
    unfold putResult
    split
    next hlt =>
      refine List.pairwise_cons.mpr ⟨fun y hy => ?_, hl⟩
      rcases List.mem_cons.mp hy with rfl | hy
      · exact hlt
      · exact hlt.trans (hz y hy)
    split
    next heq => exact List.pairwise_cons.mpr ⟨fun y hy => heq ▸ hz y hy, hzs⟩
    next hlt hne =>
      refine List.pairwise_cons.mpr ⟨fun y hy => ?_, ih hzs⟩
      rcases (mem_putResult hzs y).mp hy with rfl | ⟨hy, -⟩
      · omega
      · exact hz y hy

theorem execExtract_moves {e : EngineIx} (h : execExtract e s = .next t) : s.Moves t := by
  cases h
  refine .live ?_
  split
  · have hm : s.Moves (s.popMessage e) := (State.Moves.refl s).ledger rfl
    unfold State.serveExtract
    split
    · split
      · exact hm.answer ..
      · exact hm
    · exact hm
  · exact .refl s

theorem State.writePassage_moves (s : State) (e : EngineIx) (h : Handle) (n v : Nat)
    (cause : DetectCause) (att : Nat) : s.Moves (s.writePassage e h n v cause att) := by
  unfold State.writePassage
  split
  · exact .refl s
  next r hr =>
    obtain ⟨hrec, -, heng, -⟩ := State.engagedRecord_spec hr
    refine (State.Moves.refl s).move (.write ⟨⟨hrec, rfl, putResult_sorted _, fun hs => ?_⟩, rfl,
      fun hs hp => ?_⟩ fun _ => ⟨Iff.rfl, fun _ => ⟨rfl, rfl⟩⟩)
    · exact hs.2.2 _ r hrec
    · have : r.state = .running := (hs.2.2 _ r hrec).1.mp (by rw [heng]; rfl)
      rw [this] at hp
      cases hp

theorem execPassageWrite_moves {e : EngineIx} (h : execPassageWrite e s = .next t) :
    s.Moves t := by
  cases h
  refine .live ?_
  split
  · have hm : s.Moves (s.popMessage e) := (State.Moves.refl s).ledger rfl
    exact hm.trans (State.writePassage_moves ..)
  · exact .refl s

/-- R87: a close that would queue the record queues it or holds it. -/
theorem State.requeueWrite_spec (s : State) (r : ShelfRecord) (c n : Nat) :
    ((s.requeueWrite r c n).hold.isSome = true ↔ (s.requeueWrite r c n).state = .held) ∧
      ((s.requeueWrite r c n).state = .held ∨ (s.requeueWrite r c n).state = .queued) := by
  unfold State.requeueWrite
  split
  · simp
  split <;> simp

/-- R123: what a close writes: a hold reason exactly when it holds the record, never RUNNING, and PASSED at the
plan length alone. -/
theorem State.closeWrite_spec {r : ShelfRecord} {n : Nat} {o : StepOutcome} {late : Bool}
    {w : CloseWrite} (h : s.closeWrite r n o late = some w) :
    (w.hold.isSome = true ↔ w.state = .held) ∧ w.state ≠ .running ∧
      (w.state = .passed → w.cursor = s.planLength r) := by
  have requeued (c n : Nat) (hw : s.requeueWrite r c n = w) :
      (w.hold.isSome = true ↔ w.state = .held) ∧ w.state ≠ .running ∧
        (w.state = .passed → w.cursor = s.planLength r) := by
    subst hw
    obtain ⟨h1, h2 | h2⟩ := s.requeueWrite_spec r c n <;> exact ⟨h1, by simp [h2], by simp [h2]⟩
  unfold State.closeWrite at h
  split at h
  · split at h
    · split at h
      · cases h; simp
      · exact requeued _ _ (Option.some.inj h)
    · cases h; simp
  · cases h; simp
  · split at h
    · exact requeued _ _ (Option.some.inj h)
    · cases h; simp
  · exact requeued _ _ (Option.some.inj h)
  · cases h; simp
  · cases h

/-- R122: a close of a record that names an engine. -/
theorem State.writeClose_moves {i : SlotIx} {r : ShelfRecord} {x : ResultEntry} {w : CloseWrite}
    {n : Nat} {o : StepOutcome} {late : Bool} (hr : s.record i = some r)
    (he : r.engaged.isSome = true) (hw : s.closeWrite r n o late = some w) :
    s.Moves (s.writeClose i r x w) := by
  obtain ⟨hh, hrun, hp⟩ := State.closeWrite_spec hw
  let q : ShelfRecord := { r with
    results := putResult x r.results, cursor := w.cursor, retry := w.retry, state := w.state,
    hold := w.hold, engaged := none }
  have h : s.Rewrites i r q :=
    { record := hr, serial := rfl, results := putResult_sorted x, model := rfl
      passed := fun _ k => .inr (hp k)
      lifecycle := fun _ => ⟨by simp [q, hrun], hh⟩ }
  have hdef : s.writeClose i r x w =
      (((s.writeRecord i q).clearRun r.bay).requeueAfter i w.state).attendClose i x.outcome w.state :=
    rfl
  rw [hdef]
  by_cases hq : w.state = .queued
  · refine ((State.Moves.refl s).move (.enter h hq)).ledger ?_
    rw [State.attendClose_ledger, State.requeueAfter, if_pos hq]
    cases r.bay <;> rfl
  · refine ((State.Moves.refl s).move (.write h fun hs => ?_)).ledger ?_
    · have hst := (hs.2.2 i r hr).1.mp he
      exact ⟨by simp [q, hst, hq], by simp [hst]⟩
    · rw [State.attendClose_ledger, State.requeueAfter, if_neg hq, State.clearRun_ledger]

theorem State.serveClose_moves (s : State) (e : EngineIx) (h : Handle) (x : ResultEntry)
    (late : Bool) : s.Moves (s.serveClose e h x late) := by
  unfold State.serveClose
  extract_lets s1
  have hm : s.Moves s1 := by
    unfold s1
    split
    · exact s.readRecord_moves _
    · exact .refl s
  clear_value s1
  split
  · exact hm
  next r hr =>
    obtain ⟨hrec, -, heng, -⟩ := State.engagedRecord_spec hr
    split
    · exact hm
    next w hw =>
      have hc := State.writeClose_moves (x := x) hrec (by rw [heng]; rfl) hw
      exact (hm.trans hc).kept (State.completeLookups_kept ..)

theorem execStepClose_moves {e : EngineIx} (h : execStepClose e s = .next t) : s.Moves t := by
  cases h
  refine .live ?_
  split
  · have hm : s.Moves (s.popMessage e) := (State.Moves.refl s).ledger rfl
    exact hm.trans (State.serveClose_moves ..)
  · exact .refl s

/-! ### Load link -/

theorem execLinkTurn_moves (h : execLinkTurn s = .next t) : s.Moves t := by
  cases h
  refine .live_ledger ?_
  split <;> simp

theorem execIdentReply_moves {f : List Byte} (h : execIdentReply f s = .next t) : s.Moves t := by
  cases h
  refine (State.Moves.refl s).ledger (State.onReply_ledger _ _ _ fun y u => ?_)
  split <;> simp

theorem execReadyReply_moves {f : List Byte} (h : execReadyReply f s = .next t) : s.Moves t := by
  cases h
  refine (State.Moves.refl s).ledger (State.onReply_ledger _ _ _ fun y u => ?_)
  split
  · split
    · split <;> simp
    · rfl
  · rfl

theorem execLevelReply_moves {f : List Byte} (h : execLevelReply f s = .next t) : s.Moves t := by
  cases h
  refine (State.Moves.refl s).ledger (State.onReply_ledger _ _ _ fun y u => ?_)
  split <;> simp

theorem execReleasedReply_moves {f : List Byte} (h : execReleasedReply f s = .next t) :
    s.Moves t := by
  cases h
  refine (State.Moves.refl s).ledger (State.onReply_ledger _ _ _ fun y u => ?_)
  split <;> simp

theorem execWaitReply_moves {f : List Byte} (h : execWaitReply f s = .next t) : s.Moves t := by
  cases h
  refine .live_ledger ?_
  split <;> simp

theorem execFaultReply_moves {f : List Byte} (h : execFaultReply f s = .next t) : s.Moves t := by
  cases h
  refine .live_ledger ?_
  split <;> simp

theorem execExchangeTimeout_moves {b : BankIx} (h : execExchangeTimeout b s = .next t) :
    s.Moves t := by
  cases h
  refine .live_ledger ?_
  split <;> simp

theorem execRediscoveryTimer_moves (h : execRediscoveryTimer s = .next t) : s.Moves t := by
  cases h
  refine .live_ledger ?_
  dsimp only
  rw [foldl_keeps State.ledger _ fun t b => State.ask_ledger t _]
  exact s.atTick_ledger _

/-! ### Links -/

theorem execReadTransaction_moves {n : Nat} (h : execReadTransaction n s = .next t) :
    s.Moves t := by
  cases h
  refine .live ?_
  split
  · exact (State.Moves.refl s).ledger rfl
  · refine (State.Moves.refl s).kept ⟨⟨rfl, rfl, rfl⟩, rfl, rfl, rfl, rfl, fun l => .inr ?_⟩
    cases l
    · dsimp only [State.link]
      split <;> rfl
    · rfl

theorem execAnswerSent_moves (h : execAnswerSent s = .next t) : s.Moves t := by
  cases h
  refine .live ((State.Moves.refl s).kept ⟨⟨rfl, rfl, rfl⟩, rfl, rfl, rfl, rfl, fun l => .inr ?_⟩)
  cases l <;> rfl

theorem execConsoleFrameTimeout_moves (h : execConsoleFrameTimeout s = .next t) : s.Moves t := by
  cases h
  refine .live_ledger ?_
  split
  · exact s.atTick_ledger _
  · rfl

/-- Nothing changes but the links, the console receiver and what the executive link shifts out, and a link that
has a request keeps it. -/
structure State.LinksOnly (s t : State) : Prop where
  frame : t = { s with execLink := t.execLink, consoleLink := t.consoleLink, rx := t.rx,
                       spiOut := t.spiOut }
  requests : ∀ l p, (s.link l).request = some p → (t.link l).request = some p

theorem State.LinksOnly.refl (s : State) : s.LinksOnly s := ⟨rfl, fun _ _ h => h⟩

theorem State.LinksOnly.trans {u : State} (h : s.LinksOnly t) (k : t.LinksOnly u) :
    s.LinksOnly u := by
  refine ⟨?_, fun l p hp => k.requests l p (h.requests l p hp)⟩
  rw [k.frame, h.frame]

/-- A link is written and keeps the request that it has. -/
theorem State.setLink_linksOnly {l : Link} {x : LinkState}
    (h : ∀ p, (s.link l).request = some p → x.request = some p) : s.LinksOnly (s.setLink l x) := by
  refine ⟨by cases l <;> rfl, fun l' p hp => ?_⟩
  by_cases hl : l' = l
  · subst hl
    rw [State.link_setLink_same]
    exact h p hp
  · have ho : l' = otherLink l := by revert hl; cases l <;> cases l' <;> simp [otherLink]
    rw [ho, State.link_setLink_other, ← ho]
    exact hp

theorem State.formAnswer_eq_setLink (s : State) (l : Link) (tag : Byte) (c : Code)
    (body : List Byte) :
    s.formAnswer l tag c body = s.setLink l ((s.formAnswer l tag c body).link l) := by
  cases l <;> rfl

/-- R188: a frame that is complete reaches a link that is free, or is discarded. -/
theorem State.frameComplete_linksOnly (s : State) (l : Link) (bytes : List Byte) :
    s.LinksOnly (s.frameComplete l bytes) := by
  unfold State.frameComplete
  split
  next hf =>
    have hn (p : Request) : (s.link l).request ≠ some p := by
      simp only [State.linkFree, Bool.and_eq_true, Option.isNone_iff_eq_none] at hf
      rw [hf.1.1]
      exact nofun
    split
    · exact State.setLink_linksOnly fun p hp => absurd hp (hn p)
    · rw [State.formAnswer_eq_setLink]
      exact State.setLink_linksOnly fun p hp => absurd hp (hn p)
  · exact State.setLink_linksOnly fun p hp => hp

theorem State.consoleByte_linksOnly (s : State) (b : Byte) : s.LinksOnly (s.consoleByte b) := by
  unfold State.consoleByte
  split
  · split
    · exact ⟨rfl, fun l _ h => by cases l <;> exact h⟩
    · exact .refl s
  · dsimp only
    split
    · exact .trans ⟨rfl, fun l _ h => by cases l <;> exact h⟩ (State.frameComplete_linksOnly ..)
    · exact ⟨rfl, fun l _ h => by cases l <;> exact h⟩

theorem execRequestFrame_linksOnly {l : Link} {bytes : List Byte}
    (h : execRequestFrame l bytes s = .next t) : s.LinksOnly t := by
  cases h
  unfold State.live
  split
  · exact .refl s
  cases l
  · exact .trans ⟨rfl, fun l _ h => by cases l <;> exact h⟩ (State.frameComplete_linksOnly ..)
  · dsimp only
    split
    · have fold (bs : List Byte) : ∀ u : State, u.LinksOnly (bs.foldl State.consoleByte u) := by
        induction bs with
        | nil => exact .refl
        | cons b bs ih => exact fun u => (u.consoleByte_linksOnly b).trans (ih _)
      exact fold bytes s
    · exact .refl s

/-! ### Every command -/

/-- What every command does: moves of the tables, the settings and the requests, or, for a request frame, a
change of the links alone. -/
theorem exec_moves {c : Instr} (h : exec c s = .next t) : s.Moves t ∨ s.LinksOnly t := by
  cases c with
  | admitShelf => exact .inl (execAdmit_moves h)
  | lookup => exact .inl (execLookup_moves h)
  | extract => exact .inl (execExtract_moves h)
  | probe => exact .inl (execProbe_moves h)
  | find => exact .inl (execFind_moves h)
  | amendPriority => exact .inl (execAmendPriority_moves h)
  | amendGuardLevel => exact .inl (execAmendGuardLevel_moves h)
  | amendNote => exact .inl (execAmendNote_moves h)
  | amendModelHandle => exact .inl (execAmendModelHandle_moves h)
  | addModule => exact .inl (execAddModule_moves h)
  | dropModule => exact .inl (execDropModule_moves h)
  | amendPresentFlag => exact .inl (execAmendPresentFlag_moves h)
  | bindBay => exact .inl (execBind_moves h)
  | unbindBay => exact .inl (execUnbind_moves h)
  | start => exact .inl (execStart_moves h)
  | resume => exact .inl (execResume_moves h)
  | abort => exact .inl (execAbort_moves h)
  | release => exact .inl (execRelease_moves h)
  | take => exact .inl (execTake_moves h)
  | createModel => exact .inl (execCreateModel_moves h)
  | editModel => exact .inl (execEditModel_moves h)
  | activate => exact .inl (execActivate_moves h)
  | revise => exact .inl (execRevise_moves h)
  | discard => exact .inl (execDiscard_moves h)
  | setBudget => exact .inl (execSetBudget_moves h)
  | setFeedWindow => exact .inl (execSetFeedWindow_moves h)
  | bankStatus => exact .inl (execBankStatus_moves h)
  | stationStatus => exact .inl (execStationStatus_moves h)
  | reset => exact .inl (execReset_moves h)
  | requestFrame => exact .inr (execRequestFrame_linksOnly h)
  | readTransaction => exact .inl (execReadTransaction_moves h)
  | answerSent => exact .inl (execAnswerSent_moves h)
  | transactionIgnored => cases h; exact .inl (.refl s)
  | consoleFrameTimeout => exact .inl (execConsoleFrameTimeout_moves h)
  | powerOnReset => exact .inl (execPowerOnReset_moves h)
  | pinReset => exact .inl (execPowerOnReset_moves h)
  | resetRelease => exact .inl (execResetRelease_moves h)
  | shelfScrub => exact .inl (execShelfScrub_moves h)
  | modelScrub => exact .inl (execModelScrub_moves h)
  | seatInputChange => exact .inl (execSeatInputChange_moves h)
  | debounceExpiry => exact .inl (execDebounceExpiry_moves h)
  | tripIndicatorChange => exact .inl (execTripIndicatorChange_moves h)
  | rearmPulseEnd => exact .inl (execRearmPulseEnd_moves h)
  | bayFrame => exact .inl (execBayFrame_moves h)
  | bayStale => exact .inl (execBayStale_moves h)
  | feedFrame => exact .inl (execFeedFrame_moves h)
  | feedStale => exact .inl (execFeedStale_moves h)
  | recoveryExpiry => exact .inl (execRecoveryExpiry_moves h)
  | attentionPulseEnd => exact .inl (execAttentionPulseEnd_moves h)
  | engineTake => exact .inl (execEngineTake_moves h)
  | derateEvaluation => exact .inl (execDerateEvaluation_moves h)
  | linkTurn => exact .inl (execLinkTurn_moves h)
  | identReply => exact .inl (execIdentReply_moves h)
  | readyReply => exact .inl (execReadyReply_moves h)
  | levelReply => exact .inl (execLevelReply_moves h)
  | releasedReply => exact .inl (execReleasedReply_moves h)
  | waitReply => exact .inl (execWaitReply_moves h)
  | faultReply => exact .inl (execFaultReply_moves h)
  | exchangeTimeout => exact .inl (execExchangeTimeout_moves h)
  | rediscoveryTimer => exact .inl (execRediscoveryTimer_moves h)
  | holdDurationExpiry => exact .inl (execHoldDurationExpiry_moves h)
  | tripWindowClose => exact .inl (execTripWindowClose_moves h)
  | settleExpiry => exact .inl (execSettleExpiry_moves h)
  | latchObserveExpiry => exact .inl (execLatchObserveExpiry_moves h)
  | restartWindowClose => exact .inl (execRestartWindowClose_moves h)
  | passageWrite => exact .inl (execPassageWrite_moves h)
  | stepClose => exact .inl (execStepClose_moves h)

/-- A property of the tables and settings that every move keeps is kept by every step. -/
theorem step_keeps {P : State → Prop} (hm : ∀ {s t}, State.Move s t → P s → P t)
    (hl : ∀ {s t : State}, s.LinksOnly t → P s → P t) (h : step s = .next t) (hs : P s) : P t := by
  have moves {u v : State} (k : u.Moves v) (hu : P u) : P v := by
    induction k with
    | refl => exact hu
    | tail _ k ih => exact hm k ih
  have run {c : Instr} {u : State} (k : exec c u = .next t) (hu : P u) : P t :=
    (exec_moves k).elim (fun k => moves k hu) (fun k => hl k hu)
  have kept {u : State} (k : u.ledger = s.ledger) : P u := hm (.kept (.of_ledger k)) hs
  unfold step at h
  split at h
  · exact run h (kept rfl)
  · obtain rfl | ⟨-, k⟩ | ⟨-, -, c, -, k⟩ := idle_cases h
    · exact kept (s.passTo_ledger _)
    · exact kept (State.ledger_of_shell (State.ownWork_shell k))
    · exact run k hs

end Sys2Proof.Machine
end

section
/-! What every step keeps: the generations and the feed settings, the integrity codes, the lifecycle and the
reference counts; and the reset state, in which they hold. -/

namespace Sys2Proof.Machine

variable {s t : State}

/-- A property of the tables and settings, which does not read the links, is kept by a change of the links. -/
theorem State.LinksOnly.keeps {P : State → Prop} (h : s.LinksOnly t)
    (hP : ∀ a b r o, P s → P { s with execLink := a, consoleLink := b, rx := r, spiOut := o })
    (hs : P s) : P t := by
  rw [h.frame]
  exact hP _ _ _ _ hs

/-- Settles O5: every move keeps the generations, and every move keeps the settings. -/
theorem generationsAndSettingsStayInRange : Obligations.GenerationsAndSettingsStayInRange := by
  intro s s' h
  exact ⟨step_keeps State.Move.generationsInRange (fun k => k.keeps fun _ _ _ _ => id) h,
    step_keeps State.Move.feedSettingsInRange (fun k => k.keeps fun _ _ _ _ => id) h⟩

/-- Settles O6: every move that writes a record or a descriptor seals it. -/
theorem integrityCodesStayRight : Obligations.IntegrityCodesStayRight := by
  intro s s' hs h
  exact step_keeps State.Move.codesMatch (fun k => k.keeps fun _ _ _ _ => id) h hs

/-- The order of the start queue is kept beside the lifecycle, which says what stands in it. -/
def State.OrderedLifecycle (s : State) : Prop := s.LifecycleHolds ∧ s.QueueOrdered

/-- The plans are kept beside the lifecycle and the reference counts. -/
def State.CountedPlans (s : State) : Prop := s.LifecycleHolds ∧ s.RefCountsAgree ∧ s.PlansHold

theorem State.Move.orderedLifecycle (h : s.Move t) (hs : s.OrderedLifecycle) : t.OrderedLifecycle :=
  ⟨h.lifecycleHolds hs.1, h.queueOrdered hs.1 hs.2⟩

theorem State.Move.countedPlans (h : s.Move t) (hs : s.CountedPlans) : t.CountedPlans := by
  obtain ⟨hl, hr, hp⟩ := hs
  exact ⟨h.lifecycleHolds hl, h.refCountsAgree hr, h.plansHold hl hr hp⟩

/-- Settles O7: every move keeps the lifecycle, and beside it the order, the serials and the results. -/
theorem lifecycleStays : Obligations.LifecycleStays := by
  intro s s' hs h
  refine ⟨?_, fun ho => ?_, ?_, ?_⟩
  · exact step_keeps State.Move.lifecycleHolds (fun k => k.keeps fun _ _ _ _ => id) h hs
  · exact (step_keeps State.Move.orderedLifecycle (fun k => k.keeps fun _ _ _ _ => id) h
      ⟨hs, ho⟩).2
  · exact step_keeps State.Move.serialsDistinct (fun k => k.keeps fun _ _ _ _ => id) h
  · exact step_keeps State.Move.resultsSorted (fun k => k.keeps fun _ _ _ _ => id) h

/-- Settles O10: every move keeps the counts, and beside them and the lifecycle the plans. -/
theorem referenceCountsStayRight : Obligations.ReferenceCountsStayRight := by
  intro s s' hs h
  refine ⟨?_, fun hl hp => ?_⟩
  · exact step_keeps State.Move.refCountsAgree (fun k => k.keeps fun _ _ _ _ => id) h hs
  · exact (step_keeps State.Move.countedPlans (fun k => k.keeps fun _ _ _ _ => id) h
      ⟨hl, hs, hp⟩).2.2

/-! ### The reset state -/

theorem Tab.get_fill {α : Type} {n : Nat} (x : α) (i : Fin n) : (Tab.fill n x).get i = x :=
  List.getElem_replicate _

theorem Tab.get_ofFn {α : Type} {n : Nat} (f : Fin n → α) (i : Fin n) : (Tab.ofFn f).get i = f i :=
  List.getElem_ofFn _

@[simp] theorem State.reset_slot (i : SlotIx) : State.reset.slot i = ⟨1, none⟩ := Tab.get_fill _ i

@[simp] theorem State.reset_record (i : SlotIx) : State.reset.record i = none :=
  congrArg ShelfSlot.record (State.reset_slot i)

@[simp] theorem State.reset_modelSlot (m : ModelIx) : State.reset.modelSlot m = ⟨1, none⟩ :=
  Tab.get_fill _ m

@[simp] theorem State.reset_model (m : ModelIx) : State.reset.model m = none :=
  congrArg ModelSlot.model (State.reset_modelSlot m)

@[simp] theorem State.reset_binding (b : BayIx) : (State.reset.bay b).binding = none := by
  unfold State.bay State.reset State.atRelease
  rw [Tab.get_ofFn]
  split <;> rfl

@[simp] theorem State.reset_engine (e : EngineIx) : State.reset.engine e = Engine.free :=
  Tab.get_fill _ e

@[simp] theorem State.reset_bank (b : BankIx) : State.reset.bank b = Bank.atRelease :=
  Tab.get_fill _ b

/-- R108: an engine in FREE is sound, whatever has been submitted. -/
theorem Engine.sound_free (p : Prop) : Engine.free.Sound p := by
  simp [Engine.Sound, Engine.free]

theorem State.reset_safe : State.reset.Safe := by
  refine ⟨?_, ?_, ?_, ?_, ?_, ?_, ?_⟩
  · simp [State.GenerationsInRange]
  · simp [State.CodesMatch]
  · exact ⟨List.nodup_nil, fun i => iff_of_false List.not_mem_nil (by simp), by simp⟩
  · simp [State.BindingsAgree]
  · exact ⟨List.nodup_nil, fun x hx => absurd hx List.not_mem_nil⟩
  · simp [State.RefCountsAgree]
  · exact (State.atRelease_blank _ _ _ _).settings

theorem State.reset_enginesSound : State.reset.EnginesSound := by
  refine ⟨fun e => ?_, ?_, ?_, List.nodup_nil, ?_, ?_⟩
  · rw [State.reset_engine]; exact Engine.sound_free _
  · exact fun w hw => absurd hw List.not_mem_nil
  · exact fun w hw => absurd hw List.not_mem_nil
  · exact fun v hv => by cases hv
  · exact fun i r hr => by rw [State.reset_record] at hr; cases hr

/-- Settles O11: the tables are empty, the engines FREE and the banks OFFLINE. -/
theorem resetIsSafe : Obligations.ResetIsSafe := by
  refine ⟨State.reset_safe, List.Pairwise.nil, ?_, ?_, ?_, ?_, rfl, ⟨.nil, .nil⟩,
    State.reset_enginesSound, ?_⟩
  · simp [State.SerialsDistinct]
  · simp [State.ResultsSorted]
  · simp [State.PlansHold]
  · simp [State.BanksSound, Bank.atRelease]
  · simp [State.BanksHeld, Bank.atRelease]

end Sys2Proof.Machine
end

section
/-! SUPPORT. A request that is served: what its answer and its refusal leave, and the bodies of AMEND. -/

namespace Sys2Proof.Machine

variable {s u : State} {l : Link} {q : Request}

/-! ### Serving and answering -/

/-- R188: the owner serves the pending request. -/
theorem State.serve_of_serving {code : ReqCode} (h : s.Serving l code q)
    (f : Request → State → State) : s.serve l code f = f q s := by
  obtain ⟨hheld, hreq, hcode, hwait⟩ := h
  simp [State.serve, hheld, hreq, hcode, hwait]

theorem State.Serving.request {code : ReqCode} (h : s.Serving l code q) :
    (s.link l).request = some q := h.2.1

theorem State.Serving.waiting {code : ReqCode} (h : s.Serving l code q) : q.waiting = none := h.2.2.2

theorem State.link_formAnswer_other (s : State) (l : Link) (tag : Byte) (c : Code)
    (body : List Byte) : (s.formAnswer l tag c body).link (otherLink l) = s.link (otherLink l) := by
  cases l <;> rfl

theorem State.link_formAnswer_same (s : State) (l : Link) (q : Request) (c : Code)
    (body : List Byte) : (s.formAnswer l q.tag c body).link l = s.answeredLink l q c body := by
  cases l <;> rfl

/-- The answer to a link depends on that link and on the tick alone. -/
theorem State.answeredLink_congr (hl : u.link l = s.link l) (hn : u.now = s.now) (q : Request)
    (c : Code) (body : List Byte) : u.answeredLink l q c body = s.answeredLink l q c body := by
  cases l
  · simp only [State.link] at hl
    simp [State.answeredLink, hl, hn]
  · simp only [State.link] at hl
    simp [State.answeredLink, hl, hn]

theorem State.answer_of_request (h : (s.link l).request = some q) (c : Code) (body : List Byte) :
    s.answer l c body = s.formAnswer l q.tag c body := by
  simp [State.answer, h]

theorem State.link_answer_same (h : (s.link l).request = some q) (c : Code) (body : List Byte) :
    (s.answer l c body).link l = s.answeredLink l q c body := by
  rw [State.answer_of_request h, State.link_formAnswer_same]

theorem State.link_answer_other (s : State) (l : Link) (c : Code) (body : List Byte) :
    (s.answer l c body).link (otherLink l) = s.link (otherLink l) := by
  unfold State.answer
  split
  · exact s.link_formAnswer_other ..
  · rfl

/-- An answer changes the links alone. -/
theorem State.answer_frame (s : State) (l : Link) (c : Code) (body : List Byte) :
    s.answer l c body = { s with execLink := (s.answer l c body).execLink,
                                 consoleLink := (s.answer l c body).consoleLink } := by
  unfold State.answer
  split
  · cases l <;> rfl
  · rfl

@[simp] theorem State.answer_store (s : State) (l : Link) (c : Code) (body : List Byte) :
    (s.answer l c body).store = s.store := by rw [s.answer_frame]

@[simp] theorem State.answer_models (s : State) (l : Link) (c : Code) (body : List Byte) :
    (s.answer l c body).models = s.models := by rw [s.answer_frame]

/-- The answer to a request, given in a state whose links and tick are those of `s`. -/
theorem State.answer_answers (hl : ∀ k, u.link k = s.link k) (hn : u.now = s.now)
    (h : (s.link l).request = some q) (c : Code) (body : List Byte) :
    s.Answers (u.answer l c body) l q c body := by
  refine ⟨?_, (u.link_answer_other ..).trans (hl _)⟩
  rw [State.link_answer_same (by rw [hl]; exact h), State.answeredLink_congr (hl l) hn]

/-- R49: a refusal changes the link that asked, and nothing else. -/
theorem State.refuse_refused (h : (s.link l).request = some q) (c : Code) :
    s.Refused (s.refuse l c) l q c :=
  ⟨State.answer_answers (fun _ => rfl) rfl h c [], s.answer_frame ..⟩

/-! ### Bodies of AMEND -/

/-- R202: the item of a value of AMEND. -/
def AmendValue.item : AmendValue → AmendItem
  | .priority _ => .priority
  | .guardLevel _ => .guardLevel
  | .note _ => .note
  | .model _ => .model
  | .addModule _ => .addModule
  | .dropModule _ => .dropModule
  | .present _ _ => .present

theorem readAmendValue_item {a : AmendItem} {bs rest : List Byte} {v : AmendValue}
    (h : readAmendValue a bs = some (v, rest)) : v.item = a := by
  cases a with
  | present =>
    simp only [readAmendValue] at h
    split at h
    · cases h
    · simp only [Option.map_eq_some_iff] at h
      obtain ⟨p, -, k⟩ := h
      cases k
      rfl
  | _ =>
    simp only [readAmendValue, Option.map_eq_some_iff] at h
    obtain ⟨p, -, k⟩ := h
    cases k
    rfl

/-- R201, R202: a body of AMEND that fits names the item of its value. -/
theorem readAmendBody_spec {body : List Byte} {h : Handle} {v : AmendValue}
    (hb : readAll readAmendBody body = some (h, v)) :
    amendItemOf body = some v.item ∧ ∃ bs, readAmendValue v.item bs = some (v, []) := by
  unfold readAll at hb
  split at hb
  next x hx =>
    cases hb
    simp only [readAmendBody, Option.bind_eq_bind, Option.bind_eq_some_iff] at hx
    obtain ⟨⟨h', bs1⟩, hh, ⟨n, bs2⟩, hn, a, ha, ⟨v', bs3⟩, hv, hx⟩ := hx
    cases hx
    have hi := readAmendValue_item hv
    match body, hh with
    | b1 :: b2 :: rest, hh =>
      simp only [readHandle, readU16, Option.map_some, Option.some.injEq, Prod.mk.injEq] at hh
      obtain ⟨-, rfl⟩ := hh
      match rest, hn with
      | b3 :: rest', hn =>
        simp only [readU8, Option.some.injEq, Prod.mk.injEq] at hn
        obtain ⟨rfl, rfl⟩ := hn
        dsimp only at ha hv
        exact ⟨by simp [amendItemOf, ha, hi], rest', by rw [hi]; exact hv⟩
  · cases hb

/-- R197: a note is a 16-bit number. -/
theorem readAmendBody_note {body : List Byte} {h : Handle} {n : Nat}
    (hb : readAll readAmendBody body = some (h, .note n)) : n < 65536 := by
  obtain ⟨-, bs, hv⟩ := readAmendBody_spec hb
  simp only [AmendValue.item, readAmendValue, Option.map_eq_some_iff] at hv
  obtain ⟨⟨m, rest⟩, hr, hm⟩ := hv
  cases hm
  match bs, hr with
  | a :: b :: rest', hr =>
    simp only [readU16, Option.some.injEq, Prod.mk.injEq] at hr
    obtain ⟨rfl, -⟩ := hr
    have ha := a.isLt
    have hb := b.isLt
    omega

end Sys2Proof.Machine
end

section
/-! SUPPORT. The checks of record and model handles: one equation for each outcome, and what a mismatch found by the
read leaves behind. -/

namespace Sys2Proof.Machine

variable {s u : State} {l : Link} {q : Request} {h : Handle} {tier : Nat} {skip : Bool}
  {needed : ShelfRecord → Nat}

/-! ### The checks of a record handle -/

/-- R16 checks 1 to 3: the handle names a slot of the shelf table. -/
structure State.InShelf (s : State) (h : Handle) : Prop where
  notNull : h ≠ Handle.null
  shelf : h.table = .shelf
  inRange : h.index.val < s.straps.table

theorem State.validate_null (hn : h = Handle.null) :
    s.validate h skip tier needed = (s, .fail .nullHandle) := if_pos hn

theorem State.validate_wrongTable (hn : h ≠ Handle.null) (ht : h.table = .model) :
    s.validate h skip tier needed = (s, .fail .wrongTable) := by
  simp [State.validate, hn, ht]

theorem State.validate_outOfRange (hn : h ≠ Handle.null) (ht : h.table = .shelf)
    (hr : s.straps.table ≤ h.index.val) :
    s.validate h skip tier needed = (s, .fail .outOfRange) := by
  simp [State.validate, hn, ht, hr]

/-- R16 checks 4 and 5 of a FREE slot. -/
theorem State.validate_free (hh : s.InShelf h) (hr : s.record h.index = none) :
    s.validate h skip tier needed =
      (s, .fail (if h.gen = (s.slot h.index).gen then .absent else .stale)) := by
  simp [State.validate, hh.notNull, hh.shelf, hh.inRange, hr]

/-- R16 checks 5 to 7 of a slot in use, with the record as the read leaves it. -/
theorem State.validate_inUse {r₀ r : ShelfRecord} (hh : s.InShelf h)
    (h₀ : s.record h.index = some r₀) (hr : (s.readRecord h.index).record h.index = some r) :
    s.validate h skip tier needed = (s.readRecord h.index,
      if h.gen ≠ (s.slot h.index).gen then .fail .stale
      else if skip = false ∧ r.state = .doubtful then .fail .doubtful
      else if needed r < tier then .fail .guarded else .pass (h.index, r)) := by
  simp only [State.validate, hh.notNull, hh.shelf, hh.inRange.not_ge, h₀, hr, if_false, ne_eq,
    not_true_eq_false]
  split
  · rfl
  simp only [Bool.and_eq_true, Bool.not_eq_true', decide_eq_true_eq]
  split
  · rfl
  split <;> rfl

theorem State.validate_stale {r₀ r : ShelfRecord} (hh : s.InShelf h)
    (h₀ : s.record h.index = some r₀) (hr : (s.readRecord h.index).record h.index = some r)
    (hg : h.gen ≠ (s.slot h.index).gen) :
    s.validate h skip tier needed = (s.readRecord h.index, .fail .stale) := by
  rw [State.validate_inUse hh h₀ hr, if_pos hg]

theorem State.validate_doubtful {r₀ r : ShelfRecord} (hh : s.InShelf h)
    (h₀ : s.record h.index = some r₀) (hr : (s.readRecord h.index).record h.index = some r)
    (hg : h.gen = (s.slot h.index).gen) (hd : skip = false ∧ r.state = .doubtful) :
    s.validate h skip tier needed = (s.readRecord h.index, .fail .doubtful) := by
  rw [State.validate_inUse hh h₀ hr, if_neg (by simpa using hg), if_pos hd]

theorem State.validate_guarded {r₀ r : ShelfRecord} (hh : s.InShelf h)
    (h₀ : s.record h.index = some r₀) (hr : (s.readRecord h.index).record h.index = some r)
    (hg : h.gen = (s.slot h.index).gen) (hd : ¬(skip = false ∧ r.state = .doubtful))
    (hn : needed r < tier) :
    s.validate h skip tier needed = (s.readRecord h.index, .fail .guarded) := by
  rw [State.validate_inUse hh h₀ hr, if_neg (by simpa using hg), if_neg hd, if_pos hn]

theorem State.validate_allowed {r₀ r : ShelfRecord} (hh : s.InShelf h)
    (h₀ : s.record h.index = some r₀) (hr : (s.readRecord h.index).record h.index = some r)
    (hg : h.gen = (s.slot h.index).gen) (hd : ¬(skip = false ∧ r.state = .doubtful))
    (hn : tier ≤ needed r) :
    s.validate h skip tier needed = (s.readRecord h.index, .pass (h.index, r)) := by
  rw [State.validate_inUse hh h₀ hr, if_neg (by simpa using hg), if_neg hd, if_neg hn.not_gt]

/-- R16: a handle that resolves stands in the shelf table. -/
theorem State.Resolves.inShelf {i : SlotIx} {r : ShelfRecord} (h₁ : s.Resolves h i r) :
    s.InShelf h ∧ h.index = i ∧ s.record h.index = some r ∧ s.readRecord h.index = s ∧
      h.gen = (s.slot h.index).gen := by
  obtain ⟨hn, rfl, hi, hr, hc⟩ := h₁
  exact ⟨⟨hn, rfl, hi⟩, rfl, hr, State.readRecord_of_intact hr hc, rfl⟩

/-- R16: a handle that resolves, asked at a tier that is allowed. -/
theorem State.Resolves.validate {i : SlotIx} {r : ShelfRecord} (h₁ : s.Resolves h i r)
    (hd : ¬(skip = false ∧ r.state = .doubtful)) (hn : tier ≤ needed r) :
    s.validate h skip tier needed = (s, .pass (i, r)) := by
  obtain ⟨hh, rfl, hr, hs, hg⟩ := h₁.inShelf
  rw [State.validate_allowed hh hr (by rw [hs]; exact hr) hg hd hn, hs]

/-! ### A record that the read finds to mismatch -/

/-- R191: the record that gains reasons is listed with them. -/
theorem attendList_mem (h : Handle) (r : Reasons) (l : List AttnEntry) :
    ∃ y ∈ attendList h r l, y.handle = h ∧ ∃ z : Reasons, y.reasons = z.union r := by
  unfold attendList
  split
  next ha =>
    obtain ⟨x, hx, hxh⟩ := List.any_eq_true.mp ha
    have hxh : x.handle = h := by simpa using hxh
    refine ⟨_, List.mem_map_of_mem hx, ?_⟩
    rw [if_pos hxh]
    exact ⟨hxh, x.reasons, rfl⟩
  · exact ⟨⟨h, r⟩, by simp, rfl, Reasons.none, by simp [Reasons.union, Reasons.none]⟩

/-- R191: a record that is not listed joins at the tail. -/
theorem attendList_of_absent {h : Handle} {l : List AttnEntry} (hl : ∀ y ∈ l, y.handle ≠ h)
    (r : Reasons) : attendList h r l = l ++ [⟨h, r⟩] := by
  have k : (l.any fun y => y.handle = h) = false := by simpa using hl
  simp [attendList, k]

/-! A LOOKUP that completes changes the links alone. -/

theorem State.completeLookup_frame (s : State) (l : Link) (i : SlotIx) :
    s.completeLookup l i = { s with execLink := (s.completeLookup l i).execLink,
                                    consoleLink := (s.completeLookup l i).consoleLink } := by
  unfold State.completeLookup
  split
  · split
    · exact s.answer_frame ..
    · rfl
  · rfl

theorem State.completeLookups_frame (s : State) (i : SlotIx) :
    s.completeLookups i = { s with execLink := (s.completeLookups i).execLink,
                                   consoleLink := (s.completeLookups i).consoleLink } := by
  unfold State.completeLookups
  rw [State.completeLookup_frame _ .console, State.completeLookup_frame s .executive]

@[simp] theorem State.completeLookups_store (s : State) (i : SlotIx) :
    (s.completeLookups i).store = s.store := by rw [s.completeLookups_frame]

@[simp] theorem State.completeLookups_bays (s : State) (i : SlotIx) :
    (s.completeLookups i).bays = s.bays := by rw [s.completeLookups_frame]

@[simp] theorem State.completeLookups_engines (s : State) (i : SlotIx) :
    (s.completeLookups i).engines = s.engines := by rw [s.completeLookups_frame]

@[simp] theorem State.completeLookups_arb (s : State) (i : SlotIx) :
    (s.completeLookups i).arb = s.arb := by rw [s.completeLookups_frame]

/-- R54: a LOOKUP that does not wait for the record stays as it is. -/
theorem State.completeLookup_of_not_waiting {i : SlotIx} (hw : s.lookupWaits l i = false) :
    s.completeLookup l i = s := by
  unfold State.completeLookup
  split
  · rw [hw]; rfl
  · rfl

theorem State.link_completeLookup_other (s : State) (l : Link) (i : SlotIx) :
    (s.completeLookup l i).link (otherLink l) = s.link (otherLink l) := by
  unfold State.completeLookup
  split
  · split
    · exact s.link_answer_other ..
    · rfl
  · rfl

theorem State.lookupWaits_congr {i : SlotIx} (hl : u.link l = s.link l)
    (hh : u.handleOf i = s.handleOf i) : u.lookupWaits l i = s.lookupWaits l i := by
  simp only [State.lookupWaits, hl, hh]

/-- R54: what completing the LOOKUPs of a record leaves of one link is what completing the one on that link
leaves. -/
theorem State.link_completeLookups (s : State) (l : Link) (i : SlotIx) :
    (s.completeLookups i).link l = (s.completeLookup l i).link l := by
  unfold State.completeLookups
  cases l with
  | executive => exact State.link_completeLookup_other _ .console i
  | console =>
    have hl := State.link_completeLookup_other s .executive i
    have hf := s.completeLookup_frame .executive i
    generalize s.completeLookup .executive i = v at hl hf
    have hr : v.record i = s.record i := by rw [hf]; rfl
    have hh : v.handleOf i = s.handleOf i := by rw [hf]; rfl
    have hn : v.now = s.now := by rw [hf]
    have hl : v.link .console = s.link .console := hl
    have hw := State.lookupWaits_congr hl hh
    unfold State.completeLookup
    rw [hr, hw]
    split
    next r _ =>
      split
      next hw =>
        cases hq : (s.link .console).request with
        | none => simp [State.lookupWaits, hq] at hw
        | some q =>
          rw [State.link_answer_same (hl.symm ▸ hq), State.link_answer_same hq,
            State.answeredLink_congr hl hn, State.lookupBody, State.lookupBody, hh]
      · exact hl
    · exact hl

/-- R54: a LOOKUP that waits for the record is answered from the record as it stands. -/
theorem State.link_completeLookups_waiting {i : SlotIx} {r : ShelfRecord} {w : Waiting}
    (hr : s.record i = some r) (hq : (s.link l).request = some q) (hw : q.waiting = some w)
    (hh : w.handle = s.handleOf i) :
    (s.completeLookups i).link l = s.answeredLink l q .ok (s.lookupBody i r none) := by
  have hl : s.lookupWaits l i = true := by simp [State.lookupWaits, hq, hw, hh]
  rw [State.link_completeLookups, State.completeLookup, hr]
  simp only [hl, if_true]
  exact State.link_answer_same hq ..

/-- R54: a link whose request does not wait keeps it. -/
theorem State.link_completeLookups_of_not_waiting {i : SlotIx} (hw : s.lookupWaits l i = false) :
    (s.completeLookups i).link l = s.link l := by
  rw [State.link_completeLookups, State.completeLookup_of_not_waiting hw]

/-! What the store makes of a record with a mismatch. -/

theorem State.clearBound_store (s : State) (h : Handle) : (s.clearBound h).store = s.store := by
  rw [(s.clearBound_spec h).1]

theorem State.clearBound_straps (s : State) (h : Handle) : (s.clearBound h).straps = s.straps := by
  rw [(s.clearBound_spec h).1]

theorem State.clearBound_now (s : State) (h : Handle) : (s.clearBound h).now = s.now := by
  rw [(s.clearBound_spec h).1]

/-- R24: the store side of a mismatch: the record is written, leaves the start queue and is listed. -/
theorem State.doubtStore_store (s : State) (i : SlotIx) (r : ShelfRecord) :
    (s.doubtStore i r).store = { s.store with
      slots := s.store.slots.put i ⟨(s.slot i).gen, some r.doubted.seal⟩
      queue := s.store.queue.filter (· ≠ i)
      attention := attendList (s.handleOf i) Reasons.onlyDoubt s.store.attention
      pulse := if s.straps.pulse && !s.store.attention.any (·.handle = s.handleOf i)
        then some s.now else s.store.pulse } := by
  have hh : (((s.writeRecord i r.doubted).leaveQueue i).clearBound (s.handleOf i)).handleOf i =
      s.handleOf i := by
    unfold State.handleOf State.slot
    rw [State.clearBound_store]
    exact s.writeRecord_handleOf i i r.doubted
  unfold State.doubtStore State.attend
  simp only [hh, State.clearBound_store, State.clearBound_straps, State.clearBound_now]
  rfl

/-- R24: everything but the store, the bays and what the engines and the links show stays at a mismatch. -/
structure State.DoubtFrame (s t : State) : Prop where
  pending : t.pending = s.pending
  now : t.now = s.now
  held : t.held = s.held
  straps : t.straps = s.straps
  models : t.models = s.models
  turn : t.arb.turn = s.arb.turn

theorem State.doubtStore_frame (s : State) (i : SlotIx) (r : ShelfRecord) :
    s.DoubtFrame (s.doubtStore i r) := by
  unfold State.doubtStore State.attend
  rw [(State.clearBound_spec _ _).1]
  exact ⟨rfl, rfl, rfl, rfl, rfl, rfl⟩

section
variable {i : SlotIx} {r : ShelfRecord}

/-- R24: after a mismatch the machine but for the links, the engines and their lists is what the store wrote. -/
theorem State.doubtRecord_store (hr : s.record i = some r) (hd : s.alreadyDoubtful i r = false) :
    (s.doubtRecord i).store = (s.doubtStore i r).store := by
  rw [State.doubtRecord_of_fresh hr hd, State.completeLookups_store,
    State.shell_store (State.stopDoubted_shell ..)]

theorem State.doubtRecord_bays (hr : s.record i = some r) (hd : s.alreadyDoubtful i r = false) :
    (s.doubtRecord i).bays = (s.doubtStore i r).bays := by
  rw [State.doubtRecord_of_fresh hr hd, State.completeLookups_bays,
    State.shell_bays (State.stopDoubted_shell ..)]

theorem State.doubtRecord_frame (hr : s.record i = some r) (hd : s.alreadyDoubtful i r = false) :
    s.DoubtFrame (s.doubtRecord i) := by
  have k := State.stopDoubted_shell (s.doubtStore i r) (s.handleOf i)
  have f := s.doubtStore_frame i r
  rw [State.doubtRecord_of_fresh hr hd, State.completeLookups_frame]
  exact ⟨(State.shell_pending k).trans f.pending, (State.shell_now k).trans f.now,
    (State.shell_held k).trans f.held, (State.shell_straps k).trans f.straps,
    (State.shell_models k).trans f.models, (State.shell_turn k).trans f.turn⟩

/-- R24: the record that a mismatch leaves is the one listed by `RecordDoubted`. -/
theorem State.doubtRecord_doubted (hr : s.record i = some r) (hd : s.alreadyDoubtful i r = false) :
    s.RecordDoubted (s.doubtRecord i) i r := by
  have hs := (State.doubtRecord_store hr hd).trans (s.doubtStore_store i r)
  refine ⟨r.doubted.seal, ?_, ShelfRecord.seal_intact _, rfl, fun j hj => ?_, ?_, ?_,
    (State.doubtRecord_frame hr hd).models⟩
  · rw [State.slot_doubtRecord hr hd, if_pos rfl]
  · rw [State.slot_doubtRecord hr hd, if_neg hj]
  · rw [hs]
  · rw [hs]
    obtain ⟨y, hy, hyh, z, hz⟩ := attendList_mem (s.handleOf i) Reasons.onlyDoubt s.store.attention
    exact ⟨y, hy, hyh, by simp [hz, Reasons.union, Reasons.onlyDoubt]⟩

/-- A link before the LOOKUPs complete at a mismatch is as it was. -/
theorem State.link_stopDoubted (s : State) (i : SlotIx) (r : ShelfRecord) (l : Link) :
    ((s.doubtStore i r).stopDoubted (s.handleOf i)).link l = s.link l := by
  have k := State.stopDoubted_shell (s.doubtStore i r) (s.handleOf i)
  have f : (s.doubtStore i r).execLink = s.execLink ∧
      (s.doubtStore i r).consoleLink = s.consoleLink := by
    unfold State.doubtStore State.attend
    rw [(State.clearBound_spec _ _).1]
    exact ⟨rfl, rfl⟩
  cases l
  · exact (State.shell_execLink k).trans f.1
  · exact (State.shell_consoleLink k).trans f.2

theorem State.slot_stopDoubted (s : State) (i j : SlotIx) (r : ShelfRecord) :
    ((s.doubtStore i r).stopDoubted (s.handleOf i)).slot j =
      if j = i then ⟨(s.slot i).gen, some r.doubted.seal⟩ else s.slot j := by
  unfold State.slot
  rw [State.shell_store (State.stopDoubted_shell ..), State.doubtStore_store]
  exact Tab.get_put ..

theorem State.handleOf_stopDoubted (s : State) (i : SlotIx) (r : ShelfRecord) :
    ((s.doubtStore i r).stopDoubted (s.handleOf i)).handleOf i = s.handleOf i := by
  have k := s.slot_stopDoubted i i r
  rw [if_pos rfl] at k
  have h := congrArg (fun x : ShelfSlot => Handle.mk .shelf i x.gen) k
  exact h

/-- R54: a link whose request does not wait for the record keeps it at a mismatch. -/
theorem State.link_doubtRecord_of_not_waiting (hr : s.record i = some r)
    (hd : s.alreadyDoubtful i r = false) (hw : s.lookupWaits l i = false) :
    (s.doubtRecord i).link l = s.link l := by
  have hl := s.link_stopDoubted i r l
  rw [State.doubtRecord_of_fresh hr hd, State.link_completeLookups_of_not_waiting, hl]
  rw [State.lookupWaits_congr hl (s.handleOf_stopDoubted i r), hw]

/-- R54: at a mismatch a LOOKUP that waits for the record is answered with it as DOUBTFUL. -/
theorem State.lookupsCompleted_doubtRecord (hr : s.record i = some r)
    (hd : s.alreadyDoubtful i r = false) :
    s.LookupsCompleted (s.doubtRecord i) (s.handleOf i) r.doubted.seal := by
  intro l q w hq hw hh
  have hl := s.link_stopDoubted i r l
  have hrec : ((s.doubtStore i r).stopDoubted (s.handleOf i)).record i = some r.doubted.seal := by
    unfold State.record; rw [State.slot_stopDoubted, if_pos rfl]
  have hn : ((s.doubtStore i r).stopDoubted (s.handleOf i)).now = s.now :=
    (State.shell_now (State.stopDoubted_shell ..)).trans (s.doubtStore_frame i r).now
  rw [(State.doubtRecord_frame hr hd).now, State.doubtRecord_of_fresh hr hd,
    State.link_completeLookups_waiting hrec (by rw [hl]; exact hq) hw
      (by rw [State.handleOf_stopDoubted]; exact hh),
    State.answeredLink_congr hl hn, State.lookupBody, State.handleOf_stopDoubted]
  rfl

end

/-- R24: a mismatch is new where the state does not read DOUBTFUL or the record stands in the start queue. -/
theorem State.not_alreadyDoubtful {i : SlotIx} {r : ShelfRecord}
    (h : r.state ≠ .doubtful ∨ i ∈ s.store.queue) : s.alreadyDoubtful i r = false := by
  obtain h | h := h <;> simp [State.alreadyDoubtful, h]

/-! ### The checks of a model handle -/

section
variable {m : ModelIx}

theorem Handle.modelIx_of_val (hm : m.val = h.index.val) : h.modelIx = some m := by
  have lt : h.index.val < Config.modelLimit := hm ▸ m.isLt
  rw [Handle.modelIx, dif_pos lt]
  exact congrArg some (Fin.ext hm.symm)

theorem Handle.not_null_of_model (ht : h.table = .model) : h ≠ Handle.null := by
  rintro rfl; cases ht

theorem State.validateModel_null (hn : h = Handle.null) :
    s.validateModel h skip tier = (s, .fail .nullHandle) := if_pos hn

theorem State.validateModel_wrongTable (hn : h ≠ Handle.null) (ht : h.table = .shelf) :
    s.validateModel h skip tier = (s, .fail .wrongTable) := by
  simp [State.validateModel, hn, ht]

theorem State.validateModel_outOfRange (ht : h.table = .model) (hr : 16 ≤ h.index.val) :
    s.validateModel h skip tier = (s, .fail .outOfRange) := by
  have lt : ¬h.index.val < Config.modelLimit := hr.not_gt
  simp [State.validateModel, Handle.not_null_of_model ht, ht, Handle.modelIx, lt]

theorem State.validateModel_empty (ht : h.table = .model) (hm : m.val = h.index.val)
    (hx : s.model m = none) : s.validateModel h skip tier =
      (s, .fail (if h.gen = (s.modelSlot m).gen then .absent else .stale)) := by
  simp [State.validateModel, Handle.not_null_of_model ht, ht, Handle.modelIx_of_val hm, hx]

/-- R36 checks 5 to 7 of a slot in use, with the descriptor as the read leaves it. -/
theorem State.validateModel_inUse {x₀ x : Model} (ht : h.table = .model) (hm : m.val = h.index.val)
    (h₀ : s.model m = some x₀) (hx : (s.readModel m).model m = some x) :
    s.validateModel h skip tier = (s.readModel m,
      if h.gen ≠ (s.modelSlot m).gen then .fail .stale
      else if skip = false ∧ x.state = .doubtful then .fail .doubtful
      else if 0 < tier then .fail .guarded else .pass (m, x)) := by
  simp only [State.validateModel, Handle.not_null_of_model ht, ht, Handle.modelIx_of_val hm, h₀, hx,
    if_false, ne_eq, not_true_eq_false]
  split
  · rfl
  simp only [Bool.and_eq_true, Bool.not_eq_true', decide_eq_true_eq]
  split
  · rfl
  split <;> rfl

theorem State.readModel_of_intact {x : Model} (hx : s.model m = some x) (hi : x.intact = true) :
    s.readModel m = s := by
  simp [State.readModel, hx, hi]

theorem State.readModel_of_damaged {x : Model} (hx : s.model m = some x) (hi : x.intact = false) :
    s.readModel m = s.doubtModel m := by
  simp [State.readModel, hx, hi]

end

/-! ### A model that the read finds to mismatch -/

/-- R46: a slot after its record, when it names the model with the handle and is QUEUED, is held for it. -/
def ShelfSlot.heldFor (h : Handle) (x : ShelfSlot) : ShelfSlot :=
  match x.record with
  | some r =>
    if r.model = h ∧ r.state = .queued then
      ⟨x.gen, some { r with state := .held, hold := some .modelDoubt : ShelfRecord }.seal⟩
    else x
  | none => x

theorem ShelfSlot.heldFor_queued {g : Nat} {r : ShelfRecord} (hr : r.model = h ∧ r.state = .queued) :
    (ShelfSlot.mk g (some r)).heldFor h =
      ⟨g, some { r with state := .held, hold := some .modelDoubt : ShelfRecord }.seal⟩ := if_pos hr

theorem ShelfSlot.heldFor_other {x : ShelfSlot}
    (hx : ∀ r, x.record = some r → r.model ≠ h ∨ r.state ≠ .queued) : x.heldFor h = x := by
  obtain ⟨g, _ | r⟩ := x
  · rfl
  · refine if_neg fun k => ?_
    obtain n | n := hx r rfl
    · exact n k.1
    · exact n k.2

@[simp] theorem ShelfSlot.heldFor_heldFor (x : ShelfSlot) : (x.heldFor h).heldFor h = x.heldFor h := by
  obtain ⟨g, _ | r⟩ := x
  · rfl
  · by_cases hr : r.model = h ∧ r.state = .queued
    · rw [ShelfSlot.heldFor_queued hr, ShelfSlot.heldFor_other]
      rintro q ⟨rfl⟩
      exact .inr (by simp)
    · rw [ShelfSlot.heldFor_other (x := ⟨g, some r⟩), ShelfSlot.heldFor_other]
      all_goals
        rintro q ⟨rfl⟩
        exact not_and_or.mp hr

section
variable {m : ModelIx}

theorem State.holdForModel_slot (m : ModelIx) (s : State) (i j : SlotIx) :
    (State.holdForModel m s i).slot j =
      if j = i then (s.slot j).heldFor (s.modelHandleOf m) else s.slot j := by
  cases hr : s.record i with
  | none =>
    have hh : State.holdForModel m s i = s := by simp [State.holdForModel, hr]
    rw [hh]
    split
    next h =>
      subst h
      rw [ShelfSlot.heldFor_other]
      intro r k
      have := hr.symm.trans k
      cases this
    · rfl
  | some r =>
    have hs : s.slot i = ⟨(s.slot i).gen, some r⟩ := congrArg (ShelfSlot.mk _) hr
    by_cases hq : r.model = s.modelHandleOf m ∧ r.state = .queued
    · have hh : State.holdForModel m s i = s.holdQueued i r .modelDoubt := by
        simp [State.holdForModel, State.queuedOn, hr, hq]
      rw [hh]
      refine (s.slot_writeRecord i j _).trans ?_
      split
      next h => subst h; rw [hs, ShelfSlot.heldFor_queued hq]
      · rfl
    · have hh : State.holdForModel m s i = s := by
        simp only [State.holdForModel, State.queuedOn, hr, Bool.and_eq_true, decide_eq_true_eq]
        exact if_neg hq
      rw [hh]
      split
      next h =>
        subst h
        rw [hs, ShelfSlot.heldFor_other]
        rintro q ⟨rfl⟩
        exact not_and_or.mp hq
      · rfl

theorem State.holdForModel_modelHandleOf (m : ModelIx) (s : State) (i : SlotIx) :
    (State.holdForModel m s i).modelHandleOf m = s.modelHandleOf m := by
  simp only [State.modelHandleOf, State.modelSlot, State.holdForModel_models]

theorem State.slot_foldl_holdForModel (l : List SlotIx) (s : State) (j : SlotIx) :
    (l.foldl (State.holdForModel m) s).slot j =
      if j ∈ l then (s.slot j).heldFor (s.modelHandleOf m) else s.slot j := by
  induction l generalizing s with
  | nil => simp
  | cons i l ih =>
    rw [List.foldl_cons, ih, State.holdForModel_slot, State.holdForModel_modelHandleOf]
    by_cases hj : j = i <;> by_cases hl : j ∈ l <;> simp [hj, hl]

/-- R46: a mismatch that is not already known: the descriptor is written and the QUEUED records are held. -/
theorem State.doubtModel_of_fresh {x : Model} (hx : s.model m = some x)
    (hd : s.modelAlreadyDoubtful m x = false) :
    s.doubtModel m = (List.finRange 32).foldl (State.holdForModel m)
      (s.writeModel m { x with state := .doubtful, refCount := s.namingCount m }) := by
  simp [State.doubtModel, hx, hd]

/-- R46: a mismatch that is already known changes nothing. -/
theorem State.doubtModel_of_known {x : Model} (hx : s.model m = some x)
    (hd : s.modelAlreadyDoubtful m x = true) : s.doubtModel m = s := by
  simp [State.doubtModel, hx, hd]

/-- R46: the slots after a mismatch that is not already known. -/
theorem State.slot_doubtModel {x : Model} (hx : s.model m = some x)
    (hd : s.modelAlreadyDoubtful m x = false) (j : SlotIx) :
    (s.doubtModel m).slot j = (s.slot j).heldFor (s.modelHandleOf m) := by
  rw [State.doubtModel_of_fresh hx hd, State.slot_foldl_holdForModel, if_pos (List.mem_finRange j),
    State.writeModel_modelHandleOf]
  rfl

/-- R46: the descriptors after a mismatch that is not already known. -/
theorem State.modelSlot_doubtModel {x : Model} (hx : s.model m = some x)
    (hd : s.modelAlreadyDoubtful m x = false) (n : ModelIx) :
    (s.doubtModel m).modelSlot n = if n = m then
      ⟨(s.modelSlot m).gen, some { x with state := .doubtful, refCount := s.namingCount m : Model }.seal⟩
      else s.modelSlot n := by
  unfold State.modelSlot
  rw [State.doubtModel_models hx hd]
  exact s.modelSlot_writeModel m n _

/-- The machine but for the record store and the descriptors. -/
def State.beside (s : State) : State :=
  { s with store := State.reset.store, models := State.reset.models }

theorem State.holdForModel_beside (m : ModelIx) (s : State) (i : SlotIx) :
    (State.holdForModel m s i).beside = s.beside := by
  unfold State.holdForModel
  split
  · split <;> rfl
  · rfl

/-- R46: a mismatch of a model changes the record store and the descriptor, and nothing else. -/
theorem State.doubtModel_beside (s : State) (m : ModelIx) : (s.doubtModel m).beside = s.beside := by
  unfold State.doubtModel
  split
  · rfl
  · split
    · rfl
    · rw [foldl_keeps State.beside _ (State.holdForModel_beside m)]
      rfl

theorem State.doubtModel_link (s : State) (m : ModelIx) (l : Link) :
    (s.doubtModel m).link l = s.link l := by
  cases l
  · have := congrArg State.execLink (s.doubtModel_beside m); exact this
  · have := congrArg State.consoleLink (s.doubtModel_beside m); exact this

theorem State.doubtModel_now (s : State) (m : ModelIx) : (s.doubtModel m).now = s.now := by
  have := congrArg State.now (s.doubtModel_beside m); exact this

/-- R46: the model and its records that a mismatch leaves are those listed by `ModelDoubted`. -/
theorem State.doubtModel_doubted {x : Model} (hx : s.model m = some x)
    (hd : s.modelAlreadyDoubtful m x = false) : s.ModelDoubted (s.doubtModel m) m x := by
  refine ⟨⟨{ x with state := .doubtful, refCount := s.namingCount m : Model }.seal, ?_,
    Model.seal_intact _, ?_⟩, fun n hn => ?_, fun i r hr => ⟨fun hm hq => ?_, fun hn => ?_⟩⟩
  · rw [State.modelSlot_doubtModel hx hd, if_pos rfl]
  · simp only [Model.seal]
  · rw [State.modelSlot_doubtModel hx hd, if_neg hn]
  · have hs : s.slot i = ⟨(s.slot i).gen, some r⟩ := congrArg (ShelfSlot.mk _) hr
    unfold State.record
    rw [State.slot_doubtModel hx hd, hs, ShelfSlot.heldFor_queued ⟨hm, hq⟩]
    exact ⟨rfl, rfl⟩
  · rw [State.slot_doubtModel hx hd, ShelfSlot.heldFor_other]
    intro q hq
    obtain rfl := Option.some.inj (hr.symm.trans hq)
    exact hn

end

end Sys2Proof.Machine
end

section
/-! The order of the checks of a handle, the tier of station and model requests, PROBE, and AMEND of the guard level and
of the note. -/

namespace Sys2Proof.Machine

variable {s : State} {l : Link} {q : Request} {h : Handle} {c : Instr}

/-! ### The commands that check a handle -/

/-- R21: the tier needed: the record's guard level, or any. -/
def tierNeeded (guard : Bool) : ShelfRecord → Nat := if guard then State.guardTier else State.anyTier

/-- R16: the command refuses the pending request with the outcome of the first check of the record handle that
fails; `doubt` and `guard` say that the checks of a DOUBTFUL record and of the guard level are among them. -/
structure State.ChecksRecord (s : State) (l : Link) (q : Request) (h : Handle) (c : Instr)
    (doubt guard : Bool) : Prop where
  request : (s.link l).request = some q
  waiting : q.waiting = none
  fails : ∀ {t o}, s.validate h (!doubt) q.tier (tierNeeded guard) = (t, .fail o) →
    exec c s = .next (t.refuse l o)

/-- R36: the same for a model handle, at tier 0. -/
structure State.ChecksModel (s : State) (l : Link) (q : Request) (h : Handle) (c : Instr)
    (doubt : Bool) : Prop where
  request : (s.link l).request = some q
  fails : ∀ {t o}, s.validateModel h (!doubt) q.tier = (t, .fail o) →
    exec c s = .next (t.refuse l o)

theorem State.checksRecord_of_handle {code : ReqCode} {doubt guard : Bool}
    (hm : (code, c, doubt, guard) ∈ [(ReqCode.start, Instr.start l, true, true),
      (.resume, .resume l, true, true), (.abort, .abort l, true, true),
      (.release, .release l, false, true), (.lookup, .lookup l, false, false)])
    (hs : s.Serving l code q) (hb : readAll readHandle q.body = some h) :
    s.ChecksRecord l q h c doubt guard := by
  refine ⟨hs.request, hs.waiting, fun {t o} hv => ?_⟩
  simp only [List.mem_cons, Prod.mk.injEq, List.not_mem_nil, or_false] at hm
  obtain ⟨rfl, rfl, rfl, rfl⟩ | ⟨rfl, rfl, rfl, rfl⟩ | ⟨rfl, rfl, rfl, rfl⟩ | ⟨rfl, rfl, rfl, rfl⟩ |
    ⟨rfl, rfl, rfl, rfl⟩ := hm
  · have hv : s.validate h false q.tier State.guardTier = (t, .fail o) := hv
    show execStart l s = _
    simp only [execStart, State.serve_of_serving hs, hb, hv]
  · have hv : s.validate h false q.tier State.guardTier = (t, .fail o) := hv
    show execResume l s = _
    simp only [execResume, State.serve_of_serving hs, hb, hv]
  · have hv : s.validate h false q.tier State.guardTier = (t, .fail o) := hv
    show execAbort l s = _
    simp only [execAbort, State.serve_of_serving hs, hb, hv]
  · have hv : s.validate h true q.tier State.guardTier = (t, .fail o) := hv
    show execRelease l s = _
    simp only [execRelease, State.serve_of_serving hs, hb, hv]
  · have hv : s.validate h true q.tier State.anyTier = (t, .fail o) := hv
    show execLookup l s = _
    simp only [execLookup, State.serve_of_serving hs, hb, hv]

/-- R58: the AMEND of the item that the body names, when a check of the handle fails. -/
theorem State.serveAmend_of_fail {item : AmendItem} {v : AmendValue} {t : State} {o : Code}
    (hs : s.Serving l .amend q) (hi : amendItemOf q.body = some item)
    (hb : readAll readAmendBody q.body = some (h, v))
    (hv : s.validate h false q.tier State.guardTier = (t, .fail o))
    (f : Request → AmendValue → State → SlotIx → ShelfRecord → State) :
    s.serveAmend l item f = t.refuse l o := by
  unfold State.serveAmend
  rw [State.serve_of_serving hs]
  simp only [hi, hb, hv, ne_eq, not_true_eq_false, and_false, if_false]

/-- R58: the AMEND of the item that the body names, when the checks of the handle pass. -/
theorem State.serveAmend_of_pass {item : AmendItem} {v : AmendValue} {t : State} {i : SlotIx}
    {r : ShelfRecord} (hs : s.Serving l .amend q) (hi : amendItemOf q.body = some item)
    (hb : readAll readAmendBody q.body = some (h, v))
    (hv : s.validate h false q.tier State.guardTier = (t, .pass (i, r)))
    (f : Request → AmendValue → State → SlotIx → ShelfRecord → State) :
    s.serveAmend l item f = f q v t i r := by
  unfold State.serveAmend
  rw [State.serve_of_serving hs]
  simp only [hi, hb, hv, ne_eq, not_true_eq_false, and_false, if_false]

theorem State.checksRecord_of_amend {item : AmendItem} {v : AmendValue}
    (hm : (item, c) ∈ [(AmendItem.priority, Instr.amendPriority l),
      (.guardLevel, .amendGuardLevel l), (.note, .amendNote l), (.model, .amendModelHandle l),
      (.addModule, .addModule l), (.dropModule, .dropModule l), (.present, .amendPresentFlag l)])
    (hs : s.Serving l .amend q) (hi : amendItemOf q.body = some item)
    (hb : readAll readAmendBody q.body = some (h, v)) : s.ChecksRecord l q h c true true := by
  refine ⟨hs.request, hs.waiting, fun {t o} hv => ?_⟩
  have hv : s.validate h false q.tier State.guardTier = (t, .fail o) := hv
  have key (f) : (Host.Outcome.next (s.serveAmend l item f) : Result) = .next (t.refuse l o) := by
    rw [State.serveAmend_of_fail hs hi hb hv]
  simp only [List.mem_cons, Prod.mk.injEq, List.not_mem_nil, or_false] at hm
  obtain ⟨rfl, rfl⟩ | ⟨rfl, rfl⟩ | ⟨rfl, rfl⟩ | ⟨rfl, rfl⟩ | ⟨rfl, rfl⟩ | ⟨rfl, rfl⟩ |
    ⟨rfl, rfl⟩ := hm <;> exact key _

theorem State.checksRecord_of_bind {n : Nat} (hs : s.Serving l .bind q) (hn : h ≠ Handle.null)
    (hb : readAll readBindBody q.body = some (h, n)) :
    s.ChecksRecord l q h (.bindBay l) true true := by
  refine ⟨hs.request, hs.waiting, fun {t o} hv => ?_⟩
  have hv : s.validate h false q.tier State.guardTier = (t, .fail o) := hv
  show execBind l s = _
  simp only [execBind, State.serve_of_serving hs, hb, hn, hv, if_false]

/-- R36: a model request whose body fits, when a check of the handle fails. -/
theorem State.serveModel_of_fail {α : Type} {code : ReqCode} {read : List Byte → Option α}
    {handle : α → Handle} {skip : Bool} {f : α → State → ModelIx → Model → State} {a : α}
    {t : State} {o : Code} (hs : s.Serving l code q) (hb : read q.body = some a)
    (hv : s.validateModel (handle a) skip q.tier = (t, .fail o)) :
    s.serveModel l code read handle skip f = t.refuse l o := by
  unfold State.serveModel
  rw [State.serve_of_serving hs]
  simp only [hb, hv]

theorem State.checksModel_of_handle {code : ReqCode} {doubt : Bool}
    (hm : (code, c, doubt) ∈ [(ReqCode.activate, Instr.activate l, true),
      (.revise, .revise l, true), (.discard, .discard l, false)])
    (hs : s.Serving l code q) (hb : readAll readHandle q.body = some h) :
    s.ChecksModel l q h c doubt := by
  refine ⟨hs.request, fun {t o} hv => ?_⟩
  have key (f) : (Host.Outcome.next (s.serveModel l code (readAll readHandle) id (!doubt) f) : Result)
      = .next (t.refuse l o) := by
    rw [State.serveModel_of_fail hs hb hv]
  simp only [List.mem_cons, Prod.mk.injEq, List.not_mem_nil, or_false] at hm
  obtain ⟨rfl, rfl, rfl⟩ | ⟨rfl, rfl, rfl⟩ | ⟨rfl, rfl, rfl⟩ := hm <;> exact key _

theorem State.checksModel_of_edit {item : EditItem} (hs : s.Serving l .editModel q)
    (hb : readAll readEditBody q.body = some (h, item)) :
    s.ChecksModel l q h (.editModel l) true := by
  refine ⟨hs.request, fun {t o} hv => ?_⟩
  have hv : s.validateModel h false q.tier = (t, .fail o) := hv
  exact congrArg Host.Outcome.next (State.serveModel_of_fail hs hb hv)

/-! ### The tier of station and model requests -/

theorem State.serveStation_guarded {code : ReqCode} {f : State → State} (hs : s.Serving l code q)
    (hb : q.body = []) (ht : 0 < q.tier) : s.serveStation l code f = s.refuse l .guarded := by
  unfold State.serveStation
  rw [State.serve_of_serving hs, if_neg (by simpa using hb), if_pos ht]

/-- R36: a model that resolves and is not DOUBTFUL is refused above tier 0. -/
theorem State.ChecksModel.guarded {m : ModelIx} {x : Model} {doubt : Bool}
    (hc : s.ChecksModel l q h c doubt) (hm : s.ResolvesModel h m x) (hd : x.state ≠ .doubtful)
    (ht : 0 < q.tier) : ∃ t, exec c s = .next t ∧ s.Refused t l q .guarded := by
  obtain ⟨rfl, hx, hi⟩ := hm
  have hr := State.readModel_of_intact hx hi
  have hv : s.validateModel (s.modelHandleOf m) (!doubt) q.tier = (s, .fail .guarded) := by
    rw [State.validateModel_inUse rfl rfl hx (by rw [hr]; exact hx), hr]
    simp [State.modelHandleOf, hd, ht]
  exact ⟨_, hc.fails hv, State.refuse_refused hc.request _⟩

/-- Settles O15: each service checks the tier once its body fits and its handle resolves. -/
theorem stationAndModelRequestsNeedTierZero : Obligations.StationAndModelRequestsNeedTierZero := by
  intro l s q ht
  refine ⟨fun code c hm hs hb => ?_, fun b g hs hb => ?_, fun lo hi hs hb => ?_,
    fun name rev hs hb => ?_, fun code c h m x hm hs hb hx hd => ?_, fun h item m x hs hb hx hd => ?_⟩
  · have key (f) : (Host.Outcome.next (s.serveStation l code f) : Result) =
        .next (s.refuse l .guarded) := by rw [State.serveStation_guarded hs hb ht]
    refine ⟨_, ?_, State.refuse_refused hs.request .guarded⟩
    simp only [List.mem_cons, Prod.mk.injEq, List.not_mem_nil, or_false] at hm
    obtain ⟨rfl, rfl⟩ | ⟨rfl, rfl⟩ | ⟨rfl, rfl⟩ := hm <;> exact key _
  · refine ⟨_, ?_, State.refuse_refused hs.request .guarded⟩
    show execSetBudget l s = _
    simp only [execSetBudget, State.serve_of_serving hs, hb, ht, if_true]
  · refine ⟨_, ?_, State.refuse_refused hs.request .guarded⟩
    show execSetFeedWindow l s = _
    simp only [execSetFeedWindow, State.serve_of_serving hs, hb, ht, if_true]
  · refine ⟨_, ?_, State.refuse_refused hs.request .guarded⟩
    show execCreateModel l s = _
    simp only [execCreateModel, State.serve_of_serving hs, hb, ht, if_true]
  · have hm' : ∃ doubt, (code, c, doubt) ∈ [(ReqCode.activate, Instr.activate l, true),
        (.revise, .revise l, true), (.discard, .discard l, false)] := by
      simp only [List.mem_cons, Prod.mk.injEq, List.not_mem_nil, or_false] at hm ⊢
      obtain ⟨rfl, rfl⟩ | ⟨rfl, rfl⟩ | ⟨rfl, rfl⟩ := hm <;> simp
    obtain ⟨doubt, hm'⟩ := hm'
    exact (State.checksModel_of_handle hm' hs hb).guarded hx hd ht
  · exact (State.checksModel_of_edit hs hb).guarded hx hd ht

/-! ### PROBE -/

/-- R18: a PROBE whose handle fails a check is answered with valid flag 0 and the code of the check. -/
theorem execProbe_of_fail {t : State} {o : Code} {sel : Selector} (hs : s.Serving l .probe q)
    (hb : readAll readProbeBody q.body = some (h, sel))
    (hv : s.validate h true q.tier State.anyTier = (t, .fail o)) :
    exec (.probe l) s = .next (t.answer l .ok [0x00#8, byteOf o.code]) := by
  show execProbe l s = _
  simp only [execProbe, State.serve_of_serving hs, hb, hv]
  rfl

/-- R56: a PROBE whose handle resolves is answered with the field. -/
theorem execProbe_of_pass {t : State} {i : SlotIx} {r : ShelfRecord} {sel : Selector}
    (hs : s.Serving l .probe q) (hb : readAll readProbeBody q.body = some (h, sel))
    (hv : s.validate h true q.tier State.anyTier = (t, .pass (i, r))) :
    exec (.probe l) s = .next (t.answer l .ok (0x01#8 :: sel.value r)) := by
  show execProbe l s = _
  simp only [execProbe, State.serve_of_serving hs, hb, hv]
  rfl

theorem Selector.value_lastOutcome (r : ShelfRecord) : Selector.lastOutcome.value r =
    optBytes (fun x => [byteOf x.outcome.code]) r.results.getLast? := by
  unfold Selector.value ShelfRecord.lastOutcome
  cases r.results.getLast? <;> rfl

/-- Settles O20: PROBE leaves out the checks of a DOUBTFUL record and of the guard level, and answers what the
others give. -/
theorem probeReportsAField : Obligations.ProbeReportsAField := by
  intro l s q h sel hs hb
  refine ⟨fun i r hr ht => ?_, fun hintact => ?_⟩
  · refine ⟨_, execProbe_of_pass hs hb (hr.validate (by simp) ht), ?_, s.answer_frame ..⟩
    have k := State.answer_answers (s := s) (fun _ => rfl) rfl hs.request .ok (0x01#8 :: sel.value r)
    cases sel with
    | lastOutcome => rw [Selector.value_lastOutcome] at k ⊢; exact k
    | _ => exact k
  · have reports (o : Code) (hv : s.validate h true q.tier State.anyTier = (s, .fail o)) :
        ∃ t, exec (.probe l) s = .next t ∧ s.Answers t l q .ok [0x00#8, byteOf o.code] ∧
          t = { s with execLink := t.execLink, consoleLink := t.consoleLink } :=
      ⟨_, execProbe_of_fail hs hb hv, State.answer_answers (fun _ => rfl) rfl hs.request _ _,
        s.answer_frame ..⟩
    refine ⟨fun hn => reports _ (State.validate_null hn),
      fun hn ht => reports _ (State.validate_wrongTable hn ht),
      fun hn ht hr => reports _ (State.validate_outOfRange hn ht hr), fun hn ht hr => ?_⟩
    have hh : s.InShelf h := ⟨hn, ht, hr⟩
    refine ⟨fun hf hg => reports _ ?_, fun hg => reports _ ?_⟩
    · rw [State.validate_free hh hf, if_pos hg]
    · cases hf : s.record h.index with
      | none => rw [State.validate_free hh hf, if_neg hg]
      | some r =>
        have hr := State.readRecord_of_intact hf (hintact r hf)
        rw [State.validate_stale hh hf (by rw [hr]; exact hf) hg, hr]

/-! ### AMEND of the guard level and of the note -/

/-- R58: an AMEND that writes one record and is answered leaves the rest as it is. -/
theorem State.amended_write {i : SlotIx} {r' : ShelfRecord} {a : AmendItem} {value : List Byte}
    (hq : (s.link l).request = some q) :
    let t := (s.writeRecord i r').amended l a value
    t.slot i = ⟨(s.slot i).gen, some r'.seal⟩ ∧ s.OtherSlotsKept t i ∧
      s.Answers t l q .ok (byteOf a.code :: value) ∧
      t = { s with store := { s.store with slots := t.store.slots }, execLink := t.execLink,
                   consoleLink := t.consoleLink } := by
  intro t
  have hst : t.store = (s.writeRecord i r').store := State.answer_store ..
  have hslot (j : SlotIx) : t.slot j = (s.writeRecord i r').slot j := by unfold State.slot; rw [hst]
  have hans := State.answer_answers (u := s.writeRecord i r') (fun k => by cases k <;> rfl) rfl hq
    .ok (byteOf a.code :: value)
  refine ⟨?_, fun j hj => ?_, hans, ?_⟩
  · rw [hslot, State.slot_writeRecord, if_pos rfl]
  · rw [hslot, State.slot_writeRecord, if_neg hj]
  · have k : t = _ := (s.writeRecord i r').answer_frame l .ok (byteOf a.code :: value)
    rw [hst]
    exact k

/-- R58: an AMEND of a record that resolves and is allowed comes to the item's own part. -/
theorem State.serveAmend_of_permitted {i : SlotIx} {r : ShelfRecord} {v : AmendValue}
    (hs : s.Serving l .amend q) (hp : s.Permitted q h i r)
    (hb : readAll readAmendBody q.body = some (h, v))
    (f : Request → AmendValue → State → SlotIx → ShelfRecord → State) :
    s.serveAmend l v.item f = f q v s i r := by
  obtain ⟨hr, hd, ht⟩ := hp
  exact State.serveAmend_of_pass hs (readAmendBody_spec hb).1 hb (hr.validate (by simp [hd]) ht) f

/-- Settles O24: each item writes its own field and seals the record. -/
theorem amendGuardLevelAndNote : Obligations.AmendGuardLevelAndNote := by
  intro l s q h i r hs hp
  refine ⟨fun g hb hg => ?_, fun g hb hg => ?_, fun n hb => ?_⟩
  · have he : exec (.amendGuardLevel l) s =
        .next ((s.writeRecord i { r with guardLevel := max g q.tier }).amended l .guardLevel
          [byteOf (max g q.tier)]) := by
      refine congrArg Host.Outcome.next ((State.serveAmend_of_permitted hs hp hb _).trans ?_)
      exact if_neg hg.not_gt
    obtain ⟨h1, h2, h3, h4⟩ := State.amended_write (s := s) (i := i) (a := .guardLevel)
      (r' := { r with guardLevel := max g q.tier }) (value := [byteOf (max g q.tier)]) hs.request
    exact ⟨_, _, he, h1, rfl, ShelfRecord.seal_intact _, h2, h3, h4⟩
  · have he : exec (.amendGuardLevel l) s = .next (s.refuse l .badField) := by
      refine congrArg Host.Outcome.next ((State.serveAmend_of_permitted hs hp hb _).trans ?_)
      exact if_pos hg
    exact ⟨_, he, State.refuse_refused hs.request _⟩
  · have he : exec (.amendNote l) s =
        .next ((s.writeRecord i { r with note := n }).amended l .note (be16 n)) :=
      congrArg Host.Outcome.next (State.serveAmend_of_permitted hs hp hb _)
    obtain ⟨h1, h2, h3, h4⟩ := State.amended_write (s := s) (i := i) (a := .note)
      (r' := { r with note := n }) (value := be16 n) hs.request
    exact ⟨_, _, he, h1, rfl, ShelfRecord.seal_intact _, readAmendBody_note hb, h2, h3, h4⟩

end Sys2Proof.Machine
end

section
/-! The order of the checks of record and model handles, over every request that runs them. -/

namespace Sys2Proof.Machine

variable {s t u : State} {l : Link} {q : Request} {h : Handle} {c : Instr} {doubt guard : Bool}

/-- What a mismatch left stays while the record store and the descriptors stay. -/
theorem State.ModelDoubted.of_tables {m : ModelIx} {x : Model} (hd : s.ModelDoubted t m x)
    (hs : u.store.slots = t.store.slots) (hm : u.models.slots = t.models.slots) :
    s.ModelDoubted u m x := by
  have hslot (j : SlotIx) : u.slot j = t.slot j := congrArg (·.get j) hs
  have hmodel (n : ModelIx) : u.modelSlot n = t.modelSlot n := congrArg (·.get n) hm
  simpa only [State.ModelDoubted, State.record, hslot, hmodel] using hd

/-! ### A record handle -/

/-- R16: a check that fails with nothing read amiss: the outcome is all that changes. -/
theorem State.ChecksRecord.refused {o : Code} (hc : s.ChecksRecord l q h c doubt guard)
    (hv : s.validate h (!doubt) q.tier (tierNeeded guard) = (s, .fail o)) :
    ∃ t, exec c s = .next t ∧ s.Refused t l q o :=
  ⟨_, hc.fails hv, State.refuse_refused hc.request o⟩

/-- R16: the checks of a handle that names a slot of the table whose record matches its code. -/
theorem State.ChecksRecord.refused_inShelf (hc : s.ChecksRecord l q h c doubt guard)
    (hh : s.InShelf h) (hintact : ∀ r, s.record h.index = some r → r.intact = true) :
    (s.record h.index = none → h.gen = (s.slot h.index).gen →
      ∃ t, exec c s = .next t ∧ s.Refused t l q .absent) ∧
    (h.gen ≠ (s.slot h.index).gen → ∃ t, exec c s = .next t ∧ s.Refused t l q .stale) ∧
    (∀ r, s.record h.index = some r → h.gen = (s.slot h.index).gen →
      (doubt = true → r.state = .doubtful →
        ∃ t, exec c s = .next t ∧ s.Refused t l q .doubtful) ∧
      (guard = true → doubt = false ∨ r.state ≠ .doubtful → r.guardLevel < q.tier →
        ∃ t, exec c s = .next t ∧ s.Refused t l q .guarded)) := by
  have read {r : ShelfRecord} (hr : s.record h.index = some r) : s.readRecord h.index = s :=
    State.readRecord_of_intact hr (hintact r hr)
  refine ⟨fun hf hg => hc.refused ?_, fun hg => hc.refused ?_, fun r hr hg => ⟨fun hd hst => hc.refused ?_,
    fun hgd hst hlt => hc.refused ?_⟩⟩
  · rw [State.validate_free hh hf, if_pos hg]
  · cases hf : s.record h.index with
    | none => rw [State.validate_free hh hf, if_neg hg]
    | some r => rw [State.validate_stale hh hf (by rw [read hf]; exact hf) hg, read hf]
  · rw [State.validate_doubtful hh hr (by rw [read hr]; exact hr) hg ⟨by simp [hd], hst⟩, read hr]
  · subst hgd
    have hlt : tierNeeded true r < q.tier := hlt
    have hn : ¬((!doubt) = false ∧ r.state = .doubtful) := by
      obtain hst | hst := hst <;> simp [hst]
    rw [State.validate_guarded hh hr (by rw [read hr]; exact hr) hg hn hlt, read hr]

/-- R24: what stands after the read has found a mismatch and the request has been answered. -/
theorem State.answer_doubtRecord {i : SlotIx} {r : ShelfRecord} (hr : s.record i = some r)
    (hd : s.alreadyDoubtful i r = false) (hq : (s.link l).request = some q)
    (hw : q.waiting = none) (o : Code) (body : List Byte) :
    let t := (s.doubtRecord i).answer l o body
    t.slot i = ⟨(s.slot i).gen, some r.doubted.seal⟩ ∧ s.OtherSlotsKept t i ∧
      t.store.queue = s.store.queue.filter (· ≠ i) ∧
      (∃ y ∈ t.store.attention, y.handle = s.handleOf i ∧ y.reasons.doubt = true) ∧
      t.models = s.models ∧ t.link l = s.answeredLink l q o body := by
  intro t
  have hst : t.store = (s.doubtRecord i).store := State.answer_store ..
  have hslot (j : SlotIx) : t.slot j = (s.doubtRecord i).slot j := by unfold State.slot; rw [hst]
  obtain ⟨r', -, -, -, hkept, hqueue, hatt, hmod⟩ := State.doubtRecord_doubted hr hd
  have hl : (s.doubtRecord i).link l = s.link l :=
    State.link_doubtRecord_of_not_waiting hr hd (by simp [State.lookupWaits, hq, hw])
  refine ⟨?_, fun j hj => (hslot j).trans (hkept j hj), by rw [hst]; exact hqueue,
    by rw [hst]; exact hatt, (State.answer_models ..).trans hmod, ?_⟩
  · rw [hslot, State.slot_doubtRecord hr hd, if_pos rfl]
  · rw [State.link_answer_same (by rw [hl]; exact hq),
      State.answeredLink_congr hl (State.doubtRecord_frame hr hd).now]

/-- R52: LOOKUP reports a record that its read has just found to mismatch. -/
theorem execLookup_of_doubted {i : SlotIx} {r : ShelfRecord} (hs : s.Serving l .lookup q)
    (hb : readAll readHandle q.body = some h) (hst : r.state = .doubtful)
    (hv : s.validate h true q.tier State.anyTier = (t, .pass (i, r))) :
    exec (.lookup l) s = .next (t.answer l .ok (t.lookupBody i r none)) := by
  show execLookup l s = _
  simp only [execLookup, State.serve_of_serving hs, hb, hv, hst]

/-! ### A model handle -/

/-- R36: a check that fails with nothing read amiss: the outcome is all that changes. -/
theorem State.ChecksModel.refused {o : Code} (hc : s.ChecksModel l q h c doubt)
    (hv : s.validateModel h (!doubt) q.tier = (s, .fail o)) :
    ∃ t, exec c s = .next t ∧ s.Refused t l q o :=
  ⟨_, hc.fails hv, State.refuse_refused hc.request o⟩

/-- R36: the checks of a handle that names a slot of the model table whose descriptor matches its code. -/
theorem State.ChecksModel.refused_inTable {m : ModelIx} (hc : s.ChecksModel l q h c doubt)
    (ht : h.table = .model) (hm : m.val = h.index.val)
    (hintact : ∀ x, s.model m = some x → x.intact = true) :
    (s.model m = none → h.gen = (s.modelSlot m).gen →
      ∃ t, exec c s = .next t ∧ s.Refused t l q .absent) ∧
    (h.gen ≠ (s.modelSlot m).gen → ∃ t, exec c s = .next t ∧ s.Refused t l q .stale) ∧
    (∀ x, s.model m = some x → h.gen = (s.modelSlot m).gen →
      (doubt = true → x.state = .doubtful →
        ∃ t, exec c s = .next t ∧ s.Refused t l q .doubtful) ∧
      (doubt = false ∨ x.state ≠ .doubtful → 0 < q.tier →
        ∃ t, exec c s = .next t ∧ s.Refused t l q .guarded)) := by
  have read {x : Model} (hx : s.model m = some x) : s.readModel m = s :=
    State.readModel_of_intact hx (hintact x hx)
  have inUse {x : Model} (hx : s.model m = some x) :=
    State.validateModel_inUse (skip := !doubt) (tier := q.tier) ht hm hx (by rw [read hx]; exact hx)
  refine ⟨fun hf hg => hc.refused ?_, fun hg => hc.refused ?_, fun x hx hg => ⟨fun hd hst => hc.refused ?_,
    fun hst hlt => hc.refused ?_⟩⟩
  · rw [State.validateModel_empty ht hm hf, if_pos hg]
  · cases hf : s.model m with
    | none => rw [State.validateModel_empty ht hm hf, if_neg hg]
    | some x => rw [inUse hf, if_pos hg, read hf]
  · rw [inUse hx, if_neg (by simpa using hg), if_pos ⟨by simp [hd], hst⟩, read hx]
  · have hn : ¬((!doubt) = false ∧ x.state = .doubtful) := by
      obtain hst | hst := hst <;> simp [hst]
    rw [inUse hx, if_neg (by simpa using hg), if_neg hn, if_pos hlt, read hx]

/-- R46: a refusal after the read has found a mismatch of the model. -/
theorem State.ChecksModel.refused_doubted {m : ModelIx} {x : Model} {o : Code}
    (hc : s.ChecksModel l q h c doubt) (hx : s.model m = some x)
    (hd : s.modelAlreadyDoubtful m x = false)
    (hv : s.validateModel h (!doubt) q.tier = (s.doubtModel m, .fail o)) :
    ∃ t, exec c s = .next t ∧ s.Answers t l q o [] ∧ s.ModelDoubted t m x :=
  ⟨_, hc.fails hv, State.answer_answers (s.doubtModel_link m) (s.doubtModel_now m) hc.request o [],
    (State.doubtModel_doubted hx hd).of_tables (by rw [State.refuse, State.answer_store])
      (by rw [State.refuse, State.answer_models])⟩

/-- R36, R46: the checks of a handle that names a descriptor with a mismatch. -/
theorem State.ChecksModel.refused_damaged {m : ModelIx} {x : Model}
    (hc : s.ChecksModel l q h c doubt) (ht : h.table = .model) (hm : m.val = h.index.val)
    (hx : s.model m = some x) (hi : x.intact = false) (hst : x.state ≠ .doubtful) :
    (h.gen ≠ (s.modelSlot m).gen →
      ∃ t, exec c s = .next t ∧ s.Answers t l q .stale [] ∧ s.ModelDoubted t m x) ∧
    (h.gen = (s.modelSlot m).gen →
      (doubt = true → ∃ t, exec c s = .next t ∧ s.Answers t l q .doubtful [] ∧ s.ModelDoubted t m x) ∧
      (doubt = false → 0 < q.tier →
        ∃ t, exec c s = .next t ∧ s.Answers t l q .guarded [] ∧ s.ModelDoubted t m x)) := by
  have hd : s.modelAlreadyDoubtful m x = false := by simp [State.modelAlreadyDoubtful, hst]
  have hread := State.readModel_of_damaged hx hi
  let y : Model := { x with state := .doubtful, refCount := s.namingCount m }
  have hy : (s.readModel m).model m = some y.seal := by
    rw [hread]
    exact congrArg ModelSlot.model ((State.modelSlot_doubtModel hx hd m).trans (if_pos rfl))
  have hyst : y.seal.state = .doubtful := Model.seal_state y
  have inUse := State.validateModel_inUse (skip := !doubt) (tier := q.tier) ht hm hx hy
  rw [hread] at inUse
  refine ⟨fun hg => hc.refused_doubted hx hd ?_, fun hg => ⟨fun hdt => hc.refused_doubted hx hd ?_,
    fun hdf hlt => hc.refused_doubted hx hd ?_⟩⟩
  · rw [inUse, if_pos hg]
  · rw [inUse, if_neg (by simpa using hg), if_pos ⟨by simp [hdt], hyst⟩]
  · rw [inUse, if_neg (by simpa using hg), if_neg (by simp [hdf]), if_pos hlt]

/-! ### Every request that runs the checks -/

/-- R24, R54: the handle of a record and the body of its LOOKUP, after a mismatch. -/
theorem State.lookupBody_doubtRecord {i : SlotIx} {r : ShelfRecord} (hr : s.record i = some r)
    (hd : s.alreadyDoubtful i r = false) :
    (s.doubtRecord i).lookupBody i r.doubted.seal none = (s.handleOf i).bytes ++ [0x01#8] ++
      r.doubted.seal.bytes ++ [r.doubted.seal.code] ++ [0x00#8] := by
  have hh : (s.doubtRecord i).handleOf i = s.handleOf i := by
    have k := s.slot_doubtRecord hr hd i
    rw [if_pos rfl] at k
    have h := congrArg (fun x : ShelfSlot => Handle.mk .shelf i x.gen) k
    exact h
  rw [State.lookupBody, hh]
  rfl

/-- Settles O14: the outcome of every request is that of the first check that fails, and a mismatch found by the
read stands whatever the outcome. -/
theorem handleChecksRunInOrder : Obligations.HandleChecksRunInOrder := by
  intro l s q h c refusedWith
  refine ⟨fun doubt guard hcmd hintact => ?_, ?_, fun doubt hcmd => ?_⟩
  · have hc : s.ChecksRecord l q h c doubt guard := by
      obtain ⟨code, hm, hs, hb⟩ | ⟨rfl, rfl, hs, item, v, hm, hi, hb⟩ | ⟨rfl, rfl, rfl, hs, hn, n, hb⟩ :=
        hcmd
      · exact State.checksRecord_of_handle hm hs hb
      · exact State.checksRecord_of_amend hm hs hi hb
      · exact State.checksRecord_of_bind hs hn hb
    exact ⟨fun hn => hc.refused (State.validate_null hn),
      fun hn ht => hc.refused (State.validate_wrongTable hn ht),
      fun hn ht hr => hc.refused (State.validate_outOfRange hn ht hr),
      fun hn ht hr => hc.refused_inShelf ⟨hn, ht, hr⟩ hintact⟩
  · intro doubt guard r hcmd hn ht hrg hr hi hst answered
    have hc : s.ChecksRecord l q h c doubt guard := by
      obtain ⟨code, hm, hs, hb⟩ | ⟨rfl, rfl, hs, item, v, hm, hi, hb⟩ | ⟨rfl, rfl, rfl, hs, n, hb⟩ :=
        hcmd
      · exact State.checksRecord_of_handle hm hs hb
      · exact State.checksRecord_of_amend hm hs hi hb
      · exact State.checksRecord_of_bind hs hn hb
    have hh : s.InShelf h := ⟨hn, ht, hrg⟩
    have hd : s.alreadyDoubtful h.index r = false := State.not_alreadyDoubtful (.inl hst)
    have hread := State.readRecord_of_damaged hr hi
    have hr' : (s.readRecord h.index).record h.index = some r.doubted.seal := by
      rw [hread]
      exact congrArg ShelfSlot.record ((State.slot_doubtRecord hr hd _).trans (if_pos rfl))
    have key (o : Code) (body : ShelfRecord → List Byte)
        (he : exec c s = .next ((s.doubtRecord h.index).answer l o (body r.doubted.seal))) :
        answered o body := by
      obtain ⟨hslot, hkept, hqueue, hatt, hmod, hlink⟩ := State.answer_doubtRecord hr hd hc.request
        hc.waiting o (body r.doubted.seal)
      exact ⟨_, _, he, hslot, rfl, ShelfRecord.seal_intact _, hkept, hqueue, hatt, hmod, hlink⟩
    have refused (o : Code) (hv : s.validate h (!doubt) q.tier (tierNeeded guard) =
        (s.readRecord h.index, .fail o)) : answered o fun _ => [] := by
      rw [hread] at hv
      exact key o _ (hc.fails hv)
    refine ⟨fun hg => refused _ (State.validate_stale hh hr hr' hg), fun hg =>
      ⟨fun hdt => refused _ (State.validate_doubtful hh hr hr' hg ⟨by simp [hdt], rfl⟩),
        fun hdf hgd hlt => refused _ ?_, fun hgd hle => key _ _ ?_⟩⟩
    · subst hgd
      exact State.validate_guarded hh hr hr' hg (by simp [hdf]) hlt
    · subst hgd
      obtain ⟨code, hm, hs, hb⟩ | ⟨-, hgd, -⟩ | ⟨-, hgd, -⟩ := hcmd
      · have hl : code = .lookup ∧ c = .lookup l ∧ doubt = false := by simpa using hm
        obtain ⟨rfl, rfl, rfl⟩ := hl
        have hv := State.validate_allowed (skip := true) (needed := State.anyTier) hh hr hr' hg
          (by simp) hle
        have hhandle : h = s.handleOf h.index := by
          obtain ⟨tb, ix, g⟩ := h
          exact congrArg₂ (fun x y => Handle.mk x ix y) ht hg
        rw [hread] at hv
        rw [execLookup_of_doubted hs hb rfl hv, State.lookupBody_doubtRecord hr hd, ← hhandle]
      · cases hgd
      · cases hgd
  · have hc : s.ChecksModel l q h c doubt := by
      obtain ⟨code, hm, hs, hb⟩ | ⟨rfl, rfl, hs, item, hb⟩ := hcmd
      · exact State.checksModel_of_handle hm hs hb
      · exact State.checksModel_of_edit hs hb
    refine ⟨?_, fun hn => hc.refused (State.validateModel_null hn),
      fun hn ht => hc.refused (State.validateModel_wrongTable hn ht),
      fun ht hr => hc.refused (State.validateModel_outOfRange ht hr),
      fun m ht hm hintact => hc.refused_inTable ht hm hintact⟩
    intro m x ht hm hx hi hst refused
    have unpack (o : Code) (k : ∃ t, exec c s = .next t ∧ s.Answers t l q o [] ∧
        s.ModelDoubted t m x) : refused o := by
      obtain ⟨t, he, ha, ⟨y, hy, hyi, hyx⟩, hother, hrec⟩ := k
      exact ⟨t, y, he, ha, hy, hyi, hyx, hother, fun i r hr hm hq => (hrec i r hr).1 hm hq,
        fun i r hr hn => (hrec i r hr).2 hn⟩
    obtain ⟨hstale, hsame⟩ := hc.refused_damaged ht hm hx hi hst
    exact ⟨fun hg => unpack _ (hstale hg), fun hg => ⟨fun hdt => unpack _ ((hsame hg).1 hdt),
      fun hdf hlt => unpack _ ((hsame hg).2 hdf hlt)⟩⟩

end Sys2Proof.Machine
end

section
/-! The scrubs of the record store and of the model table. -/

namespace Sys2Proof.Machine

variable {s t u : State}

/-! ### The tick of an event -/

/-- A state with the time base and the turn of the load link set. -/
def State.atTime (s : State) (k : Nat) (u : Option Turn) : State :=
  { s with now := k, arb := { s.arb with turn := u } }

/-- With no own work waiting, the tick passes and a turn of the load link ends with it. -/
theorem State.atTick_eq_atTime (h : s.ownWork = none) (n : Nat) :
    ∃ k u, s.atTick n = s.atTime k u ∧ k = max s.now n ∧ (n ≤ s.now → u = s.arb.turn) ∧
      (s.now < n → u = none) := by
  rw [State.atTick_of_ownWork h, State.passTo]
  split
  next hlt => exact ⟨n, none, rfl, by omega, fun hle => absurd hlt hle.not_gt, fun _ => rfl⟩
  next hle => exact ⟨s.now, s.arb.turn, rfl, by omega, fun _ => rfl, fun hlt => absurd hlt hle⟩

theorem State.live_of_released {f : State → State} (h : s.held = false) : s.live f = f s := by
  simp [State.live, h]

/-! ### The engine that holds a doubtful record -/

/-- R108: the engine that holds a record is the lowest-numbered that does. -/
theorem State.holder_eq_some {e : EngineIx} {h : Handle} (he : s.holds e h = true)
    (hf : ∀ f, f < e → s.holds f h = false) : s.holder h = some e := by
  unfold State.holder
  cases hx : (List.finRange 6).find? fun e => s.holds e h with
  | none => exact absurd he (List.find?_eq_none.mp hx e (List.mem_finRange e))
  | some f =>
    obtain ⟨hp, as, bs, hl, has⟩ := List.find?_eq_some_iff_append.mp hx
    have hsorted : (as ++ f :: bs).Pairwise (· < ·) := hl ▸ List.pairwise_lt_finRange 6
    have hmem : e ∈ as ++ f :: bs := hl ▸ List.mem_finRange e
    rcases List.mem_append.mp hmem with hm | hm
    · have := has e hm
      simp [he] at this
    rcases List.mem_cons.mp hm with hm | hm
    · rw [hm]
    · have hlt : f < e := (List.pairwise_cons.mp (List.pairwise_append.mp hsorted).2.1).1 e hm
      rw [hf f hlt] at hp
      cases hp

/-- R24: the store leaves the engines and the arbiter as they are before it tells the holder. -/
theorem State.doubtStore_machine (s : State) (i : SlotIx) (r : ShelfRecord) :
    (s.doubtStore i r).engines = s.engines ∧ (s.doubtStore i r).arb = s.arb ∧
      (s.doubtStore i r).feed = s.feed ∧ (s.doubtStore i r).now = s.now := by
  unfold State.doubtStore State.attend
  rw [(State.clearBound_spec _ _).1]
  exact ⟨rfl, rfl, rfl, rfl⟩

/-- R117: what an engine on a load step does with a stop cause reads and writes the engines and the arbiter. -/
theorem State.Unloads.of_machine {s' t' : State} {e : EngineIx} (h : s'.Unloads t' e)
    (hs : s'.engines = s.engines) (hr : s'.arb.roster = s.arb.roster) (ht : t'.engines = t.engines)
    (ha : t'.arb = t.arb) (hn : t'.now = t.now) : s.Unloads t e := by
  have hse (f : EngineIx) : s'.engine f = s.engine f := congrArg (·.get f) hs
  have hte (f : EngineIx) : t'.engine f = t.engine f := congrArg (·.get f) ht
  have hsb (b : BankIx) : s'.bank b = s.bank b := congrArg (·.get b) hr
  have htb (b : BankIx) : t'.bank b = t.bank b := congrArg (·.roster.get b) ha
  simpa only [State.Unloads, hse, hte, hsb, htb, hn, ha] using h

/-- R24, R117: an engine on a load step that holds the record takes DOUBT. -/
theorem State.doubtRecord_unloads {i : SlotIx} {r : ShelfRecord} {e : EngineIx} {c : WorkingCopy}
    (hr : s.record i = some r) (hd : s.alreadyDoubtful i r = false) (hl : s.OnLoad e c)
    (hc : c.handle = s.handleOf i) (hw : s.feed.waits = [])
    (hf : ∀ f, f < e → s.holds f (s.handleOf i) = false) :
    ((s.doubtRecord i).engine e).stop = some .doubt ∧ s.Unloads (s.doubtRecord i) e := by
  obtain ⟨heng, harb, hfeed, hnow⟩ := s.doubtStore_machine i r
  have hen (f : EngineIx) : (s.doubtStore i r).engine f = s.engine f := congrArg (·.get f) heng
  have hload : (s.doubtStore i r).OnLoad e c := by
    simpa only [State.OnLoad, hen] using hl
  have hholds (f : EngineIx) (h : Handle) : (s.doubtStore i r).holds f h = s.holds f h := by
    simp only [State.holds, hen]
  have hhold : s.holds e (s.handleOf i) = true := by
    obtain ⟨hcopy, hphase, -⟩ := hl
    simp only [State.holds, hcopy, Option.map_some, hc]
    rcases hphase with hp | hp <;> simp [hp]
  have hholder : (s.doubtStore i r).holder (s.handleOf i) = some e :=
    State.holder_eq_some (by rw [hholds]; exact hhold) fun f k => by rw [hholds]; exact hf f k
  have hstop : (s.doubtStore i r).stopDoubted (s.handleOf i) = (s.doubtStore i r).takeStop e .doubt := by
    unfold State.stopDoubted
    rw [hholder]
    exact State.stopEngine_onLoad _ _ c _ hload (by rw [hfeed]; exact hw)
  obtain ⟨hu, hst, -⟩ := State.takeStop_unloads _ e c .doubt hload
  have hdef := State.doubtRecord_of_fresh hr hd
  rw [hstop] at hdef
  have heng' : (s.doubtRecord i).engines = ((s.doubtStore i r).takeStop e .doubt).engines := by
    rw [hdef, State.completeLookups_engines]
  have harb' : (s.doubtRecord i).arb = ((s.doubtStore i r).takeStop e .doubt).arb := by
    rw [hdef, State.completeLookups_arb]
  have hnow' : (s.doubtRecord i).now = ((s.doubtStore i r).takeStop e .doubt).now := by
    rw [(State.doubtRecord_frame hr hd).now, State.shell_now (State.takeStop_shell ..), hnow]
  refine ⟨?_, hu.of_machine heng (by rw [harb]) heng'.symm harb'.symm hnow'.symm⟩
  exact (congrArg (fun x : Tab Engine 6 => (x.get e).stop) heng').trans hst

/-- R24: the bays after a mismatch. -/
theorem State.bay_doubtRecord {i : SlotIx} {r : ShelfRecord} (hr : s.record i = some r)
    (hd : s.alreadyDoubtful i r = false) (b : BayIx) :
    (s.doubtRecord i).bay b = if (s.bay b).binding = some (s.handleOf i)
      then { s.bay b with seatLost := false, rearm := none } else s.bay b := by
  unfold State.bay
  rw [State.doubtRecord_bays hr hd]
  exact ((s.writeRecord i r.doubted).leaveQueue i |>.clearBound_spec (s.handleOf i)).2 b

/-- R24: a record already DOUBTFUL reads so, stands in no queue and is held by no engine but one with a stop
cause or a verdict. -/
theorem State.alreadyDoubtful_of {i : SlotIx} {r : ShelfRecord} (hst : r.state = .doubtful)
    (hq : i ∉ s.store.queue) (he : ∀ e, s.holds e (s.handleOf i) = true →
      (s.engine e).stop ≠ none ∨ (s.engine e).verdict ≠ none) : s.alreadyDoubtful i r = true := by
  cases hh : s.holder (s.handleOf i) with
  | none => simp [State.alreadyDoubtful, hst, hq, hh]
  | some e =>
    have hholds : s.holds e (s.handleOf i) = true := by
      have k := List.find?_some (p := fun e => s.holds e (s.handleOf i)) hh
      exact k
    have k := he e hholds
    simp only [ne_eq, ← Option.isSome_iff_ne_none] at k
    simp [State.alreadyDoubtful, hst, hq, hh, k]

/-! ### The scrub of the record store -/

/-- R27: the cursor moves on and the timer restarts. -/
def State.shelfScrubbed (s : State) : State :=
  { s with store :=
    { s.store with cursor := nextSlot s.straps.table s.store.cursor, scrubFrom := s.now } }

/-- R27: the shelf scrub reads the slot at the cursor, at the tick of its timer. -/
theorem execShelfScrub_eq (hh : s.held = false) (ho : s.ownWork = none) :
    ∃ k u, exec .shelfScrub s =
        .next ((s.atTime k u).readRecord s.store.cursor).shelfScrubbed ∧
      k = max s.now (s.store.scrubFrom + 100) ∧
      (s.store.scrubFrom + 100 ≤ s.now → u = s.arb.turn) ∧
      (s.now < s.store.scrubFrom + 100 → u = none) := by
  obtain ⟨k, u, he, hk, hu, hn⟩ := State.atTick_eq_atTime ho (s.store.scrubFrom + 100)
  refine ⟨k, u, ?_, hk, hu, hn⟩
  show execShelfScrub s = _
  unfold execShelfScrub
  rw [State.live_of_released hh]
  have he : s.atTick (s.store.scrubFrom + Config.scrubMs) = s.atTime k u := he
  simp only [he]
  rfl

theorem nextSlot_val {n : Nat} (hn : n ≤ 32) (i : SlotIx) :
    (nextSlot n i).val = if i.val + 1 < n then i.val + 1 else 0 := by
  unfold nextSlot
  split
  · split <;> rfl
  · rw [if_neg (by omega)]
    rfl

/-- A read of a record leaves the tick, the straps, the turn and the place of the scrub. -/
theorem State.readRecord_rest (s : State) (i : SlotIx) :
    (s.readRecord i).now = s.now ∧ (s.readRecord i).straps = s.straps ∧
      (s.readRecord i).arb.turn = s.arb.turn ∧ (s.readRecord i).store.cursor = s.store.cursor := by
  cases hr : s.record i with
  | none => simp [State.readRecord, hr]
  | some r =>
    cases hi : r.intact with
    | true => simp [State.readRecord_of_intact hr hi]
    | false =>
      rw [State.readRecord_of_damaged hr hi]
      cases hd : s.alreadyDoubtful i r with
      | true => simp [State.doubtRecord_of_known hr hd]
      | false =>
        have f := State.doubtRecord_frame hr hd
        refine ⟨f.now, f.straps, f.turn, ?_⟩
        rw [State.doubtRecord_store hr hd, State.doubtStore_store]

/-- R27: a scrub that changes no record. -/
theorem shelfScrub_sound (s : State) (k : Nat) (u : Option Turn)
    (h : ∀ r, s.record s.store.cursor = some r → r.intact = true ∨
      (r.state = .doubtful ∧ s.store.cursor ∉ s.store.queue ∧
        ∀ e, s.holds e (s.handleOf s.store.cursor) = true →
          (s.engine e).stop ≠ none ∨ (s.engine e).verdict ≠ none)) :
    (s.atTime k u).readRecord s.store.cursor = s.atTime k u := by
  cases hr : s.record s.store.cursor with
  | none =>
    have hr : (s.atTime k u).record s.store.cursor = none := hr
    simp [State.readRecord, hr]
  | some r =>
    have hr' : (s.atTime k u).record s.store.cursor = some r := hr
    cases hi : r.intact with
    | true => exact State.readRecord_of_intact hr' hi
    | false =>
      obtain k | ⟨hst, hq, he⟩ := h r hr
      · rw [hi] at k; cases k
      · rw [State.readRecord_of_damaged hr' hi]
        exact State.doubtRecord_of_known hr' (State.alreadyDoubtful_of hst hq he)

/-- R54: completed LOOKUPs are judged by the links and by the tick reached. -/
theorem State.LookupsCompleted.of_links {s' : State} {h : Handle} {r : ShelfRecord}
    (hc : s'.LookupsCompleted t h r) (hs : ∀ l, s'.link l = s.link l)
    (hu : ∀ l, u.link l = t.link l) (hn : u.now = t.now) : s.LookupsCompleted u h r := by
  intro l q w hq hw hh
  rw [hu, hc l q w ((congrArg LinkState.request (hs l)).trans hq) hw hh, hn]
  have hl : ({ s' with now := t.now } : State).link l = ({ s with now := t.now } : State).link l := by
    cases l
    · exact hs .executive
    · exact hs .console
  exact State.answeredLink_congr hl rfl ..

/-! ### The scrub of the model table -/

/-- R45: the cursor moves on and the timer restarts. -/
def State.modelScrubbed (s : State) : State :=
  { s with models := { s.models with cursor := nextModel s.models.cursor, scrubFrom := s.now } }

/-- R45: the model scrub reads the slot at the cursor, at the tick of its timer. -/
theorem execModelScrub_eq (hh : s.held = false) (ho : s.ownWork = none) :
    ∃ k u, exec .modelScrub s =
        .next ((s.atTime k u).readModel s.models.cursor).modelScrubbed ∧
      k = max s.now (s.models.scrubFrom + 100) ∧
      (s.models.scrubFrom + 100 ≤ s.now → u = s.arb.turn) ∧
      (s.now < s.models.scrubFrom + 100 → u = none) := by
  obtain ⟨k, u, he, hk, hu, hn⟩ := State.atTick_eq_atTime ho (s.models.scrubFrom + 100)
  refine ⟨k, u, ?_, hk, hu, hn⟩
  show execModelScrub s = _
  unfold execModelScrub
  rw [State.live_of_released hh]
  have he : s.atTick (s.models.scrubFrom + Config.scrubMs) = s.atTime k u := he
  simp only [he]
  rfl

theorem State.queuedOn_iff {m : ModelIx} {i : SlotIx} : s.queuedOn m i = true ↔
    ∃ r, s.record i = some r ∧ r.model = s.modelHandleOf m ∧ r.state = .queued := by
  cases hr : s.record i <;> simp [State.queuedOn, hr]

/-- R46: a model already DOUBTFUL reads so and no QUEUED record names it. -/
theorem State.modelAlreadyDoubtful_iff {m : ModelIx} {x : Model} :
    s.modelAlreadyDoubtful m x = true ↔ x.state = .doubtful ∧
      ∀ i r, s.record i = some r → r.state = .queued → r.model ≠ s.modelHandleOf m := by
  simp only [State.modelAlreadyDoubtful, Bool.and_eq_true, decide_eq_true_eq, List.all_eq_true,
    Bool.not_eq_true', Bool.eq_false_iff, ne_eq, State.queuedOn_iff]
  constructor
  · rintro ⟨hx, h⟩
    exact ⟨hx, fun i r hr hq hm => h i (List.mem_finRange i) ⟨r, hr, hm, hq⟩⟩
  · rintro ⟨hx, h⟩
    exact ⟨hx, fun i _ ⟨r, hr, hm, hq⟩ => h i r hr hq hm⟩

/-- R85: holding the QUEUED records of a model puts none into the start queue. -/
theorem State.mem_queue_of_holdForModel {m : ModelIx} {i j : SlotIx}
    (hj : j ∈ (State.holdForModel m s i).store.queue) : j ∈ s.store.queue := by
  unfold State.holdForModel at hj
  split at hj
  · split at hj
    · exact (List.mem_filter.mp hj).1
    · exact hj
  · exact hj

theorem State.mem_queue_of_foldl_holdForModel {m : ModelIx} {j : SlotIx} (l : List SlotIx) :
    ∀ s : State, j ∈ (l.foldl (State.holdForModel m) s).store.queue → j ∈ s.store.queue := by
  induction l with
  | nil => exact fun _ => id
  | cons i l ih => exact fun s hj => State.mem_queue_of_holdForModel (ih _ hj)

/-- R85: a QUEUED record that names the model leaves the start queue. -/
theorem State.foldl_holdForModel_queue {m : ModelIx} {j : SlotIx} {r : ShelfRecord}
    (hq : r.state = .queued) (l : List SlotIx) :
    ∀ s : State, s.record j = some r → r.model = s.modelHandleOf m → j ∈ l →
      j ∉ (l.foldl (State.holdForModel m) s).store.queue := by
  induction l with
  | nil => exact fun s _ _ hj => absurd hj List.not_mem_nil
  | cons i l ih =>
    intro s hr hm hj
    rw [List.foldl_cons]
    by_cases hi : j = i
    · subst hi
      have hh : State.holdForModel m s j = s.holdQueued j r .modelDoubt := by
        simp only [State.holdForModel, hr, State.queuedOn_iff.mpr ⟨r, hr, hm, hq⟩, if_true]
      rw [hh]
      intro k
      have := (List.mem_filter.mp (State.mem_queue_of_foldl_holdForModel l _ k)).2
      simp at this
    · refine ih _ ?_ ?_ ((List.mem_cons.mp hj).resolve_left hi)
      · unfold State.record
        rw [State.holdForModel_slot, if_neg hi]
        exact hr
      · rw [State.holdForModel_modelHandleOf]
        exact hm

/-- R45: a scrub that changes no descriptor. -/
theorem modelScrub_sound (s : State) (k : Nat) (u : Option Turn)
    (h : ∀ x, s.model s.models.cursor = some x → x.intact = true ∨
      (x.state = .doubtful ∧ ∀ i r, s.record i = some r → r.state = .queued →
        r.model ≠ s.modelHandleOf s.models.cursor)) :
    (s.atTime k u).readModel s.models.cursor = s.atTime k u := by
  cases hx : s.model s.models.cursor with
  | none =>
    have hx : (s.atTime k u).model s.models.cursor = none := hx
    simp [State.readModel, hx]
  | some x =>
    have hx' : (s.atTime k u).model s.models.cursor = some x := hx
    cases hi : x.intact with
    | true => exact State.readModel_of_intact hx' hi
    | false =>
      obtain k | hd := h x hx
      · rw [hi] at k; cases k
      · rw [State.readModel_of_damaged hx' hi]
        exact State.doubtModel_of_known hx' (State.modelAlreadyDoubtful_iff.mpr hd)

/-- A read of a descriptor leaves the tick, the turn and the place of the scrub. -/
theorem State.readModel_rest (s : State) (m : ModelIx) :
    (s.readModel m).now = s.now ∧ (s.readModel m).arb.turn = s.arb.turn ∧
      (s.readModel m).models.cursor = s.models.cursor := by
  cases hx : s.model m with
  | none => simp [State.readModel, hx]
  | some x =>
    cases hi : x.intact with
    | true => simp [State.readModel_of_intact hx hi]
    | false =>
      rw [State.readModel_of_damaged hx hi]
      cases hd : s.modelAlreadyDoubtful m x with
      | true => simp [State.doubtModel_of_known hx hd]
      | false =>
        refine ⟨s.doubtModel_now m, ?_, ?_⟩
        · have k := congrArg (fun t : State => t.arb.turn) (s.doubtModel_beside m)
          exact k
        · rw [State.doubtModel_models hx hd]
          rfl

/-- Settles O43: a scrub reads the slot at its cursor by `readRecord` or `readModel`, at the tick of its timer, and
moves on. -/
theorem scrubsReadOneSlot : Obligations.ScrubsReadOneSlot := by
  intro s hh ht ho
  constructor
  · obtain ⟨k, u, he, hk, hu, hn⟩ := execShelfScrub_eq hh ho
    obtain ⟨hnow, hstraps, hturn, hcursor⟩ := (s.atTime k u).readRecord_rest s.store.cursor
    refine ⟨_, he, ⟨hnow.trans hk, fun hle => hturn.trans (hu hle), fun hlt => hturn.trans (hn hlt)⟩, rfl,
      ?_, fun hs => ?_, fun r hr hi hd => ?_⟩
    · show (nextSlot _ _).val = _
      rw [hstraps, hcursor]
      exact nextSlot_val ht _
    · rw [shelfScrub_sound s k u hs]
      rfl
    · have hr₀ : (s.atTime k u).record s.store.cursor = some r := hr
      have hd₀ : (s.atTime k u).alreadyDoubtful s.store.cursor r = false :=
        State.not_alreadyDoubtful hd
      have hslot := State.slot_doubtRecord hr₀ hd₀
      obtain ⟨-, -, -, -, hkept, hqueue, hatt, -⟩ := State.doubtRecord_doubted hr₀ hd₀
      have hbay := State.bay_doubtRecord hr₀ hd₀
      have hlook := State.lookupsCompleted_doubtRecord hr₀ hd₀
      rw [State.readRecord_of_damaged hr₀ hi]
      refine ⟨r.doubted.seal, (hslot _).trans (if_pos rfl), rfl, ShelfRecord.seal_intact _, hkept,
        hlook.of_links (fun l => by cases l <;> rfl) (fun l => by cases l <;> rfl) rfl, hqueue, hatt,
        fun b hb => (hbay b).trans (if_pos hb), fun b hb => (hbay b).trans (if_neg hb),
        fun e c hl hc hw hf => ?_⟩
      obtain ⟨hstop, hun⟩ := State.doubtRecord_unloads hr₀ hd₀ (e := e) (c := c) hl hc hw hf
      exact ⟨hstop, hun.of_machine rfl rfl rfl rfl rfl⟩
  · obtain ⟨k, u, he, hk, hu, hn⟩ := execModelScrub_eq hh ho
    obtain ⟨hnow, hturn, hcursor⟩ := (s.atTime k u).readModel_rest s.models.cursor
    refine ⟨_, he, ⟨hnow.trans hk, fun hle => hturn.trans (hu hle), fun hlt => hturn.trans (hn hlt)⟩,
      rfl, ?_, fun hs => ?_, fun x hx hi hd => ?_⟩
    · show (nextModel _).val = _
      rw [hcursor]
      exact Fin.val_add ..
    · rw [modelScrub_sound s k u hs]
      rfl
    · have hx₀ : (s.atTime k u).model s.models.cursor = some x := hx
      have hd₀ : (s.atTime k u).modelAlreadyDoubtful s.models.cursor x = false := by
        rw [Bool.eq_false_iff, ne_eq, State.modelAlreadyDoubtful_iff]
        rintro ⟨hst, hall⟩
        obtain hd | ⟨i, r, hr, hq, hm⟩ := hd
        · exact hd hst
        · exact hall i r hr hq hm
      have hslot := State.slot_doubtModel hx₀ hd₀
      have hmodel := State.modelSlot_doubtModel hx₀ hd₀
      have hqueue {i : SlotIx} {r : ShelfRecord} (hr : s.record i = some r)
          (hm : r.model = s.modelHandleOf s.models.cursor) (hq : r.state = .queued) :
          i ∉ ((s.atTime k u).doubtModel s.models.cursor).store.queue := by
        rw [State.doubtModel_of_fresh hx₀ hd₀]
        refine State.foldl_holdForModel_queue hq _ _ hr ?_ (List.mem_finRange i)
        rw [State.writeModel_modelHandleOf]
        exact hm
      rw [State.readModel_of_damaged hx₀ hi]
      refine ⟨⟨Model.seal { x with
          state := .doubtful, refCount := (s.atTime k u).namingCount s.models.cursor },
        (hmodel _).trans (if_pos rfl), by simp only [Model.seal]; rfl, Model.seal_intact _⟩,
        fun n hne => (hmodel n).trans (if_neg hne), fun i r hr hm hq => ⟨hqueue hr hm hq,
          { r with state := .held, hold := some .modelDoubt : ShelfRecord }.seal, ?_,
          ShelfRecord.seal_intact _, rfl⟩, fun i hn => ?_⟩
      · have hs : s.slot i = ⟨(s.slot i).gen, some r⟩ := congrArg (ShelfSlot.mk _) hr
        refine (hslot i).trans ?_
        have hs₀ : (s.atTime k u).slot i = ⟨(s.slot i).gen, some r⟩ := hs
        rw [hs₀]
        exact ShelfSlot.heldFor_queued ⟨hm, hq⟩
      · exact (hslot i).trans (ShelfSlot.heldFor_other hn)

end Sys2Proof.Machine
end

section
/-! SUPPORT. What a passage write and a close write: the record, the start queue, the attention list and the bay. -/

namespace Sys2Proof.Machine

variable {s : State} {e : EngineIx} {h : Handle} {i : SlotIx} {r : ShelfRecord}

/-! ### The record that an engine's message names -/

/-- R122: the record names the engine and is not DOUBTFUL. -/
theorem State.engagedRecord_eq_some (hh : h = s.handleOf i) (hr : s.record i = some r)
    (he : r.engaged = some e) (hd : r.state ≠ .doubtful) : s.engagedRecord e h = some r := by
  subst hh
  have hr : s.record (s.handleOf i).index = some r := hr
  unfold State.engagedRecord
  rw [hr]
  exact if_pos ⟨rfl, he, hd⟩

/-- R122: a record that names another engine, or is DOUBTFUL, is none that a message writes. -/
theorem State.engagedRecord_eq_none (hh : h = s.handleOf i) (hr : s.record i = some r)
    (hn : r.engaged ≠ some e ∨ r.state = .doubtful) : s.engagedRecord e h = none := by
  subst hh
  have hr : s.record (s.handleOf i).index = some r := hr
  unfold State.engagedRecord
  rw [hr]
  refine if_neg fun k => ?_
  obtain ⟨-, he, hd⟩ := k
  exact hn.elim (fun hn => hn he) hd

/-! ### What a close writes -/

/-- R87, R123: the record that a close leaves. -/
def ShelfRecord.closed (r : ShelfRecord) (x : ResultEntry) (w : CloseWrite) : ShelfRecord :=
  { r with results := putResult x r.results, cursor := w.cursor, retry := w.retry,
           state := w.state, hold := w.hold, engaged := none }

/-- R191, R192: the attention list and its pulse after a record gains reasons, none of them no gain. -/
def StoreAttends (s t : State) (h : Handle) (why : Reasons) : Prop :=
  (why = Reasons.none → t.store.attention = s.store.attention) ∧
    (why ≠ Reasons.none → t.store.attention = attendList h why s.store.attention ∧
      t.store.pulse = if s.straps.pulse && !s.store.attention.any (·.handle = h) then some s.now
        else s.store.pulse)

section
variable {x : ResultEntry} {w : CloseWrite}

/-- A close of a record writes the record store and the record's bay, and nothing else. -/
theorem State.writeClose_frame (s : State) (i : SlotIx) (r : ShelfRecord) (x : ResultEntry)
    (w : CloseWrite) : s.writeClose i r x w =
      { s with store := (s.writeClose i r x w).store, bays := (s.writeClose i r x w).bays } := by
  unfold State.writeClose State.attendClose State.requeueAfter State.clearRun
  cases r.bay <;> dsimp only <;> split <;> split <;> rfl

/-- The record store after the write of a close but before the queue and the list. -/
theorem State.clearRun_store (s : State) (b : Option BayIx) : (s.clearRun b).store = s.store := by
  cases b <;> rfl

theorem State.requeueAfter_slots (s : State) (i : SlotIx) (st : RecState) :
    (s.requeueAfter i st).store.slots = s.store.slots := by
  unfold State.requeueAfter; split <;> rfl

theorem State.attendClose_slots (s : State) (i : SlotIx) (o : StepOutcome) (st : RecState) :
    (s.attendClose i o st).store.slots = s.store.slots := by
  unfold State.attendClose; split <;> rfl

theorem State.attendClose_queue (s : State) (i : SlotIx) (o : StepOutcome) (st : RecState) :
    (s.attendClose i o st).store.queue = s.store.queue := by
  unfold State.attendClose; split <;> rfl

theorem State.writeClose_slots (s : State) (i : SlotIx) (r : ShelfRecord) (x : ResultEntry)
    (w : CloseWrite) :
    (s.writeClose i r x w).store.slots = (s.writeRecord i (r.closed x w)).store.slots := by
  unfold State.writeClose
  rw [State.attendClose_slots, State.requeueAfter_slots, State.clearRun_store]
  rfl

theorem State.slot_writeClose (s : State) (i j : SlotIx) (r : ShelfRecord) (x : ResultEntry)
    (w : CloseWrite) : (s.writeClose i r x w).slot j =
      if j = i then ⟨(s.slot i).gen, some (r.closed x w).seal⟩ else s.slot j := by
  rw [← State.slot_writeRecord]
  exact congrArg (·.get j) (s.writeClose_slots i r x w)

/-- R84: a record that a close queues stands in the start queue. -/
theorem State.mem_queue_writeClose (hq : w.state = .queued) :
    i ∈ (s.writeClose i r x w).store.queue := by
  unfold State.writeClose
  rw [State.attendClose_queue, State.requeueAfter, if_pos hq]
  exact (mem_insertRanked ..).mpr (.inl rfl)

/-- R76, R77: the record's bay after a close. -/
theorem State.bay_writeClose {b : BayIx} (hb : r.bay = some b) :
    ((s.writeClose i r x w).bay b).seatLost = false ∧
      ((s.writeClose i r x w).bay b).rearm = none := by
  have hbay : (s.writeClose i r x w).bays =
      s.bays.put b { s.bay b with seatLost := false, rearm := none } := by
    unfold State.writeClose State.attendClose State.requeueAfter State.clearRun
    rw [hb]
    dsimp only
    split <;> split <;> rfl
  unfold State.bay
  rw [hbay, Tab.get_put_same]
  exact ⟨rfl, rfl⟩

/-- R26, R191, R192: what a close adds to the attention list. -/
theorem State.writeClose_attends :
    StoreAttends s (s.writeClose i r x w) (s.handleOf i) (closeReasons x.outcome w.state) := by
  have hpre (u : State) (hu : u = ((s.writeRecord i (r.closed x w)).clearRun r.bay).requeueAfter i
      w.state) : u.handleOf i = s.handleOf i ∧ u.store.attention = s.store.attention ∧
      u.store.pulse = s.store.pulse ∧ u.straps = s.straps ∧ u.now = s.now := by
    subst hu
    have hs : (((s.writeRecord i (r.closed x w)).clearRun r.bay).requeueAfter i w.state).store.slots =
        (s.writeRecord i (r.closed x w)).store.slots := by
      rw [State.requeueAfter_slots, State.clearRun_store]
    refine ⟨?_, ?_⟩
    · rw [← s.writeRecord_handleOf i i (r.closed x w)]
      exact congrArg (fun y : Tab ShelfSlot 32 => Handle.mk .shelf i (y.get i).gen) hs
    · unfold State.requeueAfter State.clearRun
      cases r.bay <;> dsimp only <;> split <;> exact ⟨rfl, rfl, rfl, rfl⟩
  obtain ⟨hh, ha, hp, hst, hn⟩ := hpre _ rfl
  have hdef : s.writeClose i r x w = (((s.writeRecord i (r.closed x w)).clearRun r.bay).requeueAfter i
      w.state).attendClose i x.outcome w.state := rfl
  rw [hdef]
  generalize ((s.writeRecord i (r.closed x w)).clearRun r.bay).requeueAfter i w.state = u at *
  refine ⟨fun hw => ?_, fun hw => ?_⟩
  · rw [State.attendClose, if_pos hw, ha]
  · rw [State.attendClose, if_neg hw, ← hh, ← ha, ← hp, ← hst, ← hn]
    exact ⟨rfl, rfl⟩

end

/-! ### The outcome of a close -/

/-- What a close that would queue the record gives, by the seat and the model. -/
def State.Requeues (s : State) (b : BayIx) (x : Model) (w : CloseWrite) (cursor retry : Nat) : Prop :=
  ((s.bay b).seated = false →
    w.cursor = cursor ∧ w.retry = retry ∧ w.state = .held ∧ w.hold = some .unseated) ∧
  ((s.bay b).seated = true → x.state = .doubtful →
    w.cursor = cursor ∧ w.retry = retry ∧ w.state = .held ∧ w.hold = some .modelDoubt) ∧
  ((s.bay b).seated = true → x.state ≠ .doubtful →
    w.cursor = (if x.plan[cursor]? = some .restart then cursor - 1 else cursor) ∧
    w.retry = retry ∧ w.state = .queued ∧ w.hold = none)

/-- What a close that holds the record gives. -/
def ShelfRecord.Holds (r : ShelfRecord) (w : CloseWrite) (why : HoldReason) : Prop :=
  w.cursor = r.cursor ∧ w.retry = r.retry ∧ w.state = .held ∧ w.hold = some why

section
variable {m : ModelIx} {x : Model} {b : BayIx} {w : CloseWrite} {n : Nat} {late : Bool}

theorem State.modelOf_of_model (hm : r.model = s.modelHandleOf m) (hx : s.model m = some x) :
    s.modelOf r = some x := by
  simp [State.modelOf, hm, hx]

/-- R9: a record that the close queues stands on no RESTART step. -/
theorem State.queuedCursor_of_model (hm : r.model = s.modelHandleOf m) (hx : s.model m = some x)
    (c : Nat) : s.queuedCursor { r with cursor := c } =
      if x.plan[c]? = some .restart then c - 1 else c := by
  have k : s.modelOf { r with cursor := c } = some x := State.modelOf_of_model hm hx
  simp [State.queuedCursor, State.onRestart, k]

theorem State.requeueWrite_requeues (hm : r.model = s.modelHandleOf m) (hx : s.model m = some x)
    (hb : r.bay = some b) (c k : Nat) : s.Requeues b x (s.requeueWrite r c k) c k := by
  have hseat : s.seatUp r = (s.bay b).seated := by simp [State.seatUp, hb]
  unfold State.Requeues State.requeueWrite
  rw [hseat, State.modelOf_of_model hm hx, State.queuedCursor_of_model hm hx]
  refine ⟨fun hs => ?_, fun hs hd => ?_, fun hs hd => ?_⟩
  · simp [hs]
  · simp [hs, hd]
  · simp [hs, hd]

/-- R123: a PASS that closes the plan. -/
theorem State.closeWrite_pass_last (hl : s.planLength r ≤ n + 1) :
    s.closeWrite r n .pass late = some ⟨s.planLength r, 0, .passed, none⟩ := by
  simp [State.closeWrite, StepOutcome.class, hl.not_gt]

/-- R123: a PASS before the end of the plan, with an ABORT beside it or without. -/
theorem State.closeWrite_pass_more (hl : n + 1 < s.planLength r) :
    s.closeWrite r n .pass late =
      some (if late then ⟨n + 1, 0, .held, some .host⟩ else s.requeueWrite r (n + 1) 0) := by
  cases late <;> simp [State.closeWrite, StepOutcome.class, hl]

theorem State.closeWrite_of_fail {o : StepOutcome} (ho : o.class = .fail) :
    s.closeWrite r n o late = some ⟨r.cursor, r.retry, .failed, none⟩ := by
  simp [State.closeWrite, ho]

/-- R123: an attempt is charged, up to three. -/
theorem State.closeWrite_of_charged {o : StepOutcome} (ho : o.class = .charged) :
    s.closeWrite r n o late = some (if r.retry < 3 then s.requeueWrite r r.cursor (r.retry + 1)
      else ⟨r.cursor, r.retry, .held, some .retryLimit⟩) := by
  by_cases hr : r.retry < 3 <;> simp [State.closeWrite, ho, hr]

theorem State.closeWrite_of_uncharged {o : StepOutcome} (ho : o.class = .uncharged) :
    s.closeWrite r n o late = some (s.requeueWrite r r.cursor r.retry) := by
  simp [State.closeWrite, ho]

theorem State.closeWrite_of_holding {o : StepOutcome} {why : HoldReason}
    (ho : o.class = .holding why) :
    s.closeWrite r n o late = some ⟨r.cursor, r.retry, .held, some why⟩ := by
  simp [State.closeWrite, ho]

/-- R24: a DOUBT writes nothing. -/
theorem State.closeWrite_doubt : s.closeWrite r n .doubt late = none := by
  simp [State.closeWrite, StepOutcome.class]

/-- R123: every other outcome writes the record. -/
theorem State.closeWrite_isSome {o : StepOutcome} (ho : o ≠ .doubt) :
    ∃ w, s.closeWrite r n o late = some w := by
  cases hc : o.class with
  | pass =>
    have ho : o = .pass := by revert hc; cases o <;> simp [StepOutcome.class]
    subst ho
    obtain hl | hl := Nat.lt_or_ge (n + 1) (s.planLength r)
    · exact ⟨_, State.closeWrite_pass_more hl⟩
    · exact ⟨_, State.closeWrite_pass_last hl⟩
  | fail => exact ⟨_, State.closeWrite_of_fail hc⟩
  | charged => exact ⟨_, State.closeWrite_of_charged hc⟩
  | uncharged => exact ⟨_, State.closeWrite_of_uncharged hc⟩
  | holding => exact ⟨_, State.closeWrite_of_holding hc⟩
  | withdrawal => exact absurd (by revert hc; cases o <;> simp [StepOutcome.class]) ho

end

end Sys2Proof.Machine
end

section
/-! The messages of the engines: passage writes and closes. -/

namespace Sys2Proof.Machine

variable {s : State} {e : EngineIx} {h : Handle} {i : SlotIx} {r : ShelfRecord} {rest : List Message}

/-- The messages of an engine after the first has been taken. -/
def State.popped (s : State) (e : EngineIx) (rest : List Message) : State :=
  { s with outbox := s.outbox.put e rest }

theorem State.popMessage_eq {m : Message} (hm : s.outbox.get e = m :: rest) :
    s.popMessage e = s.popped e rest := by
  unfold State.popMessage State.popped
  rw [hm]
  rfl

theorem execPassageWrite_eq {n v : Nat} {cause : DetectCause} {att : Nat} (hh : s.held = false)
    (hm : s.outbox.get e = .passage h n v cause att :: rest) :
    exec (.passageWrite e) s = .next ((s.popped e rest).writePassage e h n v cause att) := by
  show execPassageWrite e s = _
  unfold execPassageWrite
  rw [State.live_of_released hh, ← State.popMessage_eq hm]
  simp only [hm, List.head?_cons]

theorem execStepClose_eq {n : Nat} {k : StepKind} {o : StepOutcome} {v : Option Nat}
    {cause : Option DetectCause} {att : Nat} {late : Bool} (hh : s.held = false)
    (hm : s.outbox.get e = .close h n k o v cause att late :: rest) :
    exec (.stepClose e) s =
      .next ((s.popped e rest).serveClose e h ⟨n, k, o, v, cause, att⟩ late) := by
  show execStepClose e s = _
  unfold execStepClose
  rw [State.live_of_released hh, ← State.popMessage_eq hm]
  simp only [hm, List.head?_cons]

/-! ### The record that a message finds -/

/-- R114: a passage write of an engine that the record still names. -/
theorem State.writePassage_of_engaged {n v : Nat} {cause : DetectCause} {att : Nat}
    (hh : h = s.handleOf i) (hr : s.record i = some r) (he : r.engaged = some e)
    (hd : r.state ≠ .doubtful) : s.writePassage e h n v cause att = s.writeRecord i { r with
      results := putResult ⟨n, .trip, .pass, some v, some cause, att⟩ r.results
      cursor := n + 1 } := by
  have hi : h.index = i := by rw [hh]; rfl
  simp only [State.writePassage, State.engagedRecord_eq_some hh hr he hd, hi]

/-- R122: a passage write of another engine, or of a DOUBTFUL record, writes nothing. -/
theorem State.writePassage_of_other {n v : Nat} {cause : DetectCause} {att : Nat}
    (hh : h = s.handleOf i) (hr : s.record i = some r)
    (hn : r.engaged ≠ some e ∨ r.state = .doubtful) : s.writePassage e h n v cause att = s := by
  simp only [State.writePassage, State.engagedRecord_eq_none hh hr hn]

section
variable {x : ResultEntry} {late : Bool}

/-- A close whose read leaves a record that it does not write. -/
theorem State.serveClose_of_none {t : State} (hh : h = s.handleOf i) (ht : s.readRecord i = t)
    (hn : t.engagedRecord e h = none) : s.serveClose e h x late = t := by
  have hi : h.index = i := by rw [hh]; rfl
  simp only [State.serveClose, hi, if_pos hh, ht, hn]

/-- R24: a close of a record that names the engine, with an outcome that writes nothing. -/
theorem State.serveClose_of_withdrawn (hh : h = s.handleOf i) (ht : s.readRecord i = s)
    (he : s.engagedRecord e h = some r) (hw : s.closeWrite r x.index x.outcome late = none) :
    s.serveClose e h x late = s := by
  have hi : h.index = i := by rw [hh]; rfl
  simp only [State.serveClose, hi, if_pos hh, ht, he, hw]

/-- R24, R122: a close of another engine, of a DOUBTFUL record or with outcome DOUBT writes nothing. -/
theorem State.serveClose_unwritten (hh : h = s.handleOf i) (hr : s.record i = some r)
    (ht : s.readRecord i = s)
    (hn : ¬(r.engaged = some e ∧ r.state ≠ .doubtful ∧ x.outcome ≠ .doubt)) :
    s.serveClose e h x late = s := by
  by_cases hx : r.engaged ≠ some e ∨ r.state = .doubtful
  · exact State.serveClose_of_none hh ht (State.engagedRecord_eq_none hh hr hx)
  · have ho : x.outcome = .doubt := by tauto
    refine State.serveClose_of_withdrawn hh ht
      (State.engagedRecord_eq_some hh hr (by tauto) (by tauto)) ?_
    rw [ho, State.closeWrite_doubt]

/-- R122: a close of a record that names the engine. -/
theorem State.serveClose_of_some {w : CloseWrite} (hh : h = s.handleOf i) (ht : s.readRecord i = s)
    (he : s.engagedRecord e h = some r) (hw : s.closeWrite r x.index x.outcome late = some w) :
    s.serveClose e h x late = (s.writeClose i r x w).completeLookups i := by
  have hi : h.index = i := by rw [hh]; rfl
  simp only [State.serveClose, hi, if_pos hh, ht, he, hw]

end

/-! ### A close that finds a mismatch -/

/-- R192: while a record is listed the attention line is active, in pulse mode as long as the pulse runs. -/
theorem State.attentionActive_of_listed (hh : s.held = false) {y : AttnEntry}
    (hy : y ∈ s.store.attention) :
    s.attentionActive = (!s.straps.pulse || s.store.pulse.isSome) := by
  have hne : s.store.attention.isEmpty = false := by
    rw [List.isEmpty_eq_false_iff]
    exact List.ne_nil_of_mem hy
  cases hp : s.straps.pulse <;> simp [State.attentionActive, hh, hp, hne]

/-- R24: a close that finds a mismatch already known changes nothing. -/
theorem serveClose_of_known {x : ResultEntry} {late : Bool} (hh : h = s.handleOf i)
    (hr : s.record i = some r) (hi : r.intact = false) (hd : s.alreadyDoubtful i r = true)
    (hst : r.state = .doubtful) : s.serveClose e h x late = s :=
  State.serveClose_of_none hh
    ((State.readRecord_of_damaged hr hi).trans (State.doubtRecord_of_known hr hd))
    (State.engagedRecord_eq_none hh hr (.inr hst))

/-- R24: a close that finds a new mismatch makes the record DOUBTFUL and writes no result. -/
theorem serveClose_of_fresh {x : ResultEntry} {late : Bool} (hh : h = s.handleOf i)
    (hr : s.record i = some r) (hi : r.intact = false) (hd : s.alreadyDoubtful i r = false) :
    s.serveClose e h x late = s.doubtRecord i := by
  have hslot := State.slot_doubtRecord hr hd i
  rw [if_pos rfl] at hslot
  refine State.serveClose_of_none hh (State.readRecord_of_damaged hr hi)
    (State.engagedRecord_eq_none (i := i) ?_ (congrArg ShelfSlot.record hslot) (.inr rfl))
  have k := congrArg (fun y : ShelfSlot => Handle.mk .shelf i y.gen) hslot
  exact hh.trans k.symm

/-- The list and the pulse after a record that was not listed has joined. -/
theorem attends_of_absent {t : State} {h : Handle} {why : Reasons} (ha : StoreAttends s t h why)
    (hw : why ≠ Reasons.none) (hn : ∀ y ∈ s.store.attention, y.handle ≠ h) :
    t.store.attention = s.store.attention ++ [⟨h, why⟩] ∧
      t.store.pulse = if s.straps.pulse then some s.now else s.store.pulse := by
  obtain ⟨hlist, hpulse⟩ := ha.2 hw
  have k : (s.store.attention.any fun y => y.handle = h) = false := by simpa using hn
  refine ⟨hlist.trans (attendList_of_absent hn why), ?_⟩
  rw [hpulse, k]
  simp

/-- R191, R192: what a mismatch adds to the attention list. -/
theorem State.doubtRecord_attends (hr : s.record i = some r) (hd : s.alreadyDoubtful i r = false) :
    StoreAttends s (s.doubtRecord i) (s.handleOf i) Reasons.onlyDoubt := by
  have hs := (State.doubtRecord_store hr hd).trans (s.doubtStore_store i r)
  refine ⟨fun k => absurd k (by simp [Reasons.onlyDoubt, Reasons.none]), fun _ => ?_⟩
  rw [hs]
  exact ⟨rfl, rfl⟩

/-! ### What a close writes -/

/-- R121: the outcomes that are verdicts. -/
theorem StepOutcome.isVerdict_eq {o : StepOutcome} (ho : o ≠ .doubt) :
    o.isVerdict = decide (o ∉ [StepOutcome.shed, .bankFault, .senseLost, .feedLost, .aborted,
      .unseated, .noCapacity, .outOfConditions]) := by
  cases o with
  | doubt => exact absurd rfl ho
  | _ => rfl

/-- R123: what a close gives, by its outcome: `w` is what `closeWrite` answers. -/
theorem State.closeWrite_outcome {m : ModelIx} {x : Model} {b : BayIx} {w : CloseWrite} {n : Nat}
    {o : StepOutcome} {late : Bool} (hm : r.model = s.modelHandleOf m) (hx : s.model m = some x)
    (hb : r.bay = some b) (hw : s.closeWrite r n o late = some w) :
    match o with
    | .pass =>
      (x.plan.length ≤ n + 1 → w.cursor = x.plan.length ∧ w.retry = 0 ∧ w.state = .passed ∧
        w.hold = none) ∧
      (n + 1 < x.plan.length → late = true → w.cursor = n + 1 ∧ w.retry = 0 ∧
        w.state = .held ∧ w.hold = some .host) ∧
      (n + 1 < x.plan.length → late = false → s.Requeues b x w (n + 1) 0)
    | .shed | .bankFault | .senseLost =>
      (r.retry < 3 → s.Requeues b x w r.cursor (r.retry + 1)) ∧ (3 ≤ r.retry → r.Holds w .retryLimit)
    | .feedLost => s.Requeues b x w r.cursor r.retry
    | .aborted => r.Holds w .host
    | .unseated => r.Holds w .unseated
    | .noCapacity => r.Holds w .noCapacity
    | .outOfConditions => r.Holds w .conditions
    | _ => w.cursor = r.cursor ∧ w.retry = r.retry ∧ w.state = .failed ∧ w.hold = none := by
  have requeues := State.requeueWrite_requeues hm hx hb
  have charged (ho : o.class = .charged) :
      (r.retry < 3 → s.Requeues b x w r.cursor (r.retry + 1)) ∧
        (3 ≤ r.retry → r.Holds w .retryLimit) := by
    obtain rfl := Option.some.inj ((State.closeWrite_of_charged ho).symm.trans hw)
    refine ⟨fun hlt => ?_, fun hle => ?_⟩
    · rw [if_pos hlt]; exact requeues _ _
    · rw [if_neg hle.not_gt]; exact ⟨rfl, rfl, rfl, rfl⟩
  have holds {why : HoldReason} (ho : o.class = .holding why) : r.Holds w why := by
    obtain rfl := Option.some.inj ((State.closeWrite_of_holding ho).symm.trans hw)
    exact ⟨rfl, rfl, rfl, rfl⟩
  have failed (ho : o.class = .fail) :
      w.cursor = r.cursor ∧ w.retry = r.retry ∧ w.state = .failed ∧ w.hold = none := by
    obtain rfl := Option.some.inj ((State.closeWrite_of_fail ho).symm.trans hw)
    exact ⟨rfl, rfl, rfl, rfl⟩
  have hp := State.planLength_of_model s hm hx
  cases o with
  | pass =>
    rw [← hp]
    refine ⟨fun hl => ?_, fun hl hlate => ?_, fun hl hlate => ?_⟩
    · obtain rfl := Option.some.inj ((State.closeWrite_pass_last hl).symm.trans hw)
      exact ⟨rfl, rfl, rfl, rfl⟩
    · obtain rfl := Option.some.inj ((State.closeWrite_pass_more hl).symm.trans hw)
      rw [hlate]
      exact ⟨rfl, rfl, rfl, rfl⟩
    · obtain rfl := Option.some.inj ((State.closeWrite_pass_more hl).symm.trans hw)
      rw [hlate]
      exact requeues _ _
  | shed => exact charged rfl
  | bankFault => exact charged rfl
  | senseLost => exact charged rfl
  | feedLost =>
    obtain rfl := Option.some.inj ((State.closeWrite_of_uncharged rfl).symm.trans hw)
    exact requeues _ _
  | aborted => exact holds rfl
  | unseated => exact holds rfl
  | noCapacity => exact holds rfl
  | outOfConditions => exact holds rfl
  | doubt => rw [State.closeWrite_doubt] at hw; cases hw
  | _ => exact failed rfl

/-- R26, R191, R192: what the record gains on the attention list, as its entry shows it. -/
theorem attends_listed {t : State} {h : Handle} {why : Reasons} (ha : StoreAttends s t h why)
    (hw : why ≠ Reasons.none) (hheld : t.held = false) (hst : t.straps = s.straps) :
    ((∀ y ∈ s.store.attention, y.handle ≠ h) →
      t.store.attention = s.store.attention ++ [⟨h, why⟩] ∧ t.attentionActive = true ∧
      t.store.pulse = (if s.straps.pulse then some s.now else s.store.pulse)) ∧
    ((∃ y ∈ s.store.attention, y.handle = h) → t.store.pulse = s.store.pulse) ∧
    ∃ y ∈ t.store.attention, y.handle = h ∧ (why.verdict = true → y.reasons.verdict = true) ∧
      (why.passed = true → y.reasons.passed = true) ∧
      (why.failed = true → y.reasons.failed = true) ∧
      (why.held = true → y.reasons.held = true) := by
  obtain ⟨hlist, hpulse⟩ := ha.2 hw
  obtain ⟨y, hy, hyh, z, hz⟩ := attendList_mem h why s.store.attention
  rw [← hlist] at hy
  refine ⟨fun hn => ?_, fun hl => ?_, y, hy, hyh, ?_⟩
  · obtain ⟨hl, hp⟩ := attends_of_absent ha hw hn
    refine ⟨hl, ?_, hp⟩
    rw [State.attentionActive_of_listed hheld hy, hp, hst]
    cases s.straps.pulse <;> rfl
  · have k : (s.store.attention.any fun y => y.handle = h) = true := by simpa using hl
    rw [hpulse, k]
    simp
  · rw [hz]
    simp +contextual [Reasons.union]

/-! ### What a close leaves -/

section
variable {x : ResultEntry} {w : CloseWrite}

/-- A close that writes the record changes the record store, the bays and the links, and nothing else. -/
structure State.CloseFrame (s t : State) : Prop where
  outbox : t.outbox = s.outbox
  models : t.models = s.models
  engines : t.engines = s.engines
  feed : t.feed = s.feed
  arb : t.arb = s.arb
  now : t.now = s.now
  held : t.held = s.held
  straps : t.straps = s.straps

theorem State.closed_frame (s : State) (i : SlotIx) (r : ShelfRecord) (x : ResultEntry)
    (w : CloseWrite) : s.CloseFrame ((s.writeClose i r x w).completeLookups i) := by
  rw [State.completeLookups_frame, State.writeClose_frame]
  exact ⟨rfl, rfl, rfl, rfl, rfl, rfl, rfl, rfl⟩

theorem State.slot_closed (s : State) (i j : SlotIx) (r : ShelfRecord) (x : ResultEntry)
    (w : CloseWrite) : ((s.writeClose i r x w).completeLookups i).slot j =
      if j = i then ⟨(s.slot i).gen, some (r.closed x w).seal⟩ else s.slot j := by
  rw [← State.slot_writeClose]
  unfold State.slot
  rw [State.completeLookups_store]

/-- R84: a record that a close queues stands in the start queue. -/
theorem State.mem_queue_closed (hq : w.state = .queued) :
    i ∈ ((s.writeClose i r x w).completeLookups i).store.queue := by
  rw [State.completeLookups_store]
  exact State.mem_queue_writeClose hq

/-- R76, R77: the record's bay after a close. -/
theorem State.bay_closed {b : BayIx} (hb : r.bay = some b) :
    (((s.writeClose i r x w).completeLookups i).bay b).seatLost = false ∧
      (((s.writeClose i r x w).completeLookups i).bay b).rearm = none := by
  unfold State.bay
  rw [State.completeLookups_bays]
  exact State.bay_writeClose hb

/-- R26, R191, R192: what a close adds to the attention list. -/
theorem State.closed_attends : StoreAttends s ((s.writeClose i r x w).completeLookups i)
    (s.handleOf i) (closeReasons x.outcome w.state) := by
  unfold StoreAttends
  rw [State.completeLookups_store]
  exact State.writeClose_attends

/-- R54: a LOOKUP that waits for the record is answered with it as the close left it. -/
theorem State.lookupsCompleted_closed (s : State) (i : SlotIx) (r : ShelfRecord) (x : ResultEntry)
    (w : CloseWrite) : s.LookupsCompleted ((s.writeClose i r x w).completeLookups i) (s.handleOf i)
      (r.closed x w).seal := by
  intro l q v hq hv hh
  have hslot := s.slot_writeClose i i r x w
  rw [if_pos rfl] at hslot
  have hhandle : (s.writeClose i r x w).handleOf i = s.handleOf i := by
    have k := congrArg (fun y : ShelfSlot => Handle.mk .shelf i y.gen) hslot
    exact k
  have hlink : (s.writeClose i r x w).link l = s.link l := by
    rw [State.writeClose_frame]; cases l <;> rfl
  have hnow : (s.writeClose i r x w).now = s.now := by rw [State.writeClose_frame]
  have hrec : (s.writeClose i r x w).record i = some (r.closed x w).seal :=
    congrArg ShelfSlot.record hslot
  rw [State.link_completeLookups_waiting hrec (by rw [hlink]; exact hq) hv (by rw [hhandle]; exact hh),
    State.answeredLink_congr hlink hnow, (s.closed_frame i r x w).now, State.lookupBody, hhandle]
  rfl

end

/-- Settles O60: a message writes the record that still names its engine, and a close reads the record first. -/
theorem engineMessagesWriteTheRecord : Obligations.EngineMessagesWriteTheRecord := by
  constructor
  · intro s e h i r rest n k o v cause att late hheld hh hr hi hm
    rw [execStepClose_eq hheld hm]
    have hr₀ : (s.popped e rest).record i = some r := hr
    have hh₀ : h = (s.popped e rest).handleOf i := hh
    refine ⟨fun hst hq hn => ?_, fun hd => ?_⟩
    · have hd : (s.popped e rest).alreadyDoubtful i r = true :=
        State.alreadyDoubtful_of hst hq fun f hf => by
          have hf : s.holds f (s.handleOf i) = true := hf
          rw [← hh, hn f] at hf
          cases hf
      rw [serveClose_of_known hh₀ hr₀ hi hd hst]
      rfl
    · have hd₀ : (s.popped e rest).alreadyDoubtful i r = false := State.not_alreadyDoubtful hd
      have hslot := State.slot_doubtRecord hr₀ hd₀
      have hframe := State.doubtRecord_frame hr₀ hd₀
      have hatt := State.doubtRecord_attends hr₀ hd₀
      obtain ⟨-, -, -, -, hkept, hqueue, ⟨y, hy, -⟩, hmod⟩ := State.doubtRecord_doubted hr₀ hd₀
      have hne : Reasons.onlyDoubt ≠ Reasons.none := by simp [Reasons.onlyDoubt, Reasons.none]
      rw [serveClose_of_fresh hh₀ hr₀ hi hd₀]
      refine ⟨_, r.doubted.seal, rfl, (hslot i).trans (if_pos rfl), rfl, ShelfRecord.seal_intact _,
        hkept, ?_, hmod, ?_, ?_, fun hn => ?_⟩
      · rw [hqueue]
        intro k
        have := (List.mem_filter.mp k).2
        simp at this
      · rw [hh]
        exact (State.lookupsCompleted_doubtRecord hr₀ hd₀).of_links (fun l => by cases l <;> rfl)
          (fun _ => rfl) rfl
      · rw [State.attentionActive_of_listed (hframe.held.trans hheld) hy, hframe.straps]
        rfl
      · rw [hh] at hn ⊢
        exact attends_of_absent hatt hne hn
  · intro s e h i r rest hheld hh hr hi hsorted listed
    have hr₀ : (s.popped e rest).record i = some r := hr
    have hh₀ : h = (s.popped e rest).handleOf i := hh
    have hread : (s.popped e rest).readRecord i = s.popped e rest :=
      State.readRecord_of_intact hr₀ hi
    refine ⟨fun n v cause att hm => ?_, fun n k o v cause att late hm => ?_⟩
    · rw [execPassageWrite_eq hheld hm]
      by_cases hn : r.engaged = some e ∧ r.state ≠ .doubtful
      · obtain ⟨he, hd⟩ := hn
        rw [State.writePassage_of_engaged hh₀ hr₀ he hd]
        have hslot := (s.popped e rest).slot_writeRecord i
        refine ⟨_, rfl, rfl, fun j hj => (hslot j _).trans (if_neg hj), rfl, fun hn => ?_, fun _ _ =>
          ⟨_, (hslot i _).trans (if_pos rfl), ⟨putResult_sorted _ hsorted, mem_putResult hsorted⟩,
            ShelfRecord.seal_intact _, rfl⟩⟩
        exact absurd hn (by simp [he, hd])
      · have hn : r.engaged ≠ some e ∨ r.state = .doubtful := by tauto
        rw [State.writePassage_of_other hh₀ hr₀ hn]
        exact ⟨_, rfl, rfl, fun _ _ => rfl, rfl, fun _ => rfl, fun he hd =>
          absurd hn (by simp [he, hd])⟩
    · rw [execStepClose_eq hheld hm]
      by_cases hn : r.engaged = some e ∧ r.state ≠ .doubtful ∧ o ≠ .doubt
      · obtain ⟨he, hd, ho⟩ := hn
        obtain ⟨w, hw⟩ := State.closeWrite_isSome (s := s.popped e rest) (r := r) (n := n)
          (late := late) ho
        rw [State.serveClose_of_some hh₀ hread (State.engagedRecord_eq_some hh₀ hr₀ he hd) hw]
        have hslot := (s.popped e rest).slot_closed i
        have hframe := (s.popped e rest).closed_frame i r ⟨n, k, o, v, cause, att⟩ w
        refine ⟨_, rfl, hframe.outbox, fun j hj => (hslot j ..).trans (if_neg hj), hframe.models,
          hframe.engines, hframe.feed, hframe.arb, fun hn => absurd hn (by simp [he, hd, ho]),
          fun m x b _ _ _ hm hx hb => ?_⟩
        have hout := State.closeWrite_outcome (s := s.popped e rest) hm hx hb hw
        have hbay := State.bay_closed (s := s.popped e rest) (i := i) (w := w)
          (x := ⟨n, k, o, v, cause, att⟩) hb
        have hlook := (s.popped e rest).lookupsCompleted_closed i r ⟨n, k, o, v, cause, att⟩ w
        have hatt := State.closed_attends (s := s.popped e rest) (i := i) (r := r)
          (x := ⟨n, k, o, v, cause, att⟩) (w := w)
        have hwhy : closeReasons o w.state = ⟨decide (o ∉ [StepOutcome.shed, .bankFault, .senseLost,
            .feedLost, .aborted, .unseated, .noCapacity, .outOfConditions]), w.state = .passed,
            w.state = .failed, w.state = .held, false⟩ := by
          rw [← StepOutcome.isVerdict_eq ho]; rfl
        refine ⟨(r.closed ⟨n, k, o, v, cause, att⟩ w).seal, (hslot i ..).trans (if_pos rfl),
          ⟨putResult_sorted _ hsorted, mem_putResult hsorted⟩, ShelfRecord.seal_intact _, rfl, rfl,
          ?_, ?_, ?_, ?_, ?_, ?_⟩
        · exact hbay.1
        · exact hbay.2
        · rw [hh]
          exact hlook.of_links (fun l => by cases l <;> rfl) (fun _ => rfl) rfl
        · exact fun hq => State.mem_queue_closed hq
        · intro why
          have hw : why = closeReasons o w.state := hwhy.symm
          clear_value why
          subst hw
          rw [hh]
          exact ⟨hatt.1, fun hne =>
            attends_listed hatt hne (hframe.held.trans hheld) hframe.straps⟩
        · cases o <;> exact hout
      · rw [State.serveClose_unwritten hh₀ hr₀ hread hn]
        exact ⟨_, rfl, rfl, fun _ _ => rfl, rfl, rfl, rfl, rfl, fun _ => rfl,
          fun _ _ _ he hd ho => absurd ⟨he, hd, ho⟩ hn⟩

end Sys2Proof.Machine
end

section
/-! The delivery of a request frame, and the request that a link keeps until it is answered. -/

namespace Sys2Proof.Machine

variable {s t u : State} {l : Link}

/-! ### A frame that passes its checks -/

/-- R200: a request frame. -/
abbrev requestBytes (k tier tag : Byte) (body : List Byte) : List Byte :=
  withCrc16 ([k, tier, tag, byteOf body.length] ++ body)

section
variable {k tier tag : Byte} {body : List Byte}

theorem requestBytes_length (k tier tag : Byte) (body : List Byte) :
    (requestBytes k tier tag body).length = body.length + 6 := by
  simp [requestBytes, withCrc16, be16]

theorem toNat_byteOf {n : Nat} (hn : n < 256) : (byteOf n).toNat = n := by
  simp [byteOf, Nat.mod_eq_of_lt hn]

theorem frameLengthOk_requestBytes (hb : body.length ≤ 120) :
    frameLengthOk (requestBytes k tier tag body) = true := by
  have h3 : (requestBytes k tier tag body)[3]? = some (byteOf body.length) := rfl
  have hn := toNat_byteOf (n := body.length) (by omega)
  unfold frameLengthOk
  simp only [h3, requestBytes_length, hn]
  simpa using hb

theorem frameCrcOk_withCrc16 (bs : List Byte) : frameCrcOk (withCrc16 bs) = true := by
  have h : (withCrc16 bs).take ((withCrc16 bs).length - 2) = bs := by
    simp [withCrc16, be16]
  simp [frameCrcOk, h]

theorem frameBody_requestBytes (k tier tag : Byte) (body : List Byte) :
    frameBody (requestBytes k tier tag body) = body := by
  unfold frameBody
  rw [requestBytes_length]
  show (body ++ be16 _).take (body.length + 6 - 6) = body
  simp

theorem checkFrame_requestBytes {c : ReqCode} (hk : ReqCode.ofByte k = some c)
    (hb : body.length ≤ 120) : checkFrame (requestBytes k tier tag body) = .ok c := by
  have h0 : (requestBytes k tier tag body)[0]? = some k := rfl
  simp [checkFrame, frameLengthOk_requestBytes hb, frameCrcOk_withCrc16, h0, hk]

/-- R188: a frame that passes its checks on a free link is delivered. -/
theorem State.frameComplete_requestBytes {c : ReqCode} (hf : s.linkFree l = true)
    (hk : ReqCode.ofByte k = some c) (hb : body.length ≤ 120) :
    s.frameComplete l (requestBytes k tier tag body) = s.setLink l { s.link l with
      request := some ⟨c, max (tier.toNat % 4) (linkFloor l), tag, body, none⟩ } := by
  have hd : s.deliver l c (requestBytes k tier tag body) = s.setLink l { s.link l with
      request := some ⟨c, max (tier.toNat % 4) (linkFloor l), tag, body, none⟩ } := by
    unfold State.deliver
    rw [frameBody_requestBytes]
    rfl
  rw [← hd]
  simp only [State.frameComplete, hf, if_true, checkFrame_requestBytes hk hb]

end

/-! ### The console receiver -/

/-- R190: the receiver has collected the bytes `acc` of a frame, the last of them at this tick. -/
def State.collecting (s : State) (acc : List Byte) : State := { s with rx := some ⟨acc, s.now⟩ }

/-- R190: the start byte begins a frame. -/
theorem State.consoleByte_start (hr : s.rx = none) : s.consoleByte 0x7E#8 = s.collecting [] := by
  simp [State.consoleByte, hr, State.collecting]

/-- R190: a byte that does not complete the length is collected. -/
theorem State.consoleByte_collects {acc : List Byte} {b : Byte}
    (hn : expectedLength (acc ++ [b]) ≠ some (acc ++ [b]).length) :
    (s.collecting acc).consoleByte b = s.collecting (acc ++ [b]) := by
  have hr : (s.collecting acc).rx = some ⟨acc, s.now⟩ := rfl
  simp only [State.consoleByte, hr]
  exact if_neg hn

/-- R190: the byte that completes the length ends the frame. -/
theorem State.consoleByte_completes {acc : List Byte} {b : Byte}
    (hn : expectedLength (acc ++ [b]) = some (acc ++ [b]).length) :
    (s.collecting acc).consoleByte b =
      State.frameComplete { s with rx := none } .console (acc ++ [b]) := by
  have hr : (s.collecting acc).rx = some ⟨acc, s.now⟩ := rfl
  simp only [State.consoleByte, hr]
  exact if_pos hn

/-- R190: bytes of which none completes the length are collected, one after the other. -/
theorem State.foldl_consoleByte_collects (s : State) (bs : List Byte) :
    ∀ acc, (∀ p, p ≠ [] → p <+: bs → expectedLength (acc ++ p) ≠ some (acc ++ p).length) →
      bs.foldl State.consoleByte (s.collecting acc) = s.collecting (acc ++ bs) := by
  induction bs with
  | nil => intro acc _; simp
  | cons b bs ih =>
    intro acc h
    rw [List.foldl_cons, State.consoleByte_collects (h [b] (by simp) (by simp)), List.append_cons acc b bs]
    refine ih (acc ++ [b]) fun p hp hpre => ?_
    rw [List.append_assoc]
    exact h ([b] ++ p) (by simp) (by simpa using hpre)

/-- R200: the length field of a frame is among its first four bytes. -/
theorem expectedLength_of_isPrefix {p bs : List Byte} {n : Nat} (hp : p <+: bs)
    (h : expectedLength p = some n) : expectedLength bs = some n := by
  obtain ⟨q, rfl⟩ := hp
  unfold expectedLength at h ⊢
  obtain ⟨b, hb, hn⟩ := Option.map_eq_some_iff.mp h
  obtain ⟨hlt, -⟩ := List.getElem?_eq_some_iff.mp hb
  rw [List.getElem?_append_left hlt, hb, Option.map_some, hn]

/-- R190: the bytes of one frame, and no byte more, reach the console receiver. -/
theorem State.foldl_consoleByte_frame (s : State) {bs : List Byte}
    (h : expectedLength bs = some bs.length) :
    bs.foldl State.consoleByte (s.collecting []) =
      State.frameComplete { s with rx := none } .console bs := by
  obtain rfl | ⟨pre, b, rfl⟩ := List.eq_nil_or_concat' bs
  · cases h
  · have collected := s.foldl_consoleByte_collects pre [] fun p _ hp hlen => by
      rw [List.nil_append] at hlen
      have k := expectedLength_of_isPrefix (hp.trans (List.prefix_append pre [b])) hlen
      have := h.symm.trans k
      simp only [List.length_append, List.length_singleton, Option.some.injEq] at this
      have := hp.length_le
      omega
    rw [List.nil_append] at collected
    rw [List.foldl_append, collected]
    exact State.consoleByte_completes h

/-! ### The request that a link keeps -/

theorem State.RequestsKept.of_links (he : t.execLink = s.execLink)
    (hc : t.consoleLink = s.consoleLink) : s.RequestsKept t := fun l => by
  cases l
  · exact .inr (by rw [State.link, State.link, he])
  · exact .inr (by rw [State.link, State.link, hc])

/-- The request links. -/
def State.links (s : State) : LinkState × LinkState := (s.execLink, s.consoleLink)

theorem State.RequestsKept.of_links_eq (h : t.links = s.links) : s.RequestsKept t :=
  .of_links (congrArg Prod.fst h) (congrArg Prod.snd h)

theorem State.adjustRef_links (s : State) (h : Handle) (f : Nat → Nat) :
    (s.adjustRef h f).links = s.links := by
  obtain k | ⟨m, x, -, -, k⟩ := s.adjustRef_cases h f <;> rw [k]
  rfl

theorem State.changeModel_links (s : State) (i : SlotIx) (r : ShelfRecord) (h : Handle) :
    (s.changeModel i r h).links = s.links := by
  unfold State.changeModel
  dsimp only
  split
  · rfl
  · rw [State.adjustRef_links, State.adjustRef_links]
    rfl

theorem softHold_links (s : State) (i : SlotIx) : (State.links (softHold s i)) = s.links := by
  unfold softHold
  split
  · split <;> rfl
  · rfl

theorem State.setQueue_links (s : State) (q : List SlotIx) : (s.setQueue q).links = s.links := rfl

theorem State.softHeld_links (s : State) : s.softHeld.links = s.links := by
  unfold State.softHeld
  rw [State.setQueue_links, foldl_keeps State.links _ softHold_links]

/-- R20, R188: a move gives no link another request. -/
theorem State.Move.requestsKept (h : s.Move t) : s.RequestsKept t := by
  cases h with
  | kept h => exact h.requests
  | blank h => exact fun l => .inl (h.requests l)
  | empty hr hu =>
    refine State.RequestsKept.trans (State.RequestsKept.trans (.of_links_eq rfl) hu.requests) ?_
    exact .of_links_eq (State.adjustRef_links ..)
  | rename => exact .of_links_eq (State.changeModel_links ..)
  | softHold => exact .of_links_eq s.softHeld_links
  | budget => exact .of_links_eq rfl
  | window => exact .of_links_eq rfl
  | write => exact .of_links_eq rfl
  | leave => exact .of_links_eq rfl
  | enter => exact .of_links_eq rfl
  | fill => exact .of_links_eq rfl
  | describe => exact .of_links_eq rfl
  | create => exact .of_links_eq rfl
  | discard => exact .of_links_eq rfl

theorem State.Moves.requestsKept (h : s.Moves t) : s.RequestsKept t := by
  induction h with
  | refl => exact .of_links rfl rfl
  | tail _ h ih => exact ih.trans h.requestsKept

/-- R20, R188: a request keeps its code, tier, tag and body until it is answered. -/
theorem exec_request_fixed {c : Instr} {p p' : Request} (h : exec c s = .next t)
    (hp : (s.link l).request = some p) (hp' : (t.link l).request = some p') :
    p'.fixed = p.fixed := by
  obtain hm | hl := exec_moves h
  · exact hm.requestsKept.fixed_eq hp hp'
  · obtain rfl := Option.some.inj ((hl.requests l p hp).symm.trans hp')
    rfl

/-- Settles O40: the tier is formed from the frame as it is delivered, and no command changes it. -/
theorem effectiveTierIsFixedAtDelivery : Obligations.EffectiveTierIsFixedAtDelivery := by
  refine ⟨rfl, rfl, ?_, fun c s t l p p' he hp hp' => ?_⟩
  · intro s k tier tag body c hh hk hb frame
    refine ⟨fun hq hu => ?_, fun hc hq hu hr => ?_⟩
    · have hf : State.linkFree
          { s with spiOut := List.replicate (frame.length + 1) 0x00#8 } .executive = true := by
        simp [State.linkFree, State.link, hq, hu]
      have he : exec (.requestFrame .executive frame) s = .next (State.frameComplete
          { s with spiOut := List.replicate (frame.length + 1) 0x00#8 } .executive frame) := by
        show execRequestFrame .executive frame s = _
        rw [execRequestFrame, State.live_of_released hh]
      exact ⟨_, he.trans (congrArg _ (State.frameComplete_requestBytes hf hk hb)), rfl, rfl, rfl⟩
    · have hf : s.linkFree .console = true := by
        simp [State.linkFree, State.link, hq, hu, hc]
      have hlen : expectedLength frame = some frame.length := by
        have h3 : frame[3]? = some (byteOf body.length) := rfl
        rw [expectedLength, h3, Option.map_some, toNat_byteOf (by omega)]
        exact congrArg some (requestBytes_length k tier tag body).symm
      have hrx : ({ s with rx := none } : State) = s := by rw [← hr]
      have he : exec (.requestFrame .console (0x7E#8 :: frame)) s =
          .next (s.frameComplete .console frame) := by
        show execRequestFrame .console _ s = _
        rw [execRequestFrame, State.live_of_released hh]
        simp only [hc, if_true]
        rw [List.foldl_cons, State.consoleByte_start hr, State.foldl_consoleByte_frame s hlen, hrx]
      refine ⟨_, _, he.trans (congrArg _ (State.frameComplete_requestBytes hf hk hb)), rfl, rfl, ?_, rfl⟩
      have : tier.toNat % 4 < 4 := Nat.mod_lt _ (by omega)
      simp only [linkFloor]
      omega
  · have h := exec_request_fixed he hp hp'
    simp only [Request.fixed, Prod.mk.injEq] at h
    obtain ⟨hcode, htier, htag, hbody⟩ := h
    exact ⟨htier, hcode, htag, hbody⟩

end Sys2Proof.Machine
end

section
/-! SUPPORT. A model request that is served: the checks it has passed, and what its answer and its write leave. -/

namespace Sys2Proof.Machine

variable {s : State} {l : Link} {q : Request} {h : Handle} {m : ModelIx} {x : Model}

/-! ### A model handle that resolves -/

theorem State.ResolvesModel.handle (hm : s.ResolvesModel h m x) : h = s.modelHandleOf m := hm.1

/-- R36: a handle that resolves passes every check at tier 0, when check 6 has nothing to say. -/
theorem State.ResolvesModel.validateModel (hm : s.ResolvesModel h m x) {skip : Bool}
    (hd : skip = true ∨ x.state ≠ .doubtful) : s.validateModel h skip 0 = (s, .pass (m, x)) := by
  obtain ⟨rfl, hx, hi⟩ := hm
  have hr := State.readModel_of_intact hx hi
  rw [State.validateModel_inUse rfl rfl hx (by rw [hr]; exact hx), hr, if_neg (by simp [State.modelHandleOf]),
    if_neg (by rcases hd with hd | hd <;> simp [hd]), if_neg (lt_irrefl 0)]

/-- R36: a model request at tier 0 whose handle resolves does its own part. -/
theorem State.serveModel_of_resolved {α : Type} {code : ReqCode} {read : List Byte → Option α}
    {handle : α → Handle} {skip : Bool} {a : α} (hs : s.Serving l code q)
    (hb : read q.body = some a) (ht : q.tier = 0) (hm : s.ResolvesModel (handle a) m x)
    (hd : skip = true ∨ x.state ≠ .doubtful) (f : α → State → ModelIx → Model → State) :
    s.serveModel l code read handle skip f = f a s m x := by
  unfold State.serveModel
  rw [State.serve_of_serving hs]
  simp only [hb, ht, hm.validateModel hd]

/-! ### Answers -/

/-! A sealed descriptor differs in its code alone. -/

theorem Model.seal_eq (x : Model) : x.seal = { x with code := x.seal.code } := by
  simp only [Model.seal]

theorem Model.seal_name (x : Model) : x.seal.name = x.name := by
  simp only [Model.seal]

/-- R35: an answer carries no integrity code. -/
theorem modelFields_seal (h : Handle) (n : Nat) (x : Model) (k : Nat) :
    modelFields h n x.seal k = modelFields h n x k := by
  simp only [modelFields, Model.seal]

theorem State.modelBody_of_model (hx : s.model m = some x) :
    s.modelBody m = modelFields (s.modelHandleOf m) x.state.code x x.refCount := by
  simp [State.modelBody, hx]

/-- R35: a refusal with the model's fields changes the link that asked, and nothing else. -/
theorem State.refusesModel_of_answerModel {c : Instr} {o : Code} (hq : (s.link l).request = some q)
    (hm : s.ResolvesModel h m x) (he : exec c s = .next (s.answerModel l o m)) :
    s.RefusesModel c l q h x o := by
  obtain ⟨rfl, hx, -⟩ := hm
  refine ⟨_, he, ?_, s.answer_frame ..⟩
  rw [State.answerModel, State.modelBody_of_model hx]
  exact State.answer_answers (fun _ => rfl) rfl hq ..

/-- R49: a refusal with no body changes the link that asked, and nothing else. -/
theorem State.refuses_of_refuse {c : Instr} {o : Code} (hq : (s.link l).request = some q)
    (he : exec c s = .next (s.refuse l o)) : s.Refuses c l q o :=
  ⟨_, he, State.refuse_refused hq o⟩

/-! ### Writes of one model slot -/

/-- The machine after a request that gave the model slot `m` the contents `z` and was answered with a code and a
body: the other slots and the rest of the machine stand. -/
structure State.PutsModel (s t : State) (l : Link) (q : Request) (m : ModelIx) (z : ModelSlot) (c : Code)
    (body : List Byte) : Prop where
  slot : t.modelSlot m = z
  others : ∀ n, n ≠ m → t.modelSlot n = s.modelSlot n
  answers : s.Answers t l q c body
  frame : t = { s with models := { s.models with slots := t.models.slots }, execLink := t.execLink,
                       consoleLink := t.consoleLink }

theorem State.putsModel_answer (hq : (s.link l).request = some q) (m : ModelIx) (z : ModelSlot)
    (c : Code) (body : List Byte) :
    s.PutsModel ((s.setModelSlot m z).answer l c body) l q m z c body := by
  have hslot (n : ModelIx) : ((s.setModelSlot m z).answer l c body).modelSlot n =
      if n = m then z else s.modelSlot n := by
    rw [State.modelSlot, State.answer_models]
    exact s.modelSlot_setModelSlot m n z
  refine ⟨(hslot m).trans (if_pos rfl), fun n hn => (hslot n).trans (if_neg hn), ?_, ?_⟩
  · exact State.answer_answers (u := s.setModelSlot m z) (fun k => by cases k <;> rfl) rfl hq ..
  · rw [State.answer_frame]
    rfl

/-- R35, R44: a model is written sealed, and the answer carries the fields it now has. -/
theorem State.putsModel_writeModel (hq : (s.link l).request = some q) (m : ModelIx) (y : Model)
    (c : Code) : s.PutsModel ((s.writeModel m y).answerModel l c m) l q m
      ⟨(s.modelSlot m).gen, some y.seal⟩ c (modelFields (s.modelHandleOf m) y.state.code y y.refCount) := by
  have hy : (s.writeModel m y).model m = some y.seal := by rw [State.model_writeModel, if_pos rfl]
  have hb : (s.writeModel m y).modelBody m =
      modelFields (s.modelHandleOf m) y.state.code y y.refCount := by
    rw [State.modelBody_of_model hy, State.writeModel_modelHandleOf, Model.seal_state,
      Model.seal_refCount, modelFields_seal]
  rw [State.answerModel, hb, State.writeModel]
  exact State.putsModel_answer hq ..

/-! ### Names in use (R32) -/

theorem State.nameTaken_iff {but : Option ModelIx} {name : List Byte} {rev : Nat} :
    s.nameTaken but name rev = true ↔
      ∃ n x, some n ≠ but ∧ s.model n = some x ∧ x.name = name ∧ x.revision = rev := by
  simp only [State.nameTaken, List.any_eq_true, List.mem_finRange, true_and, Bool.and_eq_true,
    decide_eq_true_eq]
  refine exists_congr fun n => ?_
  cases hx : s.model n <;> simp

theorem State.not_nameTaken {but : Option ModelIx} {name : List Byte} {rev : Nat}
    (hn : ∀ n x, some n ≠ but → s.model n = some x → ¬(x.name = name ∧ x.revision = rev)) :
    ¬s.nameTaken but name rev = true := by
  rw [State.nameTaken_iff]
  rintro ⟨n, x, hb, hx, hk⟩
  exact hn n x hb hx hk

/-- R32: an in-use model carries the code and the revision. -/
theorem State.nameTaken_none_iff {name : List Byte} {rev : Nat} : s.nameTaken none name rev = true ↔
    ∃ n x, s.model n = some x ∧ x.name = name ∧ x.revision = rev := by
  simp [State.nameTaken_iff]

/-- R32: another model carries the code and the revision. -/
theorem State.nameTaken_some_iff {name : List Byte} {rev : Nat} :
    s.nameTaken (some m) name rev = true ↔
      ∃ n y, n ≠ m ∧ s.model n = some y ∧ y.name = name ∧ y.revision = rev := by
  simp [State.nameTaken_iff]

end Sys2Proof.Machine
end

section
/-! The model requests CREATE_MODEL, EDIT_MODEL, REVISE and DISCARD. -/

namespace Sys2Proof.Machine

variable {s : State} {l : Link} {q : Request} {h : Handle} {m : ModelIx} {x : Model}

/-! ### CREATE_MODEL -/

theorem State.emptyModel_eq_some_iff :
    s.emptyModel = some m ↔ s.model m = none ∧ ∀ n, n < m → s.model n ≠ none := by
  rw [State.emptyModel, ← Fin.find?_eq_find?_finRange, Fin.find?_eq_some_iff]
  simp only [Option.isNone_iff_eq_none, Option.isNone_eq_false_iff, Option.isSome_iff_ne_none]

theorem State.emptyModel_eq_none_iff : s.emptyModel = none ↔ ∀ n, s.model n ≠ none := by
  rw [State.emptyModel, ← Fin.find?_eq_find?_finRange, Fin.find?_eq_none_iff]
  simp only [Option.isNone_eq_false_iff, Option.isSome_iff_ne_none]

/-- R37: what CREATE_MODEL does at tier 0, when its body fits. -/
theorem execCreateModel_of_serving {name : List Byte} {rev : Nat} (hs : s.Serving l .createModel q)
    (hb : readAll readCreateBody q.body = some (name, rev)) (ht : q.tier = 0) :
    exec (.createModel l) s = .next (
      if name.all isSerialChar = false ∨ 255 < rev then s.refuse l .badField
      else if s.nameTaken none name rev then s.refuse l .duplicate
      else match s.emptyModel with
        | none => s.refuse l .tableFull
        | some m => (s.writeModel m (draftModel name rev)).answerModel l .ok m) := by
  show execCreateModel l s = _
  simp only [execCreateModel, State.serve_of_serving hs, hb, ht, lt_irrefl, if_false, Bool.or_eq_true,
    Bool.not_eq_true', decide_eq_true_eq] <;> rfl

/-- Settles O32: the checks of `execCreateModel` in their order, and the write into the slot that
`State.emptyModel` finds. -/
theorem createModelPlacesADraft : Obligations.CreateModelPlacesADraft := by
  refine ⟨fun l s q name rev m hs hb ht hc hr hn hm hlow => ?_, fun l s q name rev hs hb ht => ?_⟩
  · have he := execCreateModel_of_serving hs hb ht
    have hfree : ¬s.nameTaken none name rev = true := State.not_nameTaken fun n x _ => hn n x
    rw [if_neg (by simp [hc, hr]), if_neg hfree, State.emptyModel_eq_some_iff.mpr ⟨hm, hlow⟩] at he
    have hp := State.putsModel_writeModel hs.request m (draftModel name rev) .ok
    exact ⟨_, _, he, hp.slot, Model.seal_eq _, Model.seal_intact _, hp.others, hp.answers, hp.frame⟩
  · have he := execCreateModel_of_serving hs hb ht
    refine ⟨fun hbad => ?_, fun hc hr => ?_⟩
    · rw [if_pos hbad] at he
      exact State.refuses_of_refuse hs.request he
    · rw [if_neg (by simp [hc, hr])] at he
      refine ⟨fun hdup => ?_, fun hn hfull => ?_⟩
      · rw [if_pos (State.nameTaken_none_iff.mpr hdup)] at he
        exact State.refuses_of_refuse hs.request he
      · have hfree : ¬s.nameTaken none name rev = true := by
          rw [State.nameTaken_none_iff]
          exact fun ⟨n, x, hx, hk⟩ => hn n x hx hk
        rw [if_neg hfree, State.emptyModel_eq_none_iff.mpr hfull] at he
        exact State.refuses_of_refuse hs.request he

/-! ### EDIT_MODEL -/

/-- R38: what EDIT_MODEL does at tier 0, when its handle resolves. -/
theorem execEditModel_of_resolved {item : EditItem} (hs : s.Serving l .editModel q)
    (hb : readAll readEditBody q.body = some (h, item)) (ht : q.tier = 0)
    (hm : s.ResolvesModel h m x) (hd : x.state ≠ .doubtful) :
    exec (.editModel l) s = .next (
      if x.state ≠ .draft then s.answerModel l .wrongState m
      else if !item.inRange then s.answerModel l .badField m
      else if s.editDuplicate m x item then s.answerModel l .duplicate m
      else (s.writeModel m (x.edited item)).answerModel l .ok m) :=
  congrArg Host.Outcome.next (State.serveModel_of_resolved hs hb ht hm (.inr hd) _)

/-- R32: an edit that takes no name, or one that is free, meets no duplicate. -/
theorem State.editDuplicate_iff {item : EditItem} : s.editDuplicate m x item = true ↔
    ∃ c n y, item = .name c ∧ n ≠ m ∧ s.model n = some y ∧ y.name = c ∧ y.revision = x.revision := by
  cases item with
  | name c =>
    refine State.nameTaken_some_iff.trans ⟨fun ⟨n, y, hk⟩ => ⟨c, n, y, rfl, hk⟩, ?_⟩
    rintro ⟨_, n, y, ⟨⟩, hk⟩
    exact ⟨n, y, hk⟩
  | _ => simp [State.editDuplicate]

/-- R38: an item is stored beside the state and the revision. -/
theorem Model.edited_state (x : Model) (a : EditItem) : (x.edited a).state = x.state := by
  unfold Model.edited; split <;> rfl

theorem Model.edited_revision (x : Model) (a : EditItem) : (x.edited a).revision = x.revision := by
  unfold Model.edited; split <;> rfl

/-- Settles O33: the checks of `execEditModel` in their order, and the write of `Model.edited`. -/
theorem editModelStoresOneItem : Obligations.EditModelStoresOneItem := by
  refine ⟨fun l s q h item m x hs hb ht hm hst hrange hfree => ?_,
    fun l s q h item m x hs hb ht hm => ⟨fun hst => ?_, fun hst hrange => ?_,
      fun c n y hst hc hrange hn hy hname hrev => ?_⟩⟩
  · have he := execEditModel_of_resolved hs hb ht hm (by simp [hst])
    have hdup : ¬s.editDuplicate m x item = true := by
      rw [State.editDuplicate_iff]
      exact fun ⟨c, n, y, hc, hn, hy, hk⟩ => hfree c hc n y hn hy hk
    rw [if_neg (by simp [hst]), if_neg (by simp [hrange]), if_neg hdup] at he
    have hp := State.putsModel_writeModel hs.request m (x.edited item) .ok
    have ha := hp.answers
    rw [Model.edited_state, Model.edited_refCount, hst, ← hm.handle, modelFields,
      Model.edited_revision, ← Model.seal_name] at ha
    refine ⟨_, _, he, hp.slot, Model.seal_intact _, ?_, ?_, ?_, ?_, ?_, ?_, hp.others, ha, hp.frame⟩
    · rintro c rfl; exact Model.seal_eq _
    · rintro p n rfl; exact Model.seal_eq _
    · rintro rfl; exact Model.seal_eq _
    · rintro rfl; exact Model.seal_eq _
    · rintro ks rfl; exact Model.seal_eq _
    · rintro ps rfl; exact Model.seal_eq _
  · have he := execEditModel_of_resolved hs hb ht hm (by simp [hst])
    rw [if_pos (by simp [hst])] at he
    exact State.refusesModel_of_answerModel hs.request hm he
  · have he := execEditModel_of_resolved hs hb ht hm (by simp [hst])
    rw [if_neg (by simp [hst]), if_pos (by simp [hrange])] at he
    exact State.refusesModel_of_answerModel hs.request hm he
  · have he := execEditModel_of_resolved hs hb ht hm (by simp [hst])
    rw [if_neg (by simp [hst]), if_neg (by simp [hrange]),
      if_pos (State.editDuplicate_iff.mpr ⟨c, n, y, hc, hn, hy, hname, hrev⟩)] at he
    exact State.refusesModel_of_answerModel hs.request hm he

/-! ### REVISE and DISCARD -/

/-- R40: what REVISE does at tier 0, when its handle resolves. -/
theorem execRevise_of_resolved (hs : s.Serving l .revise q)
    (hb : readAll readHandle q.body = some h) (ht : q.tier = 0) (hm : s.ResolvesModel h m x)
    (hd : x.state ≠ .doubtful) :
    exec (.revise l) s = .next (
      if x.state ≠ .active then s.answerModel l .wrongState m
      else if 0 < x.refCount then s.answerModel l .modelInUse m
      else if x.revision = 255 then s.answerModel l .badField m
      else if s.nameTaken (some m) x.name (x.revision + 1) then s.answerModel l .duplicate m
      else (s.writeModel m { x with state := .draft, revision := x.revision + 1 }).answerModel l
        .ok m) :=
  congrArg Host.Outcome.next (State.serveModel_of_resolved (handle := id) hs hb ht hm (.inr hd) _)

/-- R41: what DISCARD does at tier 0, when its handle resolves. -/
theorem execDiscard_of_resolved (hs : s.Serving l .discard q)
    (hb : readAll readHandle q.body = some h) (ht : q.tier = 0) (hm : s.ResolvesModel h m x) :
    exec (.discard l) s = .next (
      if 0 < x.refCount then s.answerModel l .modelInUse m
      else (s.discardModel m).answer l .ok (modelFields (s.modelHandleOf m) emptyModelCode x 0)) :=
  congrArg Host.Outcome.next (State.serveModel_of_resolved (handle := id) hs hb ht hm (.inl rfl) _)

/-- Settles O35: the checks of `execRevise` and `execDiscard` in their order, and the one slot they write. -/
theorem reviseAndDiscardAnUnusedModel : Obligations.ReviseAndDiscardAnUnusedModel := by
  intro l s q h m x hb ht hm
  refine ⟨fun hs => ⟨fun hst => ?_, fun hst hc => ?_, fun hst hc hr => ?_, fun hst hc hr hdup => ?_⟩,
    fun hs hc => ?_, fun hs hc hst hr hn => ?_, fun hs hc => ?_⟩
  · have he := execRevise_of_resolved hs hb ht hm (by simp [hst])
    rw [if_pos (by simp [hst])] at he
    exact State.refusesModel_of_answerModel hs.request hm he
  · have he := execRevise_of_resolved hs hb ht hm (by simp [hst])
    rw [if_neg (by simp [hst]), if_pos hc] at he
    exact State.refusesModel_of_answerModel hs.request hm he
  · have he := execRevise_of_resolved hs hb ht hm (by simp [hst])
    rw [if_neg (by simp [hst]), if_neg hc.not_gt, if_pos hr] at he
    exact State.refusesModel_of_answerModel hs.request hm he
  · have he := execRevise_of_resolved hs hb ht hm (by simp [hst])
    rw [if_neg (by simp [hst]), if_neg hc.not_gt, if_neg hr.ne,
      if_pos (State.nameTaken_some_iff.mpr hdup)] at he
    exact State.refusesModel_of_answerModel hs.request hm he
  · have he := execDiscard_of_resolved hs hb ht hm
    rw [if_pos hc] at he
    exact State.refusesModel_of_answerModel hs.request hm he
  · have he := execRevise_of_resolved hs hb ht hm (by simp [hst])
    have hfree : ¬s.nameTaken (some m) x.name (x.revision + 1) = true :=
      State.not_nameTaken fun n y hne => hn n y (by simpa using hne)
    rw [if_neg (by simp [hst]), if_neg hc.not_gt, if_neg hr.ne, if_neg hfree] at he
    have hp := State.putsModel_writeModel hs.request m
      { x with state := .draft, revision := x.revision + 1 } .ok
    have ha : s.Answers _ l q .ok (h.bytes ++ [0x01#8] ++ x.name ++
        [byteOf (x.revision + 1), byteOf x.refCount]) := hm.handle ▸ hp.answers
    have hz : byteOf x.refCount = 0x00#8 := by rw [hc]; rfl
    rw [hz] at ha
    exact ⟨_, _, he, hp.slot, Model.seal_eq _, Model.seal_intact _, hp.others, ha, hp.frame⟩
  · have he := execDiscard_of_resolved hs hb ht hm
    rw [if_neg hc.not_gt, ← hm.handle] at he
    have hp := State.putsModel_answer hs.request m
      ⟨State.nextGen (s.modelSlot m).gen, none⟩ .ok (modelFields h emptyModelCode x 0)
    exact ⟨_, he, hp.slot, hp.others, hp.answers, hp.frame⟩

end Sys2Proof.Machine
end

section
/-! SUPPORT. The items of ACTIVATE (R39): what the search of `Model.firstFault` finds is the least item that fails,
with the index that goes with it. -/

namespace Sys2Proof.Machine

/-! ### The first index that breaks a rule -/

/-- `k` is the first index at which `bad` holds. -/
def IsFirst (bad : Nat → Prop) (k : Nat) : Prop := bad k ∧ ∀ j, j < k → ¬bad j

theorem IsFirst.unique {bad : Nat → Prop} {j k : Nat} (hj : IsFirst bad j) (hk : IsFirst bad k) :
    j = k := by
  obtain ⟨hj, hj'⟩ := hj
  obtain ⟨hk, hk'⟩ := hk
  exact Nat.le_antisymm (not_lt.mp fun h => hj' k h hk) (not_lt.mp fun h => hk' j h hj)

/-- A search that counts from `n` finds the first index at which `bad` holds, or none where there is none. -/
inductive FindsFirst (bad : Nat → Prop) (n : Nat) : Option Nat → Prop
  | nowhere (h : ∀ k, ¬bad k) : FindsFirst bad n none
  | found (k : Nat) (h : IsFirst bad k) : FindsFirst bad n (some (k + n))

section
variable {bad : Nat → Prop} {n : Nat} {o : Option Nat}

theorem FindsFirst.here (h : bad 0) : FindsFirst bad n (some n) := by
  simpa using FindsFirst.found (n := n) 0 ⟨h, fun j hj => absurd hj (Nat.not_lt_zero j)⟩

theorem IsFirst.succ_iff {k : Nat} (h₀ : ¬bad 0) :
    IsFirst bad (k + 1) ↔ IsFirst (fun j => bad (j + 1)) k := by
  refine and_congr_right fun _ => ⟨fun h j hj => h (j + 1) (by omega), fun h j hj => ?_⟩
  cases j with
  | zero => exact h₀
  | succ j => exact h j (by omega)

/-- Behind an index that keeps the rule the search goes on with the next. -/
theorem FindsFirst.skip (h₀ : ¬bad 0) (h : FindsFirst (fun k => bad (k + 1)) (n + 1) o) :
    FindsFirst bad n o := by
  cases h with
  | nowhere h => exact .nowhere fun k => by cases k with | zero => exact h₀ | succ k => exact h k
  | found k h =>
    rw [show k + (n + 1) = (k + 1) + n by omega]
    exact .found (k + 1) ((IsFirst.succ_iff h₀).mpr h)

/-- A rule that speaks of no first entry may be counted from the second. -/
theorem FindsFirst.tail (h₀ : ¬bad 0) (h : FindsFirst bad n o) :
    FindsFirst (fun k => bad (k + 1)) (n + 1) o := by
  cases h with
  | nowhere h => exact .nowhere fun k => h (k + 1)
  | found k h =>
    cases k with
    | zero => exact absurd h.1 h₀
    | succ k =>
      rw [show (k + 1) + n = k + (n + 1) by omega]
      exact .found k ((IsFirst.succ_iff h₀).mp h)

theorem FindsFirst.congr {bad' : Nat → Prop} (hb : ∀ k, bad k ↔ bad' k) (h : FindsFirst bad n o) :
    FindsFirst bad' n o := by
  rwa [← funext fun k => propext (hb k)]

end

/-! ### Knots (R33) -/

/-- The knot before index `i` of a list that stands behind `prev`. -/
def knotBefore (prev : Option Knot) (ks : List Knot) : Nat → Option Knot
  | 0 => prev
  | i + 1 => ks[i]?

/-- The knot at index `i` fails `bad`, which sees the knot before it. -/
def KnotFails (bad : Option Knot → Knot → Bool) (prev : Option Knot) (ks : List Knot) (i : Nat) : Prop :=
  ∃ k, ks[i]? = some k ∧ bad (knotBefore prev ks i) k = true

theorem knotFails_succ {bad : Option Knot → Knot → Bool} {prev : Option Knot} {k : Knot}
    {ks : List Knot} (i : Nat) :
    KnotFails bad (some k) ks i ↔ KnotFails bad prev (k :: ks) (i + 1) := by
  cases i <;> exact Iff.rfl

/-- R39 items 14 and 15: the search over the knots. -/
theorem firstBadKnot_findsFirst (bad : Option Knot → Knot → Bool) (n : Nat) (prev : Option Knot)
    (ks : List Knot) : FindsFirst (KnotFails bad prev ks) n (firstBadKnot bad n prev ks) := by
  induction ks generalizing n prev with
  | nil => exact .nowhere fun k ⟨_, hk, _⟩ => by cases hk
  | cons k ks ih =>
    have h₀ : KnotFails bad prev (k :: ks) 0 ↔ bad prev k = true := by
      simp [KnotFails, knotBefore]
    unfold firstBadKnot
    split
    next hb => exact .here (h₀.mpr hb)
    next hb => exact .skip (mt h₀.mp hb) ((ih (n + 1) (some k)).congr knotFails_succ)

/-- R39 item 14: the knot behind the one at index `n` does not rise above it. -/
def KnotFalls (ks : List Knot) (n : Nat) : Prop :=
  ∃ a b, ks[n]? = some a ∧ ks[n + 1]? = some b ∧ b.temp ≤ a.temp

theorem knotFails_notAbove_succ {ks : List Knot} (n : Nat) :
    KnotFails notAbove none ks (n + 1) ↔ KnotFalls ks n := by
  simp only [KnotFails, KnotFalls, knotBefore]
  cases ks[n]? <;> simp [notAbove]

/-- R39 item 14: the search counts the knots from 1 (log 14), and the first cannot fail. -/
theorem firstBadKnot_notAbove (ks : List Knot) :
    FindsFirst (KnotFalls ks) 2 (firstBadKnot notAbove 1 none ks) := by
  have h₀ : ¬KnotFails notAbove none ks 0 := by simp [KnotFails, knotBefore, notAbove]
  exact ((firstBadKnot_findsFirst notAbove 1 none ks).tail h₀).congr knotFails_notAbove_succ

/-- R39 item 15: the knot at index `n` lies above the cap. -/
def KnotAbove (cap : Nat) (ks : List Knot) (n : Nat) : Prop := ∃ k, ks[n]? = some k ∧ cap < k.power

theorem firstBadKnot_above (cap : Nat) (ks : List Knot) : FindsFirst (KnotAbove cap ks) 1
    (firstBadKnot (fun _ k => cap < k.power) 1 none ks) :=
  (firstBadKnot_findsFirst _ 1 none ks).congr fun k => by simp [KnotFails, KnotAbove]

/-! ### Pairs of TRIP and RESTART (R34) -/

theorem pairingBreaks_zero {ps : List PlanStep} : PairingBreaks ps 0 ↔
    (∃ lv, ps[0]? = some (.trip lv) ∧ ps[1]? ≠ some .restart) ∨ ps[0]? = some .restart := by
  simp [PairingBreaks]

theorem pairingBreaks_succ {ps : List PlanStep} {k : Nat} : PairingBreaks ps (k + 1) ↔
    (∃ lv, ps[k + 1]? = some (.trip lv) ∧ ps[k + 2]? ≠ some .restart) ∨
      (ps[k + 1]? = some .restart ∧ ∀ lv, ps[k]? ≠ some (.trip lv)) := by
  refine or_congr_right (and_congr_right fun _ => ⟨fun h lv => h k lv rfl, fun h n lv hk => ?_⟩)
  obtain rfl := Nat.succ.inj hk
  exact h lv

/-- A step that is no TRIP step leaves the pairing of the steps behind it to them. -/
theorem pairingBreaks_cons {p : PlanStep} {ps : List PlanStep} (hp : ∀ lv, p ≠ .trip lv) (k : Nat) :
    PairingBreaks ps k ↔ PairingBreaks (p :: ps) (k + 1) := by
  cases k with
  | zero => simp [pairingBreaks_zero, pairingBreaks_succ, hp]
  | succ k => simp [pairingBreaks_succ]

/-- R39 item 25: a TRIP step and the RESTART step behind it are a pair. -/
theorem pairingBreaks_pair {lv : Nat} {ps : List PlanStep} :
    ¬PairingBreaks (.trip lv :: .restart :: ps) 0 ∧ ¬PairingBreaks (.trip lv :: .restart :: ps) 1 ∧
      ∀ k, PairingBreaks ps k ↔ PairingBreaks (.trip lv :: .restart :: ps) (k + 1 + 1) := by
  refine ⟨by simp [pairingBreaks_zero], by simp [pairingBreaks_succ], fun k => ?_⟩
  refine (pairingBreaks_cons (p := .restart) (by simp) k).trans ?_
  simp [pairingBreaks_succ]

/-- R39 item 25: the search over the steps. -/
theorem firstUnpaired_findsFirst (n : Nat) (ps : List PlanStep) :
    FindsFirst (PairingBreaks ps) n (firstUnpaired n ps) := by
  induction n, ps using firstUnpaired.induct with
  | case1 n => exact .nowhere fun k => by simp [PairingBreaks]
  | case2 n lv ps ih =>
    obtain ⟨h₀, h₁, h₂⟩ := pairingBreaks_pair (lv := lv) (ps := ps)
    exact .skip h₀ (.skip h₁ (ih.congr h₂))
  | case3 n lv ps hne =>
    have he : firstUnpaired n (.trip lv :: ps) = some n := by rw [firstUnpaired]; exact hne
    rw [he]
    refine .here (.inl ⟨lv, rfl, fun k => ?_⟩)
    cases ps with
    | nil => cases k
    | cons p ps => exact hne ps (by simpa using k)
  | case4 n ps => exact .here (pairingBreaks_zero.mpr (.inr rfl))
  | case5 n p ps h₁ h₂ h₃ ih =>
    have he : firstUnpaired n (p :: ps) = firstUnpaired (n + 1) ps := by
      rw [firstUnpaired] <;> assumption
    have h₀ : ¬PairingBreaks (p :: ps) 0 := by
      rw [pairingBreaks_zero]
      rintro (⟨lv, hp, -⟩ | hp)
      · exact h₂ lv (by simpa using hp)
      · exact h₃ (by simpa using hp)
    rw [he]
    exact .skip h₀ (ih.congr (pairingBreaks_cons fun lv hp => h₂ lv hp))

/-! ### One item -/

/-- R39: what an item of the table contributes: nothing when the descriptor passes it, and else its number with the
one index that goes with it. -/
inductive Model.Reads (x : Model) (n : Nat) : Option (Nat × Option Nat) → Prop
  | passes (h : x.Passes n) : x.Reads n none
  | fails (i : Option Nat) (h : ¬x.Passes n) (hi : ∀ j, x.FailsAt n j ↔ j = i) :
    x.Reads n (some (n, i))

section
variable {x : Model} {n : Nat}

/-- An item that carries no index. -/
theorem Model.reads_flag {bad : Bool} (hp : x.Passes n ↔ bad = false)
    (hi : ∀ j, x.FailsAt n j ↔ j = none) :
    x.Reads n (if bad then some (n, none) else none) := by
  cases bad with
  | false => exact .passes (hp.mpr rfl)
  | true => exact .fails none (fun h => Bool.noConfusion (hp.mp h)) hi

/-- An item that asks for a field. -/
theorem Model.reads_field {α : Type} {f : Option α} (hp : x.Passes n ↔ f ≠ none)
    (hi : ∀ j, x.FailsAt n j ↔ j = none) :
    x.Reads n (if f.isNone then some (n, none) else none) :=
  Model.reads_flag (hp.trans (by cases f <;> simp)) hi

/-- An item that asks for two fields. -/
theorem Model.reads_fields {α β : Type} {f : Option α} {g : Option β}
    (hp : x.Passes n ↔ f ≠ none ∧ g ≠ none) (hi : ∀ j, x.FailsAt n j ↔ j = none) :
    x.Reads n (if f.isNone || g.isNone then some (n, none) else none) :=
  Model.reads_flag (hp.trans (by cases f <;> cases g <;> simp)) hi

/-- An item that asks for one field below another, once earlier items have asked for both. -/
theorem Model.reads_order {f g : Option Nat} (hf : f ≠ none) (hg : g ≠ none)
    (hp : x.Passes n ↔ ∀ a b, f = some a → g = some b → a < b)
    (hi : ∀ j, x.FailsAt n j ↔ j = none) :
    x.Reads n (if decide (g.getD 0 ≤ f.getD 0) then some (n, none) else none) := by
  obtain ⟨a, rfl⟩ := Option.ne_none_iff_exists'.mp hf
  obtain ⟨b, rfl⟩ := Option.ne_none_iff_exists'.mp hg
  exact Model.reads_flag (hp.trans (by simp)) hi

/-- An item that carries a number when it fails. -/
theorem Model.reads_number {bad : Prop} [Decidable bad] {k : Nat} (hp : x.Passes n ↔ ¬bad)
    (hi : ∀ j, x.FailsAt n j ↔ j = some k) :
    x.Reads n ((if bad then some k else none).map fun k => (n, some k)) := by
  by_cases hb : bad
  · rw [if_pos hb]
    exact .fails (some k) (fun h => hp.mp h hb) hi
  · rw [if_neg hb]
    exact .passes (hp.mpr hb)

/-- An item that carries the first index, counted from `base`, at which a rule is broken. -/
theorem Model.reads_first {bad : Nat → Prop} {base : Nat} {o : Option Nat}
    (ho : FindsFirst bad base o) (hp : x.Passes n ↔ ∀ k, ¬bad k)
    (hi : ∀ j, x.FailsAt n j ↔ ∃ k, j = some (k + base) ∧ IsFirst bad k) :
    x.Reads n (o.map fun k => (n, some k)) := by
  cases ho with
  | nowhere h => exact .passes (hp.mpr h)
  | found k hk =>
    refine .fails (some (k + base)) (fun h => hp.mp h k hk.1) fun j => (hi j).trans ⟨?_, ?_⟩
    · rintro ⟨k', rfl, hk'⟩
      rw [hk'.unique hk]
    · rintro rfl
      exact ⟨k, rfl, hk⟩

end

/-! The items that are more than a field or two. -/

theorem Model.passes_knotCount (x : Model) :
    x.Passes 13 ↔ ¬(x.curve.length < 2 ∨ 6 < x.curve.length) := by
  show 2 ≤ x.curve.length ∧ x.curve.length ≤ 6 ↔ _
  omega

theorem Model.passes_rising (x : Model) : x.Passes 14 ↔ ∀ k, ¬KnotFalls x.curve k := by
  refine ⟨fun h k ⟨a, b, ha, hb, hk⟩ => absurd (h k a b ha hb) (by omega), fun h n a b ha hb => ?_⟩
  exact not_le.mp fun hk => h n ⟨a, b, ha, hb, hk⟩

theorem Model.failsAt_rising (x : Model) (j : Option Nat) : x.FailsAt 14 j ↔
    ∃ k, j = some (k + 2) ∧ IsFirst (KnotFalls x.curve) k := by
  constructor
  · rintro ⟨n, a, b, hj, ha, hb, hk, hlow⟩
    exact ⟨n, hj, ⟨a, b, ha, hb, hk⟩,
      fun i hi ⟨c, d, hc, hd, hf⟩ => absurd (hlow i c d hi hc hd) (by omega)⟩
  · rintro ⟨n, hj, ⟨a, b, ha, hb, hk⟩, hlow⟩
    exact ⟨n, a, b, hj, ha, hb, hk,
      fun i c d hi hc hd => not_le.mp fun hf => hlow i hi ⟨c, d, hc, hd, hf⟩⟩

theorem Model.passes_capped {x : Model} {c : Nat} (hc : x.params.pCap = some c) :
    x.Passes 15 ↔ ∀ k, ¬KnotAbove c x.curve k := by
  constructor
  · rintro h n ⟨k, hk, ha⟩
    exact absurd (h c hc k (List.mem_of_getElem? hk)) (by omega)
  · intro h c' hc' k hk
    obtain rfl := Option.some.inj (hc.symm.trans hc')
    obtain ⟨n, hn⟩ := List.mem_iff_getElem?.mp hk
    exact not_lt.mp fun ha => h n ⟨k, hn, ha⟩

theorem Model.failsAt_capped {x : Model} {c : Nat} (hc : x.params.pCap = some c) (j : Option Nat) :
    x.FailsAt 15 j ↔ ∃ k, j = some (k + 1) ∧ IsFirst (KnotAbove c x.curve) k := by
  constructor
  · rintro ⟨n, k, c', hj, hc', hk, ha, hlow⟩
    obtain rfl := Option.some.inj (hc.symm.trans hc')
    exact ⟨n, hj, ⟨k, hk, ha⟩, fun i hi ⟨m, hm, hf⟩ => absurd (hlow i m hi hm) (by omega)⟩
  · rintro ⟨n, hj, ⟨k, hk, ha⟩, hlow⟩
    exact ⟨n, k, c, hj, hc, hk, ha, fun i m hi hm => not_lt.mp fun hf => hlow i hi ⟨m, hm, hf⟩⟩

theorem Model.reads_latchObserve (x : Model) : x.Reads 11 (if x.params.latchObserve.isNone &&
    x.params.restartMode ≠ some .hiccup then some (11, none) else none) := by
  refine Model.reads_flag ?_ fun _ => Iff.rfl
  show x.params.latchObserve ≠ none ∨ x.params.restartMode = some .hiccup ↔ _
  cases x.params.latchObserve <;> simp

theorem Model.reads_capped {x : Model} (hc : x.params.pCap ≠ none) : x.Reads 15 ((firstBadKnot
    (fun _ k => x.params.pCap.getD 0 < k.power) 1 none x.curve).map fun k => (15, some k)) := by
  obtain ⟨c, hc⟩ := Option.ne_none_iff_exists'.mp hc
  rw [hc]
  exact Model.reads_first (firstBadKnot_above c x.curve) (Model.passes_capped hc)
    (Model.failsAt_capped hc)

/-! ### The table -/

def Model.PassesBelow (x : Model) (n : Nat) : Prop := ∀ j, j < n → x.Passes j

/-- R39: what a search of the table answers: nothing when the descriptor passes every item, and else the least
that fails with its index. -/
inductive Model.Finds (x : Model) : Option (Nat × Option Nat) → Prop
  | nothing (h : ∀ n, x.Passes n) : x.Finds none
  | least (item : Nat) (i : Option Nat) (hb : x.PassesBelow item) (h : ¬x.Passes item)
    (hi : ∀ j, x.FailsAt item j ↔ j = i) : x.Finds (some (item, i))

section
variable {x : Model} {n : Nat} {o rest : Option (Nat × Option Nat)}

theorem Model.PassesBelow.succ (hb : x.PassesBelow n) (h : x.Passes n) : x.PassesBelow (n + 1) := by
  intro j hj
  obtain hj | rfl := Nat.lt_succ_iff_lt_or_eq.mp hj
  · exact hb j hj
  · exact h

/-- The search reads item `n` once the items before it pass, and goes on when it passes too. -/
theorem Model.finds_item (hr : x.PassesBelow n → x.Reads n o)
    (hs : x.PassesBelow (n + 1) → x.Finds rest) (hb : x.PassesBelow n) : x.Finds (o <|> rest) := by
  cases hr hb with
  | passes h => exact hs (hb.succ h)
  | fails i h hi => exact .least n i hb h hi

theorem Model.finds_field {α : Type} {f : Option α} (hp : x.Passes n ↔ f ≠ none)
    (hi : ∀ j, x.FailsAt n j ↔ j = none) (hs : x.PassesBelow (n + 1) → x.Finds rest) :
    x.PassesBelow n → x.Finds ((if f.isNone then some (n, none) else none) <|> rest) :=
  Model.finds_item (fun _ => Model.reads_field hp hi) hs

/-- Item 25 is the last. -/
theorem Model.finds_last (hr : x.Reads 25 o) (hb : x.PassesBelow 25) : x.Finds o := by
  cases hr with
  | passes h =>
    refine .nothing fun n => ?_
    obtain hn | hn := Nat.lt_or_ge n 26
    · exact hb.succ h n hn
    · obtain ⟨k, rfl⟩ := Nat.exists_eq_add_of_le hn
      rw [Nat.add_comm]
      exact trivial
  | fails i h hi => exact .least 25 i hb h hi

end

/-- R39: the search of `Model.firstFault`, item by item. -/
theorem Model.finds_firstFault (x : Model) : x.Finds x.firstFault := by
  have h₀ : x.PassesBelow 1 := fun j hj => by
    obtain rfl := Nat.lt_one_iff.mp hj
    exact trivial
  unfold Model.firstFault
  -- from item 1: the output and the collapse level
  refine Model.finds_field Iff.rfl (fun _ => Iff.rfl) ?_ h₀
  refine Model.finds_field Iff.rfl (fun _ => Iff.rfl) ?_
  refine Model.finds_field Iff.rfl (fun _ => Iff.rfl) ?_
  refine Model.finds_field Iff.rfl (fun _ => Iff.rfl) ?_
  refine Model.finds_item (fun hb => Model.reads_order (hb 4 (by omega)) (hb 2 (by omega)) Iff.rfl
    fun _ => Iff.rfl) ?_
  -- from item 6: V_GOOD and the trip window
  refine Model.finds_field Iff.rfl (fun _ => Iff.rfl) ?_
  refine Model.finds_item (fun _ => Model.reads_fields Iff.rfl fun _ => Iff.rfl) ?_
  refine Model.finds_item (fun hb => Model.reads_order (hb 7 (by omega)).1 (hb 7 (by omega)).2 Iff.rfl
    fun _ => Iff.rfl) ?_
  -- from item 9: the restart
  refine Model.finds_field Iff.rfl (fun _ => Iff.rfl) ?_
  refine Model.finds_field Iff.rfl (fun _ => Iff.rfl) ?_
  refine Model.finds_item (fun _ => x.reads_latchObserve) ?_
  -- from item 12: the cap and the curve
  refine Model.finds_field Iff.rfl (fun _ => Iff.rfl) ?_
  refine Model.finds_item (fun _ => Model.reads_number x.passes_knotCount fun _ => Iff.rfl) ?_
  refine Model.finds_item (fun _ => Model.reads_first (firstBadKnot_notAbove x.curve) x.passes_rising
    x.failsAt_rising) ?_
  refine Model.finds_item (fun hb => Model.reads_capped (hb 12 (by omega))) ?_
  -- from item 16: the knee, the tolerances and the evaluator
  refine Model.finds_item (fun _ => Model.reads_fields Iff.rfl fun _ => Iff.rfl) ?_
  refine Model.finds_item (fun hb => Model.reads_order (hb 16 (by omega)).2 (hb 16 (by omega)).1 Iff.rfl
    fun _ => Iff.rfl) ?_
  refine Model.finds_item (fun _ => Model.reads_fields Iff.rfl fun _ => Iff.rfl) ?_
  refine Model.finds_field Iff.rfl (fun _ => Iff.rfl) ?_
  refine Model.finds_field Iff.rfl (fun _ => Iff.rfl) ?_
  refine Model.finds_field Iff.rfl (fun _ => Iff.rfl) ?_
  refine Model.finds_field Iff.rfl (fun _ => Iff.rfl) ?_
  refine Model.finds_field Iff.rfl (fun _ => Iff.rfl) ?_
  -- from item 24: the plan
  refine Model.finds_item (fun _ => Model.reads_number Iff.rfl fun _ => Iff.rfl) ?_
  exact Model.finds_last (Model.reads_first (firstUnpaired_findsFirst 0 x.plan) Iff.rfl fun _ => Iff.rfl)

/-- Only one item fails behind items that pass. -/
theorem Model.least_unique {x : Model} {i j : Nat} (hi : ¬x.Passes i) (hi' : ∀ n, n < i → x.Passes n)
    (hj : ¬x.Passes j) (hj' : ∀ n, n < j → x.Passes n) : i = j :=
  IsFirst.unique (bad := fun n => ¬x.Passes n) ⟨hi, fun n hn => not_not.mpr (hi' n hn)⟩
    ⟨hj, fun n hn => not_not.mpr (hj' n hn)⟩

/-- R39: no fault is found exactly where every item passes. -/
theorem Model.firstFault_eq_none_iff (x : Model) : x.firstFault = none ↔ ∀ n, x.Passes n := by
  have hf := x.finds_firstFault
  generalize x.firstFault = o at hf
  cases hf with
  | nothing h => exact iff_of_true rfl h
  | least item i hb h hi => exact iff_of_false (by simp) fun k => h (k item)

/-- R39: the fault found is the least item that fails, with its index. -/
theorem Model.firstFault_eq_some_iff (x : Model) (item : Nat) (i : Option Nat) :
    x.firstFault = some (item, i) ↔
      ¬x.Passes item ∧ (∀ n, n < item → x.Passes n) ∧ x.FailsAt item i := by
  have hf := x.finds_firstFault
  generalize x.firstFault = o at hf
  cases hf with
  | nothing h => exact iff_of_false (by simp) fun k => k.1 (h item)
  | least item' i' hb h hi =>
    constructor
    · rintro ⟨⟩
      exact ⟨h, hb, (hi i).mpr rfl⟩
    · rintro ⟨hn, hlow, ha⟩
      obtain rfl := Model.least_unique h hb hn hlow
      rw [(hi i).mp ha]

/-- R39: the least item that fails is found with an index that goes with it. -/
theorem Model.exists_firstFault {x : Model} {item : Nat} (hn : ¬x.Passes item)
    (hlow : ∀ n, n < item → x.Passes n) :
    ∃ i, x.firstFault = some (item, i) ∧ x.FailsAt item i := by
  cases hx : x.firstFault with
  | none => exact absurd (x.firstFault_eq_none_iff.mp hx item) hn
  | some found =>
    obtain ⟨item', i⟩ := found
    obtain ⟨hn', hlow', ha⟩ := (x.firstFault_eq_some_iff item' i).mp hx
    obtain rfl := Model.least_unique hn hlow hn' hlow'
    exact ⟨i, rfl, ha⟩

end Sys2Proof.Machine
end

section
/-! The model request ACTIVATE. -/

namespace Sys2Proof.Machine

variable {s : State} {l : Link} {q : Request} {h : Handle} {m : ModelIx} {x : Model}

/-- R39: what ACTIVATE does at tier 0 with a model that is not a DRAFT. -/
theorem execActivate_of_not_draft (hs : s.Serving l .activate q)
    (hb : readAll readHandle q.body = some h) (ht : q.tier = 0) (hm : s.ResolvesModel h m x)
    (hd : x.state ≠ .doubtful) (hst : x.state ≠ .draft) :
    exec (.activate l) s = .next (s.answerModel l .wrongState m) :=
  congrArg Host.Outcome.next <|
    (State.serveModel_of_resolved (handle := id) hs hb ht hm (.inr hd) _).trans (if_pos hst)

/-- R39: what ACTIVATE does at tier 0 with a DRAFT, by the fault that is found. -/
theorem execActivate_of_draft (hs : s.Serving l .activate q)
    (hb : readAll readHandle q.body = some h) (ht : q.tier = 0) (hm : s.ResolvesModel h m x)
    (hst : x.state = .draft) :
    (x.firstFault = none → exec (.activate l) s =
      .next ((s.writeModel m { x with state := .active }).answerModel l .ok m)) ∧
    ∀ item i, x.firstFault = some (item, i) → exec (.activate l) s =
      .next (s.answer l .invalidModel
        (s.modelBody m ++ [byteOf item] ++ optBytes (fun k => [byteOf k]) i)) := by
  have he (f) := State.serveModel_of_resolved (code := .activate) (handle := id) hs hb ht hm
    (skip := false) (.inr (by simp [hst])) f
  constructor
  · intro hf
    refine congrArg Host.Outcome.next ((he _).trans ?_)
    simp only [hst, ne_eq, not_true_eq_false, if_false, hf]
  · intro item i hf
    refine congrArg Host.Outcome.next ((he _).trans ?_)
    simp only [hst, ne_eq, not_true_eq_false, if_false, hf]

/-- Settles O34: the checks of `execActivate` in their order, and the search of `Model.firstFault`. -/
theorem activateChecksTheDescriptor : Obligations.ActivateChecksTheDescriptor := by
  refine ⟨fun l s q h m x hs hb ht hm hst => ?_, fun l s q h m x hs hb ht hm hst => ?_,
    Model.firstFault_eq_none_iff, Model.firstFault_eq_some_iff⟩
  · exact State.refusesModel_of_answerModel hs.request hm
      (execActivate_of_not_draft hs hb ht hm (by simp [hst]) (by simp [hst]))
  · obtain ⟨hok, hbad⟩ := execActivate_of_draft hs hb ht hm hst
    refine ⟨fun hall => ?_, fun item hn hlow => ?_⟩
    · have hp := State.putsModel_writeModel hs.request m { x with state := .active } .ok
      exact ⟨_, _, hok (x.firstFault_eq_none_iff.mpr hall), hp.slot, Model.seal_eq _,
        Model.seal_intact _, hp.others, hm.handle ▸ hp.answers, hp.frame⟩
    · obtain ⟨i, hf, ha⟩ := Model.exists_firstFault hn hlow
      obtain ⟨rfl, hx, -⟩ := hm
      have hbody := State.modelBody_of_model hx
      rw [hst] at hbody
      refine ⟨_, i, hbad item i hf, ha, ?_, s.answer_frame ..⟩
      rw [hbody]
      exact State.answer_answers (fun _ => rfl) rfl hs.request ..

end Sys2Proof.Machine
end

section
/-! SUPPORT. A record request that is served: a body that does not fit, a refusal, and what an answer behind a change of
the state leaves. -/

namespace Sys2Proof.Machine

variable {s u : State} {l : Link} {q : Request} {c : Instr} {code : ReqCode}
  {f : Request → State → State}

/-! ### What the owner does -/

/-- R188: a command that serves requests of a code does with the pending one what its own part does. -/
theorem State.exec_of_serving (hs : s.Serving l code q) (he : exec c s = .next (s.serve l code f)) :
    exec c s = .next (f q s) := by
  rw [he, State.serve_of_serving hs]

/-- R49: a command whose own part refuses the request. -/
theorem State.refuses_of_serving {o : Code} (hs : s.Serving l code q)
    (he : exec c s = .next (s.serve l code f)) (hf : f q s = s.refuse l o) : s.Refuses c l q o :=
  State.refuses_of_refuse hs.request ((State.exec_of_serving hs he).trans (congrArg _ hf))

/-- R201: an AMEND whose body names another item than the command serves changes nothing (log 11). -/
theorem State.serveAmend_of_other {item other : AmendItem} (hs : s.Serving l .amend q)
    (hi : amendItemOf q.body = some other) (hne : other ≠ item)
    (f : Request → AmendValue → State → SlotIx → ShelfRecord → State) :
    s.serveAmend l item f = s := by
  unfold State.serveAmend
  rw [State.serve_of_serving hs]
  exact if_pos ⟨by simp [hi], by simp [hi, hne]⟩

/-- R202: an AMEND whose body does not fit, when it names no item or the item that the command serves. -/
theorem State.serveAmend_of_unfit {item : AmendItem} (hs : s.Serving l .amend q)
    (hb : readAll readAmendBody q.body = none)
    (hi : amendItemOf q.body = none ∨ amendItemOf q.body = some item)
    (f : Request → AmendValue → State → SlotIx → ShelfRecord → State) :
    s.serveAmend l item f = s.refuse l .badField := by
  unfold State.serveAmend
  rw [State.serve_of_serving hs]
  rw [if_neg fun k => hi.elim k.1 k.2, hb]

end Sys2Proof.Machine
end

section
/-! Bodies that do not fit their request. -/

namespace Sys2Proof.Machine

/-- Settles O13: each service reads the body of the request first. -/
theorem badBodyIsRefused : Obligations.BadBodyIsRefused := by
  intro l s q
  refine ⟨fun code c hm hs hb => ?_, fun code c hm hs hb => ?_,
    fun hs hb => State.refuses_of_serving hs rfl (by simp only [hb]),
    fun hs hb => State.refuses_of_serving hs rfl (by simp only [hb]),
    fun hs hb => State.refuses_of_serving hs rfl (by simp only [hb]),
    fun item c hm hs => ⟨fun hb hi => ?_, fun other ho hne => ?_⟩, fun c hm hs hb => ?_,
    fun hs hb => State.refuses_of_serving hs rfl (by simp only [hb]),
    fun hs hb => State.refuses_of_serving hs rfl (by simp only [hb]),
    fun hs hb => State.refuses_of_serving hs rfl (by simp only [hb]),
    fun hs hb => State.refuses_of_serving hs rfl (by simp only [hb])⟩
  · simp only [List.mem_cons, Prod.mk.injEq, List.not_mem_nil, or_false] at hm
    obtain ⟨rfl, rfl⟩ | ⟨rfl, rfl⟩ | ⟨rfl, rfl⟩ | ⟨rfl, rfl⟩ | ⟨rfl, rfl⟩ | ⟨rfl, rfl⟩ | ⟨rfl, rfl⟩ |
      ⟨rfl, rfl⟩ := hm <;> exact State.refuses_of_serving hs rfl (by simp only [hb])
  · simp only [List.mem_cons, Prod.mk.injEq, List.not_mem_nil, or_false] at hm
    obtain ⟨rfl, rfl⟩ | ⟨rfl, rfl⟩ | ⟨rfl, rfl⟩ | ⟨rfl, rfl⟩ := hm <;>
      exact State.refuses_of_serving hs rfl (if_pos hb)
  · have key (f) : (Host.Outcome.next (s.serveAmend l item f) : Result) = .next (s.refuse l .badField) :=
      congrArg _ (State.serveAmend_of_unfit hs hb hi f)
    simp only [List.mem_cons, Prod.mk.injEq, List.not_mem_nil, or_false] at hm
    obtain ⟨rfl, rfl⟩ | ⟨rfl, rfl⟩ | ⟨rfl, rfl⟩ | ⟨rfl, rfl⟩ | ⟨rfl, rfl⟩ | ⟨rfl, rfl⟩ |
      ⟨rfl, rfl⟩ := hm <;> exact State.refuses_of_refuse hs.request (key _)
  · have key (f) : (Host.Outcome.next (s.serveAmend l item f) : Result) = .next s :=
      congrArg _ (State.serveAmend_of_other hs ho hne f)
    simp only [List.mem_cons, Prod.mk.injEq, List.not_mem_nil, or_false] at hm
    obtain ⟨rfl, rfl⟩ | ⟨rfl, rfl⟩ | ⟨rfl, rfl⟩ | ⟨rfl, rfl⟩ | ⟨rfl, rfl⟩ | ⟨rfl, rfl⟩ |
      ⟨rfl, rfl⟩ := hm <;> exact key _
  · simp only [List.mem_cons, List.not_mem_nil, or_false] at hm
    obtain rfl | rfl := hm <;> exact State.refuses_of_serving hs rfl (by simp only [hb])

end Sys2Proof.Machine
end

section
/-! SUPPORT. What LOOKUP and FIND read: the work that waits, and the scan of the shelf. -/

namespace Sys2Proof.Machine

variable {s u : State}

/-! ### The work that waits (log 37) -/

/-- No work waits when no engine has to ask for banks and none has to submit. -/
theorem State.ownWork_eq_none_iff : s.ownWork = none ↔ s.bankAsker = none ∧ s.submitter = none := by
  unfold State.ownWork
  cases hb : s.bankAsker with
  | some e => simp
  | none =>
    cases hs : s.submitter with
    | none => simp
    | some e =>
      have hsub : (s.engine e).submission.isSome = true :=
        List.find?_some (p := fun e => (s.engine e).submission.isSome) hs
      obtain ⟨p, hp⟩ := Option.isSome_iff_exists.mp hsub
      simp [hp]

/-- The work that waits is that of the engines, in the order of the reservations held. -/
theorem State.ownWork_none_of (h : s.ownWork = none) (he : u.engines = s.engines)
    (hf : u.feed.reservations = s.feed.reservations) : u.ownWork = none := by
  have hen (e : EngineIx) : u.engine e = s.engine e := congrArg (·.get e) he
  rw [State.ownWork_eq_none_iff] at h ⊢
  have hask : u.asksBanks = s.asksBanks := funext fun e => by simp only [State.asksBanks, hen]
  simpa only [State.bankAsker, State.submitter, hen, hask, hf] using h

/-- An engine that is not FREE holds the record of its working copy. -/
theorem State.holds_of_copy {e : EngineIx} {c : WorkingCopy} (hc : (s.engine e).copy = some c)
    (hp : (s.engine e).phase ≠ .free) : s.holds e c.handle = true := by
  simp [State.holds, hc, hp]

/-! ### The scan of FIND (R57) -/

/-- R57: a masked test passes when it passes at each position that both lists have and the mask names. -/
theorem maskedAll_iff {p : Byte → Byte → Bool} {mask : Nat} (as bs : List Byte) (pos : Nat) :
    maskedAll p mask pos as bs = true ↔ ∀ k a b, as[k]? = some a → bs[k]? = some b →
      mask.testBit (pos + k) = true → p a b = true := by
  induction as generalizing pos bs with
  | nil => simp [maskedAll]
  | cons a as ih =>
    cases bs with
    | nil => simp [maskedAll]
    | cons b bs =>
      simp only [maskedAll, Bool.and_eq_true, Bool.or_eq_true, Bool.not_eq_true', ih]
      constructor
      · rintro ⟨h₀, h⟩ k x y hx hy hm
        cases k with
        | zero =>
          obtain rfl := Option.some.inj hx
          obtain rfl := Option.some.inj hy
          exact h₀.resolve_left (by simpa using hm)
        | succ k => exact h k x y hx hy (by rwa [Nat.add_right_comm, Nat.add_assoc])
      · intro h
        refine ⟨?_, fun k x y hx hy hm => h (k + 1) x y hx hy (by rwa [Nat.add_right_comm] at hm)⟩
        cases hm : mask.testBit pos with
        | false => exact .inl rfl
        | true => exact .inr (h 0 a b rfl rfl hm)

theorem takeBytes_length {n : Nat} {bs as rest : List Byte} (h : takeBytes n bs = some (as, rest)) :
    as.length = n := by
  induction n generalizing bs as with
  | zero => cases h; rfl
  | succ n ih =>
    cases bs with
    | nil => cases h
    | cons b bs =>
      obtain ⟨⟨as', rest'⟩, h', he⟩ := Option.map_eq_some_iff.mp h
      cases he
      exact congrArg (· + 1) (ih h')

/-- R202: the pattern of FIND has twelve characters. -/
theorem readFindBody_pattern {body : List Byte} {f : FindBody} (h : readAll readFindBody body = some f) :
    f.pattern.length = 12 := by
  unfold readAll at h
  split at h
  next x hx =>
    cases h
    simp only [readFindBody, Option.bind_eq_bind, Option.bind_eq_some_iff] at hx
    obtain ⟨⟨pattern, bs⟩, hp, ⟨mask, bs⟩, -, ⟨filter, bs⟩, -, ⟨start, bs⟩, -, hx⟩ := hx
    dsimp only at hx
    split at hx
    · cases hx
      exact takeBytes_length hp
    · cases hx
  · cases h

/-- R57: a record is hit when its serial agrees at every masked position and its state is in the filter. -/
theorem FindBody.hits_iff {f : FindBody} (hf : f.pattern.length = 12) (r : ShelfRecord) :
    f.hits r = true ↔ f.filter.testBit r.state.code = true ∧
      ∀ p, p < 12 → f.mask.testBit p = true → p < r.serial.length → f.pattern[p]? = r.serial[p]? := by
  simp only [FindBody.hits, Bool.and_eq_true, maskedAll_iff, decide_eq_true_eq, Nat.zero_add]
  rw [and_comm]
  refine and_congr_right fun _ => ⟨fun h p hp hm hl => ?_, fun h k a b ha hb hm => ?_⟩
  · rw [List.getElem?_eq_getElem (hf ▸ hp), List.getElem?_eq_getElem hl]
    exact congrArg some (h p _ _ (List.getElem?_eq_getElem (hf ▸ hp)) (List.getElem?_eq_getElem hl) hm)
  · have hk : k < 12 := hf ▸ (List.getElem?_eq_some_iff.mp ha).1
    have := h k hk hm (List.getElem?_eq_some_iff.mp hb).1
    rw [ha, hb] at this
    exact Option.some.inj this

/-- R57: the scan of slot `i` hits its record. -/
def State.Finds (s : State) (f : FindBody) (i : SlotIx) (r : ShelfRecord) : Prop :=
  (f.start ≤ i.val ∧ i.val < s.straps.table) ∧ s.record i = some r ∧ f.hits r = true

/-- R57: what the scan makes of slot `i`. -/
def State.scan (s : State) (f : FindBody) (i : SlotIx) : Option (SlotIx × ShelfRecord) :=
  if f.start ≤ i.val && i.val < s.straps.table then
    match s.record i with
    | some r => if f.hits r then some (i, r) else none
    | none => none
  else none

theorem State.findSlot_eq_scan (f : FindBody) : s.findSlot f = Fin.findSome? (s.scan f) := by
  rw [Fin.findSome?_eq_findSome?_finRange]
  rfl

theorem State.scan_eq_some_iff {f : FindBody} {i : SlotIx} {x : SlotIx × ShelfRecord} :
    s.scan f i = some x ↔ s.Finds f i x.2 ∧ x.1 = i := by
  obtain ⟨j, r⟩ := x
  unfold State.scan State.Finds
  split
  next hin =>
    simp only [Bool.and_eq_true, decide_eq_true_eq] at hin
    cases hr : s.record i with
    | none => simp
    | some r' =>
      by_cases hh : f.hits r' = true
      · simp only [hh, if_true, Option.some.injEq, Prod.mk.injEq, hin, and_self, true_and]
        exact ⟨fun ⟨hi, hr⟩ => ⟨⟨hr, hr ▸ hh⟩, hi.symm⟩, fun ⟨⟨hr, _⟩, hi⟩ => ⟨hi.symm, hr⟩⟩
      · simp only [hh, Bool.false_eq_true, if_false, reduceCtorEq, false_iff, Option.some.injEq]
        rintro ⟨⟨-, rfl, hk⟩, -⟩
        exact hh hk
  next hin =>
    simp only [Bool.and_eq_true, decide_eq_true_eq] at hin
    simp [hin]

/-- R57: the scan finds the lowest slot that it hits. -/
theorem State.findSlot_of_first {f : FindBody} {i : SlotIx} {r : ShelfRecord} (hi : s.Finds f i r)
    (hlow : ∀ j, j < i → ∀ r', ¬s.Finds f j r') : s.findSlot f = some (i, r) := by
  rw [State.findSlot_eq_scan, Fin.findSome?_eq_some_iff]
  refine ⟨i, State.scan_eq_some_iff.mpr ⟨hi, rfl⟩, fun j hj => ?_⟩
  rw [Option.eq_none_iff_forall_ne_some]
  exact fun x hx => hlow j hj x.2 (State.scan_eq_some_iff.mp hx).1

theorem State.findSlot_of_none {f : FindBody} (hn : ∀ i r, ¬s.Finds f i r) : s.findSlot f = none := by
  rw [State.findSlot_eq_scan, Fin.findSome?_eq_none_iff]
  intro i
  rw [Option.eq_none_iff_forall_ne_some]
  exact fun x hx => hn i x.2 (State.scan_eq_some_iff.mp hx).1

end Sys2Proof.Machine
end

section
/-! LOOKUP, EXTRACT, FIND, TAKE and RELEASE. -/

namespace Sys2Proof.Machine

variable {s : State} {l : Link} {q : Request} {h : Handle} {i : SlotIx} {r : ShelfRecord}

/-- An answer given in the state as it stands changes the links alone. -/
theorem State.answers_unchanged (hq : (s.link l).request = some q) (c : Code) (body : List Byte) :
    s.Answers (s.answer l c body) l q c body ∧ s.answer l c body =
      { s with execLink := (s.answer l c body).execLink,
               consoleLink := (s.answer l c body).consoleLink } :=
  ⟨State.answer_answers (fun _ => rfl) rfl hq c body, s.answer_frame ..⟩

/-! ### LOOKUP -/

/-- R52: a LOOKUP of a record that is not RUNNING is answered from the record. -/
theorem execLookup_of_stored (hs : s.Serving l .lookup q)
    (hb : readAll readHandle q.body = some h) (hr : s.Resolves h i r) (ht : q.tier ≤ 3)
    (hrun : r.state ≠ .running) :
    exec (.lookup l) s = .next (s.answer l .ok (s.lookupBody i r none)) := by
  have hv : s.validate h true q.tier State.anyTier = (s, .pass (i, r)) := hr.validate (by simp) ht
  refine (State.exec_of_serving hs rfl).trans (congrArg Host.Outcome.next ?_)
  simp only [hb, hv]
  split
  · exact absurd ‹r.state = .running› hrun
  · rfl

/-- R53: a LOOKUP of a RUNNING record waits, and the engine is asked for an extract. -/
theorem execLookup_of_running {e : EngineIx} (hs : s.Serving l .lookup q)
    (hb : readAll readHandle q.body = some h) (hr : s.Resolves h i r) (ht : q.tier ≤ 3)
    (hrun : r.state = .running) (he : r.engaged = some e) :
    exec (.lookup l) s =
      .next ((s.waitLookup l q ⟨e, s.handleOf i⟩).settled.requestExtract e (s.handleOf i) l) := by
  have hv : s.validate h true q.tier State.anyTier = (s, .pass (i, r)) := hr.validate (by simp) ht
  refine (State.exec_of_serving hs rfl).trans (congrArg Host.Outcome.next ?_)
  simp only [hb, hv, hrun, he]

/-- Settles O17: a record that is not RUNNING is reported as it stands. -/
theorem lookupReportsTheRecord : Obligations.LookupReportsTheRecord := by
  intro l s q h i r hs hb hr ht hrun
  have he := execLookup_of_stored hs hb hr ht hrun
  obtain ⟨-, rfl, -⟩ := hr
  exact ⟨_, he, State.answers_unchanged hs.request ..⟩

/-- R53: a request that waits changes the links alone. -/
theorem State.waitLookup_frame (s : State) (l : Link) (q : Request) (w : Waiting) :
    s.waitLookup l q w = { s with execLink := (s.waitLookup l q w).execLink,
                                  consoleLink := (s.waitLookup l q w).consoleLink } := by
  cases l <;> rfl

theorem State.link_send (s : State) (e : EngineIx) (m : Message) (l : Link) :
    (s.send e m).link l = s.link l := by cases l <;> rfl

/-- R53: an engine that holds the record returns an extract. -/
theorem State.requestExtract_of_held {e : EngineIx} {c : WorkingCopy} (hc : (s.engine e).copy = some c)
    (hp : (s.engine e).phase ≠ .free) (l : Link) : s.requestExtract e c.handle l =
      s.send e (.extract c.handle l (s.extractOf e c)) := by
  simp only [State.requestExtract, hc, State.holds_of_copy hc hp, if_true]

/-- Settles O18: with no work waiting the extract is formed in the state as it stands. -/
theorem lookupOfARunningRecordWaits : Obligations.LookupOfARunningRecordWaits := by
  intro l s q h i r e c hs hb hr ht hrun hen hc hh hp hw
  have he := execLookup_of_running hs hb hr ht hrun hen
  obtain ⟨-, rfl, -⟩ := hr
  let w := s.waitLookup l q ⟨e, s.handleOf i⟩
  have hf : w = _ := s.waitLookup_frame l q ⟨e, s.handleOf i⟩
  have hset : w.settled = w := State.settled_of_ownWork <|
    State.ownWork_none_of hw (s.setLink_engines ..) (congrArg Feed.reservations (s.setLink_feed ..))
  have hwe : w.engine e = s.engine e := congrArg (·.get e) (s.setLink_engines ..)
  have hout : w.outbox = s.outbox := s.setLink_outbox ..
  have hask : w.requestExtract e (s.handleOf i) l =
      w.send e (.extract (s.handleOf i) l (w.extractOf e c)) := by
    rw [← hh]
    exact State.requestExtract_of_held (by rw [hwe]; exact hc) (by rw [hwe]; exact hp) l
  have hlink (k : Link) : (w.send e (.extract (s.handleOf i) l (w.extractOf e c))).link k = w.link k :=
    State.link_send ..
  have hwl : w.link l = { s.link l with request := some { q with waiting := some ⟨e, s.handleOf i⟩ } } :=
    s.link_setLink_same l _
  have hx : w.extractOf e c = s.extractOf e c := by rw [hf]; rfl
  refine ⟨_, s.extractOf e c, he.trans (by rw [hset, hask]), ?_, ?_, ?_, ?_, ?_, fun f hfe => ?_,
    rfl, rfl, rfl, rfl, rfl, ?_, rfl, rfl, rfl, ?_⟩
  · rw [hlink, hwl]
  · rw [hlink, hwl]
  · rw [hlink, hwl]
  · rw [hlink]; exact s.link_setLink_other l _
  · rw [State.outbox_send, if_pos rfl, hx, hout]
  · rw [State.outbox_send, if_neg hfe, hout]
  · simp [State.extractOf]
  · rw [hf]; rfl

/-! ### EXTRACT -/

/-- R54: an extract is taken from the messages of its engine and served. -/
theorem execExtract_eq {e : EngineIx} {x : Extract} {rest : List Message} (hh : s.held = false)
    (hm : s.outbox.get e = .extract h l x :: rest) :
    exec (.extract e) s = .next ((s.popped e rest).serveExtract e h l x) := by
  show execExtract e s = _
  unfold execExtract
  rw [State.live_of_released hh, ← State.popMessage_eq hm]
  simp only [hm, List.head?_cons]

/-- R54: an extract changes the links alone. -/
theorem State.serveExtract_frame (s : State) (e : EngineIx) (h : Handle) (l : Link) (x : Extract) :
    s.serveExtract e h l x = { s with execLink := (s.serveExtract e h l x).execLink,
                                      consoleLink := (s.serveExtract e h l x).consoleLink } := by
  unfold State.serveExtract
  split
  · split
    · exact s.answer_frame ..
    · rfl
  · rfl

/-- R54: an extract completes the LOOKUP that waits for it. -/
theorem State.serveExtract_of_waiting {e : EngineIx} {x : Extract} (hq : (s.link l).request = some q)
    (hw : q.waiting = some ⟨e, h⟩) (hr : s.record h.index = some r) :
    s.serveExtract e h l x = s.answer l .ok (s.lookupBody h.index r (some x)) := by
  simp [State.serveExtract, hq, hw, hr]

/-- R54: with no LOOKUP waiting the extract is dropped. -/
theorem State.serveExtract_of_dropped {e : EngineIx} {x : Extract}
    (hn : ∀ q, (s.link l).request = some q → q.waiting ≠ some ⟨e, h⟩) :
    s.serveExtract e h l x = s := by
  refine if_neg fun k => ?_
  obtain ⟨q, hq, hw⟩ := Option.bind_eq_some_iff.mp k
  exact hn q hq hw

/-- Settles O19: an extract is served in the state from which its message has gone. -/
theorem extractCompletesTheLookup : Obligations.ExtractCompletesTheLookup := by
  intro s e h l x rest hh hm
  let p := s.popped e rest
  have hf : p.serveExtract e h l x = _ := p.serveExtract_frame e h l x
  have hlink (k : Link) : p.link k = s.link k := by cases k <;> rfl
  refine ⟨_, execExtract_eq hh hm, ?_, fun f hfe => ?_, ?_, fun q r hq hw hhi hr => ?_, fun hn => ?_⟩
  · rw [hf]; exact Tab.get_put_same ..
  · rw [hf]; exact Tab.get_put_ne _ _ hfe
  · rw [hf]; rfl
  · have hq' : (p.link l).request = some q := by rw [hlink]; exact hq
    have hr' : p.record h.index = some r := hr
    have hserve : p.serveExtract e h l x = _ := State.serveExtract_of_waiting hq' hw hr'
    have hbody : p.lookupBody h.index r (some x) = h.bytes ++ [flagByte (r.state = .doubtful)] ++ r.bytes
        ++ [r.code] ++ 0x01#8 :: x.bytes := congrArg (fun k : Handle => k.bytes ++ _ ++ _ ++ _ ++ _) hhi.symm
    rw [hserve, hbody]
    exact State.answer_answers hlink rfl hq ..
  · have hserve : p.serveExtract e h l x = p :=
      State.serveExtract_of_dropped fun q hq => hn q (by rw [← hlink]; exact hq)
    rw [hserve]
    exact ⟨rfl, rfl⟩

/-! ### FIND -/

/-- Settles O21: the scan of `State.findSlot` hits what the statement names, lowest slot first. -/
theorem findScansUpward : Obligations.FindScansUpward := by
  intro l s q f hs hb hit
  have hhit (i : SlotIx) : hit i ↔ ∃ r, s.Finds f i r := by
    simp only [hit, State.Finds, FindBody.hits_iff (readFindBody_pattern hb)]
    exact ⟨fun ⟨h₁, h₂, r, h₃⟩ => ⟨r, ⟨h₁, h₂⟩, h₃⟩, fun ⟨r, ⟨h₁, h₂⟩, h₃⟩ => ⟨h₁, h₂, r, h₃⟩⟩
  have found (i : SlotIx) (r : ShelfRecord) (hf : s.findSlot f = some (i, r)) : exec (.find l) s =
      .next (s.answer l .ok (flagByte true :: ((s.handleOf i).bytes ++ [byteOf r.state.code]))) := by
    refine (State.exec_of_serving hs rfl).trans (congrArg Host.Outcome.next ?_)
    simp only [hb, hf]
  refine ⟨fun i r hr hi hlow => ?_, fun hn => ?_⟩
  · obtain ⟨r', hf⟩ := (hhit i).mp hi
    obtain rfl := Option.some.inj (hr.symm.trans hf.2.1)
    exact ⟨_, found i r (State.findSlot_of_first hf fun j hj r' hj' => hlow j hj ((hhit j).mpr ⟨r', hj'⟩)),
      State.answers_unchanged hs.request ..⟩
  · have hf : s.findSlot f = none := State.findSlot_of_none fun i r hi => hn i ((hhit i).mpr ⟨r, hi⟩)
    have he : exec (.find l) s = .next (s.answer l .ok [flagByte false]) := by
      refine (State.exec_of_serving hs rfl).trans (congrArg Host.Outcome.next ?_)
      simp only [hb, hf]
    exact ⟨_, he, State.answers_unchanged hs.request ..⟩

/-! ### TAKE -/

/-- Settles O31: the head leaves the list and is answered with its record as it stands. -/
theorem takeRemovesTheHead : Obligations.TakeRemovesTheHead := by
  intro l s q hs hb
  refine ⟨fun ha => ?_, fun x xs r ha hx hr => ?_⟩
  · have he : exec (.take l) s = .next (s.answer l .ok [flagByte false]) := by
      refine (State.exec_of_serving hs rfl).trans (congrArg Host.Outcome.next ?_)
      simp only [hb, ha, ne_eq, not_true_eq_false, if_false]
    exact ⟨_, he, State.answers_unchanged hs.request ..⟩
  · let u : State := { s with store := { s.store with attention := xs } }
    have hbody : u.takeBody x =
        flagByte true :: (x.handle.bytes ++ [byteOf r.state.code, x.reasons.byte, byteOf r.cursor]) := by
      have hr : u.record x.handle.index = some r := hr
      simp only [State.takeBody, hr]
    have he : exec (.take l) s = .next (u.answer l .ok (u.takeBody x)) := by
      refine (State.exec_of_serving hs rfl).trans (congrArg Host.Outcome.next ?_)
      simp only [hb, ha, ne_eq, not_true_eq_false, if_false, u]
    rw [hbody] at he
    refine ⟨_, he, by rw [State.answer_store],
      State.answer_answers (u := u) (fun k => by cases k <;> rfl) rfl hs.request .., ?_⟩
    exact (u.answer_frame ..).trans rfl

end Sys2Proof.Machine
end

section
/-! SUPPORT. The model that a record request carries or reads, and the lists of module entries. -/

namespace Sys2Proof.Machine

variable {s u : State} {l : Link} {q : Request} {c : Instr} {k : Handle} {m : ModelIx} {x : Model}

/-! ### The model read by ADMIT, AMEND of the model handle, START and RESUME -/

/-- R44, R46: a command that refuses with MODEL_NOT_ACTIVE when its read leaves the model in another state. -/
theorem State.needsActive_of_read (hq : (s.link l).request = some q) (hx : s.model m = some x)
    (he : ∀ y, (s.readModel m).model m = some y → y.state ≠ .active →
      exec c s = .next ((s.readModel m).refuse l .modelNotActive)) : s.NeedsActive c l q m x := by
  have unread (hr : s.readModel m = s) (hst : x.state ≠ .active) : s.Refuses c l q .modelNotActive := by
    rw [hr] at he
    exact State.refuses_of_refuse hq (he x hx hst)
  refine ⟨fun hi => unread (State.readModel_of_intact hx hi), fun hi hst hn => unread ?_ (by simp [hst]),
    fun hi hst => ?_⟩
  · rw [State.readModel_of_damaged hx hi]
    exact State.doubtModel_of_known hx
      (State.modelAlreadyDoubtful_iff.mpr ⟨hst, fun i r hr hrq hm => hn i r hr hm hrq⟩)
  · have hd : s.modelAlreadyDoubtful m x = false := by simp [State.modelAlreadyDoubtful, hst]
    have hmodel := congrArg ModelSlot.model ((State.modelSlot_doubtModel hx hd m).trans (if_pos rfl))
    rw [State.readModel_of_damaged hx hi] at he
    refine ⟨_, he _ hmodel (by simp), ?_, (State.doubtModel_doubted hx hd).of_tables ?_ ?_⟩
    · exact State.answer_answers (s.doubtModel_link m) (s.doubtModel_now m) hq ..
    · rw [State.refuse, State.answer_store]
    · rw [State.refuse, State.answer_models]

/-! ### Carried model handles (R19) -/

theorem State.carriedModel_of_unresolved {o : Code} (h : s.resolveModel k = .fail o) :
    s.carriedModel k = (s, .fail o) := by
  simp only [State.carriedModel, h]

theorem State.resolveModel_modelHandleOf (hx : s.model m = some x) :
    s.resolveModel (s.modelHandleOf m) = .pass m := by
  have ht : (s.modelHandleOf m).table = .model := rfl
  have hg : (s.modelHandleOf m).gen = (s.modelSlot m).gen := rfl
  simp [State.resolveModel, Handle.not_null_of_model ht, ht, hg, hx]

/-- R19: a carried handle of an in-use model whose read leaves it in another state than ACTIVE. -/
theorem State.carriedModel_of_inactive {y : Model} (hx : s.model m = some x)
    (hy : (s.readModel m).model m = some y) (hst : y.state ≠ .active) :
    s.carriedModel (s.modelHandleOf m) = (s.readModel m, .fail .modelNotActive) := by
  simp only [State.carriedModel, State.resolveModel_modelHandleOf hx, hy, hst, if_false]

/-- R19: a carried handle of an ACTIVE model that matches its code. -/
theorem State.ResolvesModel.carriedModel (hm : s.ResolvesModel k m x) (hst : x.state = .active) :
    s.carriedModel k = (s, .pass (m, x)) := by
  obtain ⟨rfl, hx, hi⟩ := hm
  simp only [State.carriedModel, State.resolveModel_modelHandleOf hx, State.readModel_of_intact hx hi, hx,
    hst, if_true]

/-- R19: the command refuses the pending request with the outcome of the check that the carried model handle
fails. -/
structure State.Carries (s : State) (l : Link) (q : Request) (k : Handle) (c : Instr) : Prop where
  request : (s.link l).request = some q
  fails : ∀ {t o}, s.carriedModel k = (t, .fail o) → exec c s = .next (t.refuse l o)

theorem State.Carries.refuses {o : Code} (hc : s.Carries l q k c) (h : s.resolveModel k = .fail o) :
    s.Refuses c l q o :=
  State.refuses_of_refuse hc.request (hc.fails (State.carriedModel_of_unresolved h))

/-- R19: checks 1 to 5 of the carried handle. -/
theorem State.Carries.needsModel (hc : s.Carries l q k c) : s.NeedsModel c l q k := by
  refine ⟨fun hk => hc.refuses (if_pos hk), fun hk ht => hc.refuses ?_, fun ht hi => hc.refuses ?_,
    fun m ht hm => ⟨fun hx hg => hc.refuses ?_, fun hg => hc.refuses ?_⟩⟩
  · simp [State.resolveModel, hk, ht]
  · have hlt : ¬k.index.val < Config.modelLimit := hi.not_gt
    simp [State.resolveModel, Handle.not_null_of_model ht, ht, Handle.modelIx, hlt]
  · simp [State.resolveModel, Handle.not_null_of_model ht, ht, Handle.modelIx_of_val hm, hx, hg]
  · simp [State.resolveModel, Handle.not_null_of_model ht, ht, Handle.modelIx_of_val hm, hg]

/-- R44: the model that the carried handle names has to be ACTIVE. -/
theorem State.Carries.needsActive (hc : s.Carries l q k c) (hk : k = s.modelHandleOf m)
    (hx : s.model m = some x) : s.NeedsActive c l q m x := by
  subst hk
  exact State.needsActive_of_read hc.request hx fun y hy hst =>
    hc.fails (State.carriedModel_of_inactive hx hy hst)

/-! ### Module lists in slot order (R7) -/

/-- R7: an entry is ranked by its slot. -/
def ModuleEntry.before (m n : ModuleEntry) : Bool := m.slot < n.slot

theorem insertModule_eq_insertRanked (m : ModuleEntry) (l : List ModuleEntry) :
    insertModule m l = insertRanked ModuleEntry.before m l := by
  induction l with
  | nil => rfl
  | cons x xs ih => simp [insertModule, insertRanked, ModuleEntry.before, ih]

theorem insertModule_perm (m : ModuleEntry) (l : List ModuleEntry) : (insertModule m l).Perm (m :: l) :=
  insertModule_eq_insertRanked m l ▸ insertRanked_perm _ m l

/-- Entries in slot order, a slot allowed twice. -/
abbrev SlotsAscend (l : List ModuleEntry) : Prop := l.Pairwise fun a b => ModuleEntry.before b a = false

theorem insertModule_ascend (m : ModuleEntry) {l : List ModuleEntry} (h : SlotsAscend l) :
    SlotsAscend (insertModule m l) := by
  rw [insertModule_eq_insertRanked]
  refine insertRanked_pairwise (fun a b => ?_) (fun a b c => ?_) m h
  · simp only [ModuleEntry.before, decide_eq_true_eq, decide_eq_false_iff_not]; omega
  · simp only [ModuleEntry.before, decide_eq_false_iff_not]; omega

/-- Entries in slot order with no slot twice ascend strictly. -/
theorem SlotsAscend.strict {l : List ModuleEntry} (h : SlotsAscend l) (hn : (l.map (·.slot)).Nodup) :
    l.Pairwise fun a b => a.slot < b.slot := by
  refine (h.and (List.pairwise_map.mp hn)).imp fun {a b} ⟨hle, hne⟩ => ?_
  simp only [ModuleEntry.before, decide_eq_false_iff_not] at hle
  omega

theorem foldl_insertModule (l acc : List ModuleEntry) (h : SlotsAscend acc) :
    (l.foldl (fun acc m => insertModule m acc) acc).Perm (l ++ acc) ∧
      SlotsAscend (l.foldl (fun acc m => insertModule m acc) acc) := by
  induction l generalizing acc with
  | nil => exact ⟨List.Perm.refl _, h⟩
  | cons m l ih =>
    obtain ⟨hp, ha⟩ := ih _ (insertModule_ascend m h)
    exact ⟨hp.trans (((insertModule_perm m acc).append_left l).trans List.perm_middle), ha⟩

/-- R51: the entries given, in ascending slot order. -/
theorem sortModules_spec {l : List ModuleEntry} (hn : (l.map (·.slot)).Nodup) :
    (sortModules l).Perm l ∧ (sortModules l).Pairwise fun a b => a.slot < b.slot := by
  obtain ⟨hp, ha⟩ := foldl_insertModule l [] List.Pairwise.nil
  have hp : (sortModules l).Perm l := hp.trans (by rw [List.append_nil])
  exact ⟨hp, SlotsAscend.strict ha ((hp.map _).nodup_iff.mpr hn)⟩

/-- R50: two entries carry one slot. -/
theorem hasDuplicateSlot_iff (l : List ModuleEntry) :
    hasDuplicateSlot l = true ↔ ¬(l.map (·.slot)).Nodup := by
  induction l with
  | nil => simp [hasDuplicateSlot]
  | cons m ms ih =>
    simp only [hasDuplicateSlot, Bool.or_eq_true, ih, List.any_eq_true, decide_eq_true_eq,
      List.map_cons, List.nodup_cons, List.mem_map, not_and_or, not_not]

end Sys2Proof.Machine
end

section
/-! ADMIT and RELEASE. -/

namespace Sys2Proof.Machine

variable {s u : State} {l : Link} {q : Request} {b : AdmitBody} {m : ModelIx} {x : Model} {i : SlotIx}

/-! ### ADMIT -/

theorem State.freeSlot_eq_some_iff : s.freeSlot = some i ↔
    (i.val < s.straps.table ∧ s.record i = none) ∧
      ∀ j, j < i → j.val < s.straps.table → s.record j ≠ none := by
  rw [State.freeSlot, ← Fin.find?_eq_find?_finRange, Fin.find?_eq_some_iff]
  simp only [Bool.and_eq_true, decide_eq_true_eq, Option.isNone_iff_eq_none, Bool.and_eq_false_imp,
    Option.isNone_eq_false_iff, Option.isSome_iff_ne_none]

theorem State.freeSlot_eq_none_iff :
    s.freeSlot = none ↔ ∀ j : SlotIx, j.val < s.straps.table → s.record j ≠ none := by
  rw [State.freeSlot, ← Fin.find?_eq_find?_finRange, Fin.find?_eq_none_iff]
  simp only [decide_eq_true_eq, Bool.and_eq_false_imp, Option.isNone_eq_false_iff,
    Option.isSome_iff_ne_none]

/-- R4: an in-use record carries the serial. -/
theorem State.serialTaken_iff {serial : List Byte} :
    s.serialTaken serial = true ↔ ∃ j r, s.record j = some r ∧ r.serial = serial := by
  simp [State.serialTaken]

/-- R51: the record and the count that ADMIT writes. -/
def State.admitted (s : State) (tier : Nat) (b : AdmitBody) (m : ModelIx) (x : Model) (i : SlotIx) : State :=
  (s.writeRecord i (b.record tier)).writeModel m { x with refCount := x.refCount + 1 }

theorem execAdmit_of_fit (hs : s.Serving l .admitShelf q)
    (hb : readAll readAdmitBody q.body = some b) :
    exec (.admitShelf l) s = .next (admitWith l q.tier b s) := by
  refine (State.exec_of_serving hs rfl).trans (congrArg Host.Outcome.next ?_)
  simp only [hb]

/-- R50: the checks of ADMIT behind those of the model. -/
theorem admitWith_of_active (hr : b.inRange = true) (hm : s.ResolvesModel b.model m x)
    (hst : x.state = .active) (tier : Nat) : admitWith l tier b s =
      if x.params.mRated.getD 0 < b.modules.length then s.refuse l .badField
      else if hasDuplicateSlot b.modules then s.refuse l .duplicate
      else if s.serialTaken b.serial then s.refuse l .duplicate
      else s.freeSlot.elim (s.refuse l .tableFull) fun i =>
        if 2 < tier then s.refuse l .guarded
        else (s.admitted tier b m x i).answer l .ok
          (((s.admitted tier b m x i).handleOf i).bytes ++ [byteOf (max b.guardLevel tier)]) := by
  unfold admitWith
  rw [if_neg (by simp [hr]), hm.carriedModel hst]
  dsimp only
  cases s.freeSlot <;> rfl

/-- R50 check 2: ADMIT refuses with the check that the carried model handle fails. -/
theorem State.carries_of_admit (hs : s.Serving l .admitShelf q)
    (hb : readAll readAdmitBody q.body = some b) (hr : b.inRange = true) :
    s.Carries l q b.model (.admitShelf l) := by
  refine ⟨hs.request, fun {t o} hc => (execAdmit_of_fit hs hb).trans (congrArg _ ?_)⟩
  unfold admitWith
  rw [if_neg (by simp [hr]), hc]

/-- Settles O16: the checks of `admitWith` in their order, and the two tables it writes. -/
theorem admitFillsTheLowestFreeSlot : Obligations.AdmitFillsTheLowestFreeSlot := by
  refine ⟨fun l s q b m x i hs hb hr hm hst hlen hnd hser hi hfree hlow ht => ?_, ?_⟩
  · have he := execAdmit_of_fit hs hb
    have hserial : ¬s.serialTaken b.serial = true := by
      rw [State.serialTaken_iff]
      exact fun ⟨j, r, hj, hk⟩ => hser j r hj hk
    rw [admitWith_of_active hr hm hst, if_neg hlen.not_gt,
      if_neg (by rw [hasDuplicateSlot_iff]; exact not_not.mpr hnd), if_neg hserial,
      State.freeSlot_eq_some_iff.mpr ⟨⟨hi, hfree⟩, fun j hj _ => hlow j hj⟩, Option.elim_some,
      if_neg ht.not_gt] at he
    obtain ⟨hperm, hsorted⟩ := sortModules_spec hnd
    have hslot (j : SlotIx) : (s.admitted q.tier b m x i).slot j =
        if j = i then ⟨(s.slot i).gen, some (b.record q.tier).seal⟩ else s.slot j :=
      s.slot_writeRecord i j _
    have hmodel (n : ModelIx) : (s.admitted q.tier b m x i).modelSlot n = if n = m then
        ⟨(s.modelSlot m).gen, some { x with refCount := x.refCount + 1 : Model }.seal⟩
        else s.modelSlot n := (s.writeRecord i (b.record q.tier)).modelSlot_writeModel m n _
    have hhandle : (s.admitted q.tier b m x i).handleOf i = s.handleOf i := s.writeRecord_handleOf ..
    rw [hhandle] at he
    have hts {k j} : State.slot ((s.admitted q.tier b m x i).answer l .ok k) j =
        (s.admitted q.tier b m x i).slot j := by rw [State.slot, State.answer_store]; rfl
    have htm {k n} : State.modelSlot ((s.admitted q.tier b m x i).answer l .ok k) n =
        (s.admitted q.tier b m x i).modelSlot n := by rw [State.modelSlot, State.answer_models]; rfl
    refine ⟨_, (b.record q.tier).seal, { x with refCount := x.refCount + 1 : Model }.seal, he, ?_, rfl, rfl,
      rfl, rfl, rfl, rfl, rfl, rfl, hperm, hsorted, rfl, rfl, rfl, rfl, ShelfRecord.seal_intact _, ?_,
      Model.seal_intact _, Model.seal_eq _, ?_, fun n hn => ?_, fun j hj => ?_, ?_, ?_⟩
    · rw [hts, hslot, if_pos rfl]
    · rw [State.model, htm, hmodel, if_pos rfl]
    · rw [htm, hmodel, if_pos rfl]
    · rw [htm, hmodel, if_neg hn]
    · rw [hts, hslot, if_neg hj]
    · exact State.answer_answers (u := s.admitted q.tier b m x i) (fun k => by cases k <;> rfl) rfl
        hs.request ..
    · rw [State.answer_frame]; rfl
  intro l s q b hs hb refused
  refine ⟨fun hr => ?_, fun hr => ⟨?_, fun m x hk hx => ?_, fun m x hm hst => ?_⟩⟩
  · have he := execAdmit_of_fit hs hb
    rw [admitWith, if_pos (by simp [hr])] at he
    exact State.refuses_of_refuse hs.request he
  · exact (State.carries_of_admit hs hb hr).needsModel
  · exact (State.carries_of_admit hs hb hr).needsActive hk hx
  · have he := execAdmit_of_fit hs hb
    rw [admitWith_of_active hr hm hst] at he
    refine ⟨fun hlen => ?_, fun hlen => ⟨fun hdup => ?_, fun hnd hser => ?_⟩⟩
    · rw [if_pos hlen] at he
      exact State.refuses_of_refuse hs.request he
    · rw [if_neg hlen.not_gt] at he
      have hdup : hasDuplicateSlot b.modules = true ∨ s.serialTaken b.serial = true := by
        rwa [hasDuplicateSlot_iff, State.serialTaken_iff]
      refine State.refuses_of_refuse hs.request (he.trans (congrArg _ ?_))
      split
      · rfl
      next hn => rw [if_pos (hdup.resolve_left hn)]
    · have hserial : ¬s.serialTaken b.serial = true := by
        rw [State.serialTaken_iff]
        exact fun ⟨j, r, hj, hk⟩ => hser j r hj hk
      rw [if_neg hlen.not_gt, if_neg (by rw [hasDuplicateSlot_iff]; exact not_not.mpr hnd),
        if_neg hserial] at he
      refine ⟨fun hfull => ?_, fun ⟨j, hj, hfree⟩ ht => ?_⟩
      · rw [State.freeSlot_eq_none_iff.mpr hfull, Option.elim_none] at he
        exact State.refuses_of_refuse hs.request he
      · cases hf : s.freeSlot with
        | none => exact absurd hfree (State.freeSlot_eq_none_iff.mp hf j hj)
        | some i =>
          rw [hf, Option.elim_some, if_pos ht] at he
          exact State.refuses_of_refuse hs.request he

/-! ### RELEASE -/

section
variable {h : Handle} {r : ShelfRecord}

/-- R69: what RELEASE does once its handle resolves and the tier is allowed. -/
theorem execRelease_of_resolved (hs : s.Serving l .release q)
    (hb : readAll readHandle q.body = some h) (hr : s.Resolves h i r) (ht : q.tier ≤ r.guardLevel) :
    exec (.release l) s = .next (if r.state = .running then s.refuse l .engaged
      else (s.releaseRecord i r).answer l .ok h.bytes) := by
  have hv : s.validate h true q.tier State.guardTier = (s, .pass (i, r)) := hr.validate (by simp) ht
  refine (State.exec_of_serving hs rfl).trans (congrArg Host.Outcome.next ?_)
  simp only [hb, hv]

/-- R69: the record out of the start queue and off the attention list, and its bay free. -/
def State.unlisted (s : State) (i : SlotIx) : State :=
  ((s.leaveQueue i).freeBound (s.handleOf i)).unattend i

/-- R69: the bay and the lists of a record that is released. -/
theorem State.unlisted_spec (s : State) (i : SlotIx) :
    s.unlisted i = { s with
      store := { s.store with
        queue := s.store.queue.filter (· ≠ i)
        attention := s.store.attention.filter (·.handle ≠ s.handleOf i) }
      bays := (s.unlisted i).bays } ∧
    ∀ b, (s.unlisted i).bay b = if (s.bay b).binding = some (s.handleOf i)
      then { s.bay b with binding := none, seatLost := false, rearm := none } else s.bay b := by
  obtain ⟨hf, hb⟩ := (s.leaveQueue i).freeBound_spec (s.handleOf i)
  refine ⟨?_, hb⟩
  unfold State.unlisted State.unattend
  rw [hf]
  rfl

/-- R69, R42: a release of a record that names a model. -/
theorem State.releaseRecord_of_model (hm : r.model = s.modelHandleOf m) (hx : s.model m = some x) :
    s.releaseRecord i r = ((s.unlisted i).writeModel m { x with refCount := x.refCount - 1 }).setSlot i
      ⟨State.nextGen (s.slot i).gen, none⟩ := by
  have hf := (s.unlisted_spec i).1
  have hu : (s.unlisted i).model m = some x := by rw [hf]; exact hx
  have hh : (s.unlisted i).modelHandleOf m = s.modelHandleOf m := by rw [hf]; rfl
  have hdef : s.releaseRecord i r = ((s.unlisted i).adjustRef r.model fun n => n - 1).setSlot i
      ⟨State.nextGen (s.slot i).gen, none⟩ := rfl
  rw [hdef, hm, ← hh, State.adjustRef_of_model _ hu]

/-- R76: a FREE bay has no enable output. -/
theorem State.enableOutput_of_free {y : BayIx} (hy : (s.bay y).binding = none) :
    s.enableOutput y = false := by
  simp [State.enableOutput, State.boundSlot, hy]

/-- Settles O30: the slot, the bay, the lists and the count, each by the operation that writes it. -/
theorem releaseFreesTheSlot : Obligations.ReleaseFreesTheSlot := by
  refine ⟨fun l s q h i r hs hb hr ht hst => ?_, fun l s q h i r m x hs hb hr ht hst hm hx => ?_⟩
  · have he := execRelease_of_resolved hs hb hr ht
    rw [if_pos hst] at he
    exact State.refuses_of_refuse hs.request he
  · have he := execRelease_of_resolved hs hb hr ht
    rw [if_neg hst, State.releaseRecord_of_model hm hx] at he
    obtain ⟨-, rfl, -⟩ := hr
    obtain ⟨hf, hbay⟩ := s.unlisted_spec i
    let y : Model := { x with refCount := x.refCount - 1 }
    let z : ShelfSlot := ⟨State.nextGen (s.slot i).gen, none⟩
    let u : State := ((s.unlisted i).writeModel m y).setSlot i z
    have hu : u = { s with
        store := { s.store with
          slots := s.store.slots.put i z
          queue := s.store.queue.filter (· ≠ i)
          attention := s.store.attention.filter (·.handle ≠ s.handleOf i) }
        models := { s.models with slots := s.models.slots.put m ⟨(s.modelSlot m).gen, some y.seal⟩ }
        bays := (s.unlisted i).bays } := by
      simp only [u, State.writeModel, State.setModelSlot, State.setSlot]
      rw [hf]
      rfl
    let t : State := u.answer l .ok (s.handleOf i).bytes
    have ht : t = { u with execLink := t.execLink, consoleLink := t.consoleLink } := u.answer_frame ..
    have hslot (j : SlotIx) : t.slot j = if j = i then z else s.slot j := by
      rw [ht, hu]; exact Tab.get_put ..
    have hmodel (n : ModelIx) : t.modelSlot n =
        if n = m then ⟨(s.modelSlot m).gen, some y.seal⟩ else s.modelSlot n := by
      rw [ht, hu]; exact Tab.get_put ..
    have htbay (b : BayIx) : t.bay b = (s.unlisted i).bay b := by rw [ht]; rfl
    refine ⟨t, y.seal, he, ?_, ?_, ?_, fun b hb => ?_, fun b hb => ?_, ?_, Model.seal_intact _,
      Model.seal_eq _, fun n hn => ?_, fun j hj => ?_, ?_, ?_⟩
    · rw [hslot, if_pos rfl]; rfl
    · rw [ht, hu]
    · rw [ht, hu]
    · have hfree : t.bay b = { s.bay b with binding := none, seatLost := false, rearm := none } := by
        rw [htbay, hbay, if_pos hb]
      exact ⟨State.enableOutput_of_free (congrArg Bay.binding hfree), hfree⟩
    · rw [htbay, hbay, if_neg hb]
    · rw [State.model, hmodel, if_pos rfl]
    · rw [hmodel, if_neg hn]
    · rw [hslot, if_neg hj]
    · exact State.answer_answers (u := u) (fun k => by rw [hu]; cases k <;> rfl) (by rw [hu]) hs.request ..
    · rw [ht, hu]

end

end Sys2Proof.Machine
end

section
/-! SUPPORT. A record that is written with its place in the start queue, and the state group of an AMEND. -/

namespace Sys2Proof.Machine

variable {s t u : State} {l : Link} {q : Request} {h : Handle} {c : Instr} {i : SlotIx}
  {r r' : ShelfRecord}

/-! ### The start queue (R104) -/

/-- Beside an item that joins, an ordered list stays as it is. -/
theorem insertRanked_filter {α : Type} (before : α → α → Bool) {x : α} {p : α → Bool}
    (hx : p x = false) (l : List α) : (insertRanked before x l).filter p = l.filter p := by
  induction l with
  | nil => simp [insertRanked, hx]
  | cons y ys ih =>
    unfold insertRanked
    split
    · rw [List.filter_cons, hx]; rfl
    · rw [List.filter_cons, List.filter_cons, ih]

/-- R84, R104: the record of slot `i` is written and takes its place in the start queue. -/
def State.enqueued (s : State) (i : SlotIx) (r' : ShelfRecord) : State :=
  (s.writeRecord i r').joinQueue i

/-- R104: the start queue after a record has taken its place. -/
theorem State.enqueued_queue (s : State) (i : SlotIx) (r' : ShelfRecord) :
    i ∈ (s.enqueued i r').store.queue ∧
      (s.enqueued i r').store.queue.filter (· ≠ i) = s.store.queue.filter (· ≠ i) ∧
      (s.QueueOrdered → (s.enqueued i r').QueueOrdered) := by
  refine ⟨(mem_insertRanked ..).mpr (.inl rfl), ?_, fun ho => ?_⟩
  · refine (insertRanked_filter _ (by simp) _).trans ?_
    rw [List.filter_filter]
    exact List.filter_congr fun j _ => by simp
  · refine State.insertRanked_queueBefore (s.writeRecord i r') i ?_
    exact ho.sublist List.filter_sublist fun j hj =>
      State.queueRank_writeRecord rfl (State.queue_filter_mem.mp hj).2

/-- The machine after a request that wrote the record `r'` of slot `i`, gave it its place in the start queue
and was answered: the rest of the machine stands. -/
structure State.Enqueues (s t : State) (l : Link) (q : Request) (i : SlotIx) (r' : ShelfRecord)
    (body : List Byte) : Prop where
  slot : t.slot i = ⟨(s.slot i).gen, some r'.seal⟩
  others : s.OtherSlotsKept t i
  listed : i ∈ t.store.queue
  beside : t.store.queue.filter (· ≠ i) = s.store.queue.filter (· ≠ i)
  ordered : s.QueueOrdered → t.QueueOrdered
  answers : s.Answers t l q .ok body
  frame : t = { s with store := { s.store with slots := t.store.slots, queue := t.store.queue },
                       execLink := t.execLink, consoleLink := t.consoleLink }

theorem State.QueueOrdered.of_store (h : s.QueueOrdered) (ht : t.store = s.store) :
    t.QueueOrdered := by
  simpa only [State.QueueOrdered, State.queueBefore, State.queueRank, State.record, State.slot, ht] using h

theorem State.enqueues_answer (hq : (s.link l).request = some q) (i : SlotIx) (r' : ShelfRecord)
    (body : List Byte) : s.Enqueues ((s.enqueued i r').answer l .ok body) l q i r' body := by
  obtain ⟨hmem, hbeside, hord⟩ := s.enqueued_queue i r'
  have hstore : ((s.enqueued i r').answer l .ok body).store = (s.enqueued i r').store :=
    State.answer_store ..
  have hslot (j : SlotIx) : ((s.enqueued i r').answer l .ok body).slot j =
      if j = i then ⟨(s.slot i).gen, some r'.seal⟩ else s.slot j := by
    rw [State.slot, hstore]
    exact s.slot_writeRecord i j r'
  refine ⟨(hslot i).trans (if_pos rfl), fun j hj => (hslot j).trans (if_neg hj), by rw [hstore]; exact hmem,
    by rw [hstore]; exact hbeside, fun ho => (hord ho).of_store hstore, ?_, ?_⟩
  · exact State.answer_answers (u := s.enqueued i r') (fun k => by cases k <;> rfl) rfl hq ..
  · rw [State.answer_frame]; rfl

/-- R76: the enable output of a seated bay is on once its record is QUEUED. -/
theorem State.Enqueues.enableOutput {body : List Byte} {b : BayIx} (he : s.Enqueues t l q i r' body)
    (hh : s.held = false) (hb : s.SeatedAt b (s.handleOf i)) (hst : r'.state = .queued) :
    t.enableOutput b = true := by
  obtain ⟨hin, hbind, hup, hlost, hrearm⟩ := hb
  have hbay : t.bay b = s.bay b := by rw [he.frame]; rfl
  have hheld : t.held = false := by rw [he.frame]; exact hh
  have hserv : t.bayInService b = true := by rw [he.frame]; exact decide_eq_true hin
  have hrec : (t.boundSlot b).bind t.record = some r'.seal := by
    rw [State.boundSlot, hbay, hbind]
    exact congrArg ShelfSlot.record he.slot
  simp [State.enableOutput, hheld, hserv, hbay, hup, hlost, hrearm, hrec, hst]

/-! ### The state group of an AMEND (R58) -/

theorem amendStateCheck_running (h : r.state = .running) : amendStateCheck r = some .engaged := by
  simp [amendStateCheck, h]

theorem amendStateCheck_queued (h : r.state = .queued) : amendStateCheck r = some .wrongState := by
  simp [amendStateCheck, h]

/-- R58: an AMEND that comes to the state group refuses a RUNNING record with ENGAGED and a QUEUED one with
WRONG_STATE. -/
theorem State.refuses_stateGroup {rest : State} (hq : (s.link l).request = some q)
    (he : exec c s = .next ((amendStateCheck r).elim rest (s.refuse l))) :
    (r.state = .running → s.Refuses c l q .engaged) ∧
      (r.state = .queued → s.Refuses c l q .wrongState) := by
  refine ⟨fun h => ?_, fun h => ?_⟩
  · rw [amendStateCheck_running h] at he
    exact State.refuses_of_refuse hq he
  · rw [amendStateCheck_queued h] at he
    exact State.refuses_of_refuse hq he

/-- R58: an AMEND that refuses a value out of range ahead of the state group. -/
theorem State.refuses_rangeGroup {rest : State} {inRange : Prop} [Decidable inRange]
    (hq : (s.link l).request = some q) (he : exec c s = .next (if inRange then
      (amendStateCheck r).elim rest (s.refuse l) else s.refuse l .badField)) :
    (¬inRange → s.Refuses c l q .badField) ∧ (inRange → r.state = .running → s.Refuses c l q .engaged) ∧
      (inRange → r.state = .queued → s.Refuses c l q .wrongState) := by
  refine ⟨fun hn => ?_, fun hr => ?_, fun hr => ?_⟩
  · rw [if_neg hn] at he
    exact State.refuses_of_refuse hq he
  · rw [if_pos hr] at he
    exact (State.refuses_stateGroup hq he).1
  · rw [if_pos hr] at he
    exact (State.refuses_stateGroup hq he).2

end Sys2Proof.Machine
end

section
/-! AMEND of the priority of a record that names no engine, of the model handle and of the module list. -/

namespace Sys2Proof.Machine

variable {s u : State} {l : Link} {q : Request} {h k : Handle} {i : SlotIx} {r : ShelfRecord}
  {m n : ModelIx} {x y : Model}

/-! ### Priority -/

/-- R59: what an AMEND of the priority does once its handle resolves and the tier is allowed. -/
theorem execAmendPriority_of_permitted {p : Nat} (hs : s.Serving l .amend q)
    (hb : readAll readAmendBody q.body = some (h, .priority p)) (hp : s.Permitted q h i r) :
    exec (.amendPriority l) s = .next (if 7 < p then s.refuse l .badField
      else (((s.writeRecord i { r with priority := p }).requeue i r).passToHolder i r p).amended l .priority
        [byteOf p]) :=
  congrArg Host.Outcome.next (State.serveAmend_of_permitted hs hp hb _)

/-- R110: a record that names no engine passes its priority to none. -/
theorem State.passToHolder_of_none {p : Nat} (h : r.engaged = none) : s.passToHolder i r p = s := by
  simp only [State.passToHolder, h]

/-- Settles O22: a record that names no engine is written, and a QUEUED one takes its place anew. -/
theorem amendPriorityMovesTheRecord : Obligations.AmendPriorityMovesTheRecord := by
  refine ⟨fun l s q h i r p hs hb hp hen hle => ?_, fun l s q h i r p hs hb hp hlt => ?_⟩
  · have he := execAmendPriority_of_permitted hs hb hp
    rw [if_neg hle.not_gt, State.passToHolder_of_none hen] at he
    by_cases hst : r.state = .queued
    · have henq := State.enqueues_answer hs.request i { r with priority := p } [0x00#8, byteOf p]
      rw [State.requeue, if_pos hst] at he
      exact ⟨_, _, he, henq.slot, rfl, ShelfRecord.seal_intact _, henq.others, fun hn => absurd hst hn,
        fun _ => ⟨henq.listed, henq.beside, henq.ordered⟩, henq.answers, henq.frame⟩
    · rw [State.requeue, if_neg hst] at he
      obtain ⟨h1, h2, h3, h4⟩ := State.amended_write (s := s) (i := i) (a := .priority)
        (r' := { r with priority := p }) (value := [byteOf p]) hs.request
      have hqueue : ((s.writeRecord i { r with priority := p }).amended l .priority
          [byteOf p]).store.queue = s.store.queue := by
        rw [State.amended, State.answer_store]
        rfl
      refine ⟨_, _, he, h1, rfl, ShelfRecord.seal_intact _, h2, fun _ => hqueue,
        fun hq => absurd hq hst, h3, ?_⟩
      rw [hqueue]
      exact h4
  · have he := execAmendPriority_of_permitted hs hb hp
    rw [if_pos hlt] at he
    exact State.refuses_of_refuse hs.request he

/-! ### Model handle -/

/-- R61: what an AMEND of the model handle does with the model that the carried handle names ACTIVE. -/
theorem execAmendModelHandle_of_active (hs : s.Serving l .amend q)
    (hb : readAll readAmendBody q.body = some (h, .model k)) (hp : s.Permitted q h i r)
    (hc : amendStateCheck r = none) (hm : s.ResolvesModel k n y) (hst : y.state = .active) :
    exec (.amendModelHandle l) s = .next (
      if y.params.mRated.getD 0 < r.modules.length then s.refuse l .badField
      else (s.changeModel i r k).amended l .model k.bytes) := by
  refine congrArg Host.Outcome.next ((State.serveAmend_of_permitted hs hp hb _).trans ?_)
  simp only [hc, hm.carriedModel hst]

/-- R58: the state group comes ahead of the checks of the carried handle. -/
theorem execAmendModelHandle_stateGroup (hs : s.Serving l .amend q)
    (hb : readAll readAmendBody q.body = some (h, .model k)) (hp : s.Permitted q h i r) :
    ∃ rest, exec (.amendModelHandle l) s =
      .next ((amendStateCheck r).elim rest (s.refuse l)) := by
  have he := State.serveAmend_of_permitted hs hp hb
  cases hc : amendStateCheck r with
  | none => exact ⟨_, rfl⟩
  | some o =>
    refine ⟨s, congrArg Host.Outcome.next ((he _).trans ?_)⟩
    simp only [hc, Option.elim_some]

/-- R61: an AMEND of the model handle refuses with the check that the carried handle fails. -/
theorem State.carries_of_amend (hs : s.Serving l .amend q)
    (hb : readAll readAmendBody q.body = some (h, .model k)) (hp : s.Permitted q h i r)
    (hc : amendStateCheck r = none) : s.Carries l q k (.amendModelHandle l) := by
  refine ⟨hs.request, fun {t o} hk =>
    congrArg Host.Outcome.next ((State.serveAmend_of_permitted hs hp hb _).trans ?_)⟩
  simp only [hc, hk]

theorem State.renamed_state (hr : r.state = .passed ∨ r.state = .failed) :
    (r.bay = none → (s.renamed r k).state = .staged) ∧
      ∀ b, r.bay = some b → (s.renamed r k).state = if (s.bay b).seated then .ready else .bound := by
  refine ⟨fun hb => ?_, fun b hb => ?_⟩ <;> simp only [State.renamed, State.stateAfterModel, if_pos hr, hb]

theorem State.renamed_state_kept (h₁ : r.state ≠ .passed) (h₂ : r.state ≠ .failed) :
    (s.renamed r k).state = r.state := if_neg (not_or.mpr ⟨h₁, h₂⟩)

/-- R42: a record renamed to the model that it names moves no count. -/
theorem State.changeModel_of_same (hm : k = r.model) :
    s.changeModel i r k = s.writeRecord i (s.renamed r k) := if_pos hm

/-- R42: a record renamed from one in-use model to another moves one count. -/
theorem State.changeModel_of_moved (hmn : m ≠ n) (hm : r.model = s.modelHandleOf m)
    (hx : s.model m = some x) (hy : s.model n = some y) :
    s.changeModel i r (s.modelHandleOf n) =
      ((s.writeRecord i (s.renamed r (s.modelHandleOf n))).writeModel m
        { x with refCount := x.refCount - 1 }).writeModel n { y with refCount := y.refCount + 1 } := by
  have hne : s.modelHandleOf n ≠ r.model := fun e => hmn (State.modelHandleOf_inj s (hm.symm.trans e.symm))
  let v := s.writeRecord i (s.renamed r (s.modelHandleOf n))
  let w := v.writeModel m { x with refCount := x.refCount - 1 }
  have h₁ : v.adjustRef r.model (fun n => n - 1) = w := by
    rw [hm]
    exact v.adjustRef_of_model (m := m) hx _
  have hwy : w.model n = some y := by
    rw [State.model_writeModel, if_neg hmn.symm]
    exact hy
  have h₂ : w.adjustRef (s.modelHandleOf n) (fun n => n + 1) =
      w.writeModel n { y with refCount := y.refCount + 1 } := by
    have hh : w.modelHandleOf n = s.modelHandleOf n := v.writeModel_modelHandleOf ..
    rw [← hh]
    exact w.adjustRef_of_model hwy _
  refine (if_neg hne).trans ?_
  rw [← h₂, ← h₁]
  rfl

/-- The machine after a change of records and descriptors and its answer. -/
theorem State.amended_tables {a : AmendItem} {value : List Byte} (hq : (s.link l).request = some q)
    (hu : u = { s with store := { s.store with slots := u.store.slots },
                       models := { s.models with slots := u.models.slots } }) :
    (u.amended l a value).store = u.store ∧ (u.amended l a value).models = u.models ∧
      s.Answers (u.amended l a value) l q .ok (byteOf a.code :: value) ∧
      u.amended l a value =
        { s with store := { s.store with slots := (u.amended l a value).store.slots },
                 models := { s.models with slots := (u.amended l a value).models.slots },
                 execLink := (u.amended l a value).execLink,
                 consoleLink := (u.amended l a value).consoleLink } := by
  have hs : (u.amended l a value).store = u.store := State.answer_store ..
  have hm : (u.amended l a value).models = u.models := State.answer_models ..
  refine ⟨hs, hm, State.answer_answers (u := u) (fun j => by rw [hu]; cases j <;> rfl) (by rw [hu]) hq .., ?_⟩
  rw [hs, hm]
  refine (u.answer_frame ..).trans ?_
  exact congrArg (fun v : State => { v with
    execLink := (u.amended l a value).execLink
    consoleLink := (u.amended l a value).consoleLink }) hu

theorem State.adjustRef_frame (s : State) (h : Handle) (f : Nat → Nat) :
    s.adjustRef h f = { s with models := { s.models with slots := (s.adjustRef h f).models.slots } } := by
  obtain e | ⟨m, x, -, -, e⟩ := s.adjustRef_cases h f <;> rw [e]
  rfl

theorem State.changeModel_frame (s : State) (i : SlotIx) (r : ShelfRecord) (k : Handle) :
    s.changeModel i r k = { s with
      store := { s.store with slots := (s.changeModel i r k).store.slots },
      models := { s.models with slots := (s.changeModel i r k).models.slots } } := by
  unfold State.changeModel
  dsimp only
  split
  · rfl
  · rw [State.adjustRef_frame, State.adjustRef_frame]
    rfl

/-- Settles O25: the record is `State.renamed`, and the counts move by `State.changeModel`. -/
theorem amendModelHandleMovesOneReference : Obligations.AmendModelHandleMovesOneReference := by
  refine ⟨fun l s q h k i r m n x y hs hb hp hrun hque hk hst hlen hm hx => ?_,
    fun l s q h k i r hs hb hp => ?_⟩
  · have he := execAmendModelHandle_of_active hs hb hp (amendStateCheck_eq_none.mpr ⟨hque, hrun⟩) hk hst
    rw [if_neg hlen.not_gt] at he
    obtain ⟨rfl, hy, -⟩ := hk
    obtain ⟨hstore, hmodels, hans, hframe⟩ := State.amended_tables (a := .model)
      (value := (s.modelHandleOf n).bytes) hs.request (s.changeModel_frame i r (s.modelHandleOf n))
    have hslot (j : SlotIx) : ((s.changeModel i r (s.modelHandleOf n)).amended l .model
        (s.modelHandleOf n).bytes).slot j =
          if j = i then ⟨(s.slot i).gen, some (s.renamed r (s.modelHandleOf n)).seal⟩ else s.slot j := by
      rw [State.slot, hstore, s.changeModel_store i r]
      exact s.slot_writeRecord i j _
    have hsame (hmn : m = n) : s.changeModel i r (s.modelHandleOf n) =
        s.writeRecord i (s.renamed r (s.modelHandleOf n)) :=
      State.changeModel_of_same (hmn ▸ hm.symm)
    have hmoved (hmn : m ≠ n) (j : ModelIx) : ((s.changeModel i r (s.modelHandleOf n)).amended l .model
        (s.modelHandleOf n).bytes).modelSlot j =
          if j = n then ⟨(s.modelSlot n).gen, some { y with refCount := y.refCount + 1 : Model }.seal⟩
          else if j = m then ⟨(s.modelSlot m).gen, some { x with refCount := x.refCount - 1 : Model }.seal⟩
          else s.modelSlot j := by
      rw [State.modelSlot, hmodels, State.changeModel_of_moved hmn hm hx hy]
      refine (State.modelSlot_writeModel ..).trans ?_
      rw [State.modelSlot_writeModel, State.modelSlot_writeModel, if_neg (Ne.symm hmn)]
      rfl
    refine ⟨_, _, he, (hslot i).trans (if_pos rfl), rfl, rfl, rfl, ShelfRecord.seal_intact _, rfl,
      fun h₁ h₂ => State.renamed_state_kept (k := s.modelHandleOf n) h₁ h₂,
      State.renamed_state (k := s.modelHandleOf n), fun hmn => ?_, fun hmn => ?_,
      fun j hjm hjn => ?_, fun j hj => (hslot j).trans (if_neg hj), hans, hframe⟩
    · rw [hmodels, hsame hmn]
      rfl
    · exact ⟨_, _, (hmoved hmn m).trans ((if_neg hmn).trans (if_pos rfl)), (hmoved hmn n).trans (if_pos rfl),
        Model.seal_intact _, Model.seal_intact _, Model.seal_eq _, Model.seal_eq _⟩
    · by_cases hmn : m = n
      · rw [State.modelSlot, hmodels, hsame hmn]
        rfl
      · rw [hmoved hmn, if_neg hjn, if_neg hjm]
  · intro refused
    obtain ⟨rest, he⟩ := execAmendModelHandle_stateGroup hs hb hp
    obtain ⟨hrun, hque⟩ := State.refuses_stateGroup hs.request he
    refine ⟨hrun, hque, fun hr hq => ?_⟩
    have hc := amendStateCheck_eq_none.mpr ⟨hq, hr⟩
    have hcar := State.carries_of_amend hs hb hp hc
    refine ⟨hcar.needsModel, fun n y hk hy => hcar.needsActive hk hy, fun n y hk hst hlt => ?_⟩
    have he := execAmendModelHandle_of_active hs hb hp hc hk hst
    rw [if_pos hlt] at he
    exact State.refuses_of_refuse hs.request he

end Sys2Proof.Machine
end

section
/-! The AMEND items of the module list: ADD_MODULE, DROP_MODULE and the present flag. -/

namespace Sys2Proof.Machine

variable {s : State} {l : Link} {q : Request} {h : Handle} {i : SlotIx} {r r' : ShelfRecord}
  {u : ModuleEntry} {k : Nat} {p : Bool}

/-- R63, R64: the slot `k` is listed. -/
def ShelfRecord.lists (r : ShelfRecord) (k : Nat) : Bool := r.modules.any (·.slot = k)

theorem ShelfRecord.lists_iff : r.lists k = true ↔ ∃ v ∈ r.modules, v.slot = k := by
  simp [ShelfRecord.lists]

theorem ShelfRecord.lists_eq_false_iff : r.lists k = false ↔ ∀ v ∈ r.modules, v.slot ≠ k := by
  simp [ShelfRecord.lists]

/-- R63: ADD_MODULE behind its range and state groups. -/
def State.addEntry (s : State) (l : Link) (i : SlotIx) (r : ShelfRecord) (u : ModuleEntry) : State :=
  if r.lists u.slot then s.refuse l .duplicate
  else if s.mRatedOf r < r.modules.length + 1 then s.refuse l .badField
  else (s.writeRecord i { r with modules := insertModule u r.modules }).amended l .addModule u.bytes

/-- R64: DROP_MODULE behind its range and state groups. -/
def State.dropEntry (s : State) (l : Link) (i : SlotIx) (r : ShelfRecord) (k : Nat) : State :=
  if r.lists k = false then s.refuse l .badField
  else if r.modules.length = 1 then s.refuse l .badField
  else (s.writeRecord i { r with modules := r.modules.filter (·.slot ≠ k) }).amended l .dropModule [byteOf k]

/-- R64: an AMEND of a present flag behind its range and state groups. -/
def State.markEntry (s : State) (l : Link) (i : SlotIx) (r : ShelfRecord) (k : Nat) (p : Bool) : State :=
  if r.lists k = false then s.refuse l .badField
  else (s.writeRecord i { r with modules := r.modules.map fun v =>
    if v.slot = k then { v with present := p } else v }).amended l .present [byteOf k, flagByte p]

/-- R58: the range group of an AMEND, then its state group. -/
theorem rangeGroup_eq (inRange : Prop) [Decidable inRange] (outside : Prop) [Decidable outside]
    (ho : outside ↔ ¬inRange) (rest : State) :
    (if outside then s.refuse l .badField else match amendStateCheck r with
      | some c => s.refuse l c
      | none => rest) =
    if inRange then (amendStateCheck r).elim rest (s.refuse l) else s.refuse l .badField := by
  by_cases hr : inRange
  · rw [if_neg (fun e => ho.mp e hr), if_pos hr]
    cases amendStateCheck r <;> rfl
  · rw [if_pos (ho.mpr hr), if_neg hr]

theorem execAddModule_of_permitted (hs : s.Serving l .amend q) (hp : s.Permitted q h i r)
    (hb : readAll readAmendBody q.body = some (h, .addModule u)) :
    exec (.addModule l) s = .next (if u.inRange = true then
      (amendStateCheck r).elim (s.addEntry l i r u) (s.refuse l) else s.refuse l .badField) :=
  congrArg Host.Outcome.next ((State.serveAmend_of_permitted hs hp hb _).trans
    (rangeGroup_eq _ _ (by simp) (s.addEntry l i r u)))

theorem execDropModule_of_permitted (hs : s.Serving l .amend q) (hp : s.Permitted q h i r)
    (hb : readAll readAmendBody q.body = some (h, .dropModule k)) :
    exec (.dropModule l) s = .next (if 1 ≤ k ∧ k ≤ 6 then
      (amendStateCheck r).elim (s.dropEntry l i r k) (s.refuse l) else s.refuse l .badField) :=
  congrArg Host.Outcome.next ((State.serveAmend_of_permitted hs hp hb _).trans
    (rangeGroup_eq _ _ (by omega) (s.dropEntry l i r k)))

theorem execAmendPresentFlag_of_permitted (hs : s.Serving l .amend q) (hp : s.Permitted q h i r)
    (hb : readAll readAmendBody q.body = some (h, .present k p)) :
    exec (.amendPresentFlag l) s = .next (if 1 ≤ k ∧ k ≤ 6 then
      (amendStateCheck r).elim (s.markEntry l i r k p) (s.refuse l) else s.refuse l .badField) :=
  congrArg Host.Outcome.next ((State.serveAmend_of_permitted hs hp hb _).trans
    (rangeGroup_eq _ _ (by omega) (s.markEntry l i r k p)))

/-- R58: past both groups, an AMEND of the module list is its own step. -/
theorem rangeGroup_of_open {inRange : Prop} [Decidable inRange] (hr : inRange)
    (h₁ : r.state ≠ .running) (h₂ : r.state ≠ .queued) (rest : State) :
    (if inRange then (amendStateCheck r).elim rest (s.refuse l) else s.refuse l .badField) = rest := by
  rw [if_pos hr, amendStateCheck_eq_none.mpr ⟨h₂, h₁⟩]
  rfl

theorem mPresent_insertModule (r : ShelfRecord) (u : ModuleEntry) :
    ({ r with modules := insertModule u r.modules } : ShelfRecord).mPresent =
      r.mPresent + if u.present then 1 else 0 := by
  have hl := ((insertModule_perm u r.modules).filter (·.present)).length_eq
  refine hl.trans ?_
  rw [List.filter_cons]
  split <;> rfl

/-- Settles O26: each item is `rangeGroup_eq` with a step of its own. -/
theorem moduleListAmends : Obligations.ModuleListAmends := by
  refine ⟨fun l s q h i r hs hp => ?_, fun l s q h i r u m x hs hb hp hrun hque hr hnew hm hx hlen ho => ?_,
    fun l s q h i r k hs hp hrun hque hk1 hk6 => ⟨fun hb => ?_, fun p hb => ?_⟩⟩
  · intro tested
    refine ⟨fun u hb => ?_, fun k hb => ?_, fun k p hb => ?_⟩
    · have he := execAddModule_of_permitted hs hp hb
      refine ⟨State.refuses_rangeGroup hs.request he, fun hr hrun hque => ?_⟩
      rw [rangeGroup_of_open hr hrun hque] at he
      refine ⟨fun hold => ?_, fun hnew m x hm hx hlt => ?_⟩
      · rw [State.addEntry, if_pos (ShelfRecord.lists_iff.mpr hold)] at he
        exact State.refuses_of_refuse hs.request he
      · rw [State.addEntry, ShelfRecord.lists_eq_false_iff.mpr hnew, State.mRatedOf,
          State.modelOf_of_model hm hx, if_neg Bool.false_ne_true, Option.bind_some, if_pos hlt] at he
        exact State.refuses_of_refuse hs.request he
    · exact State.refuses_rangeGroup hs.request (execDropModule_of_permitted hs hp hb)
    · exact State.refuses_rangeGroup hs.request (execAmendPresentFlag_of_permitted hs hp hb)
  · have he := execAddModule_of_permitted hs hp hb
    rw [rangeGroup_of_open hr hrun hque, State.addEntry, ShelfRecord.lists_eq_false_iff.mpr hnew,
      State.mRatedOf, State.modelOf_of_model hm hx, if_neg Bool.false_ne_true, Option.bind_some,
      if_neg hlen.not_gt] at he
    obtain ⟨hslot, hothers, hans, hframe⟩ := State.amended_write (s := s) (i := i) (a := .addModule)
      (r' := { r with modules := insertModule u r.modules }) (value := u.bytes) hs.request
    have hperm := insertModule_perm u r.modules
    have hnodup : ((u :: r.modules).map (·.slot)).Nodup := by
      refine List.nodup_cons.mpr ⟨fun hmem => ?_, List.pairwise_map.mpr (ho.imp fun hlt => Nat.ne_of_lt hlt)⟩
      obtain ⟨v, hv, he⟩ := List.mem_map.mp hmem
      exact hnew v hv he
    have hasc : SlotsAscend r.modules := ho.imp fun hlt => by simp [ModuleEntry.before]; omega
    exact ⟨_, _, he, hslot, rfl, ShelfRecord.seal_intact _, hperm,
      (insertModule_ascend u hasc).strict ((hperm.map _).nodup_iff.mpr hnodup),
      mPresent_insertModule r u, hothers, hans, hframe⟩
  · have he := execDropModule_of_permitted hs hp hb
    rw [rangeGroup_of_open ⟨hk1, hk6⟩ hrun hque] at he
    refine ⟨fun hbad => ?_, fun hold hlen => ?_⟩
    · have hbad : s.dropEntry l i r k = s.refuse l .badField := by
        rcases hbad with hnone | hone
        · rw [State.dropEntry, if_pos (ShelfRecord.lists_eq_false_iff.mpr hnone)]
        · rw [State.dropEntry, if_pos hone, ite_self]
      rw [hbad] at he
      exact State.refuses_of_refuse hs.request he
    · rw [State.dropEntry, ShelfRecord.lists_iff.mpr hold, if_neg Bool.false_ne_true.symm, if_neg hlen] at he
      obtain ⟨hslot, hothers, hans, hframe⟩ := State.amended_write (s := s) (i := i) (a := .dropModule)
        (r' := { r with modules := r.modules.filter (·.slot ≠ k) }) (value := [byteOf k]) hs.request
      exact ⟨_, _, he, hslot, rfl, ShelfRecord.seal_intact _, hothers, hans, hframe⟩
  · have he := execAmendPresentFlag_of_permitted hs hp hb
    rw [rangeGroup_of_open ⟨hk1, hk6⟩ hrun hque] at he
    refine ⟨fun hnone => ?_, fun hold => ?_⟩
    · rw [State.markEntry, if_pos (ShelfRecord.lists_eq_false_iff.mpr hnone)] at he
      exact State.refuses_of_refuse hs.request he
    · rw [State.markEntry, ShelfRecord.lists_iff.mpr hold, if_neg Bool.false_ne_true.symm] at he
      obtain ⟨hslot, hothers, hans, hframe⟩ := State.amended_write (s := s) (i := i) (a := .present)
        (r' := { r with modules := r.modules.map fun v =>
          if v.slot = k then { v with present := p } else v })
        (value := [byteOf k, flagByte p]) hs.request
      exact ⟨_, _, he, hslot, rfl, ShelfRecord.seal_intact _, hothers, hans, hframe⟩

end Sys2Proof.Machine
end

section
/-! START and RESUME: the seat, the model, a present module, and the place in the start queue. -/

namespace Sys2Proof.Machine

variable {s : State} {l : Link} {q : Request} {h : Handle} {c : Instr} {i : SlotIx} {r : ShelfRecord}
  {m : ModelIx} {x y : Model} {b : BayIx} {f : State → State}

/-- R9: the record's bay is seated. -/
theorem State.seatUp_iff : s.seatUp r = true ↔ ∃ b, r.bay = some b ∧ (s.bay b).seated = true := by
  cases hb : r.bay <;> simp [State.seatUp, hb]

theorem State.seatUp_eq_false_iff :
    s.seatUp r = false ↔ ¬∃ b, r.bay = some b ∧ (s.bay b).seated = true := by
  rw [← State.seatUp_iff, Bool.not_eq_true]

theorem State.modelActive_of_model (hm : r.model = s.modelHandleOf m)
    (hy : (s.readModel m).model m = some y) :
    s.modelActive r = (s.readModel m, decide (y.state = .active)) := by
  simp [State.modelActive, hm, hy]

/-- R65, R66: the part of START and of RESUME that reads the model, counts the present modules and makes the
change `f`. -/
def State.launched (s : State) (l : Link) (r : ShelfRecord) (f : State → State) : State :=
  let a := s.modelActive r
  if a.2 = false then a.1.refuse l .modelNotActive
  else if r.mPresent = 0 then a.1.refuse l .badField
  else (f a.1).answer l .ok []

theorem State.launched_of_active (hm : r.model = s.modelHandleOf m) (hx : s.model m = some x)
    (hi : x.intact = true) (hst : x.state = .active) :
    s.launched l r f = if r.mPresent = 0 then s.refuse l .badField else (f s).answer l .ok [] := by
  have hread := State.readModel_of_intact hx hi
  simp [State.launched, State.modelActive_of_model hm (hread ▸ hx), hread, hst]

theorem State.launched_of_inactive (hm : r.model = s.modelHandleOf m)
    (hy : (s.readModel m).model m = some y) (hst : y.state ≠ .active) :
    s.launched l r f = (s.readModel m).refuse l .modelNotActive := by
  simp [State.launched, State.modelActive_of_model hm hy, hst]

/-- R65, R66: a launch refuses a model that is not ACTIVE, and then a record with no present module. -/
theorem State.refuses_of_launched (hq : (s.link l).request = some q)
    (he : exec c s = .next (s.launched l r f)) (hm : r.model = s.modelHandleOf m) (hx : s.model m = some x) :
    s.NeedsActive c l q m x ∧
      (x.intact = true → x.state = .active → r.mPresent = 0 → s.Refuses c l q .badField) := by
  refine ⟨State.needsActive_of_read hq hx fun y hy hst =>
    he.trans (congrArg _ (State.launched_of_inactive hm hy hst)), fun hi hst hz => ?_⟩
  rw [State.launched_of_active hm hx hi hst, if_pos hz] at he
  exact State.refuses_of_refuse hq he

/-! ### The two requests -/

/-- R65: START of a record that its handle names. -/
theorem execStart_of_permitted (hs : s.Serving l .start q) (hb : readAll readHandle q.body = some h)
    (hp : s.Permitted q h i r) :
    exec (.start l) s = .next (
      if r.state ≠ .ready ∧ r.state ≠ .passed ∧ r.state ≠ .failed then s.refuse l .wrongState
      else if r.state ≠ .ready ∧ s.seatUp r = false then s.refuse l .wrongState
      else s.launched l r (·.startRecord i r)) := by
  obtain ⟨hr, hd, ht⟩ := hp
  have hv : s.validate h false q.tier State.guardTier = (s, .pass (i, r)) := hr.validate (by simp [hd]) ht
  refine (State.exec_of_serving hs rfl).trans (congrArg Host.Outcome.next ?_)
  simp only [hb, hv]
  rfl

/-- R66: RESUME of a record that its handle names. -/
theorem execResume_of_permitted (hs : s.Serving l .resume q) (hb : readAll readHandle q.body = some h)
    (hp : s.Permitted q h i r) :
    exec (.resume l) s = .next (
      if r.state ≠ .held then s.refuse l .wrongState
      else if s.seatUp r = false then s.refuse l .wrongState
      else s.launched l r (·.resumeRecord i r)) := by
  obtain ⟨hr, hd, ht⟩ := hp
  have hv : s.validate h false q.tier State.guardTier = (s, .pass (i, r)) := hr.validate (by simp [hd]) ht
  refine (State.exec_of_serving hs rfl).trans (congrArg Host.Outcome.next ?_)
  simp only [hb, hv]
  rfl

/-- R65: START comes to the read of the model with a READY record, or a seated PASSED or FAILED one. -/
theorem execStart_of_startable (hs : s.Serving l .start q) (hb : readAll readHandle q.body = some h)
    (hp : s.Permitted q h i r) (hst : r.state = .ready ∨ ((r.state = .passed ∨ r.state = .failed) ∧
      ∃ b, r.bay = some b ∧ (s.bay b).seated = true)) :
    exec (.start l) s = .next (s.launched l r (·.startRecord i r)) := by
  rw [execStart_of_permitted hs hb hp]
  rcases hst with hst | ⟨hst, hseat⟩
  · rw [if_neg fun hn => hn.1 hst, if_neg fun hn => hn.1 hst]
  · rw [if_neg fun hn => hst.elim hn.2.1 hn.2.2,
      if_neg fun hn => State.seatUp_eq_false_iff.mp hn.2 hseat]

/-- R66: RESUME comes to the read of the model with a seated HELD record. -/
theorem execResume_of_resumable (hs : s.Serving l .resume q) (hb : readAll readHandle q.body = some h)
    (hp : s.Permitted q h i r) (hst : r.state = .held)
    (hseat : ∃ b, r.bay = some b ∧ (s.bay b).seated = true) :
    exec (.resume l) s = .next (s.launched l r (·.resumeRecord i r)) := by
  rw [execResume_of_permitted hs hb hp, if_neg (not_not_intro hst),
    if_neg fun hn => State.seatUp_eq_false_iff.mp hn hseat]

/-- Settles O28: both requests end in `State.launched`, which queues the record by `State.enqueued`. -/
theorem startAndResumeQueueTheRecord : Obligations.StartAndResumeQueueTheRecord := by
  refine ⟨fun l s q h i r m x hs hb hp hst hm hact hpres => ?_, fun l s q h i r hb hp => ?_,
    fun l s q h i r b m x hs hb hp hst hbay hseat hm hact hpres => ?_⟩
  · obtain ⟨hm, hx, hi⟩ := hm
    have he := execStart_of_startable hs hb hp hst
    rw [State.launched_of_active hm hx hi hact, if_neg hpres.ne'] at he
    have henq := State.enqueues_answer hs.request i
      { r with state := .queued, cursor := 0, results := [], retry := 0 } []
    obtain ⟨-, rfl, -⟩ := hp.1
    exact ⟨_, _, he, henq.slot, rfl, ShelfRecord.seal_intact _, henq.listed, henq.ordered, henq.beside,
      congrArg (·.store.attention) henq.frame, henq.others, henq.answers,
      fun b hat => henq.enableOutput hs.1 hat rfl, henq.frame⟩
  · intro seated tested
    refine ⟨fun hs => ⟨fun hready hbad => ?_, fun hst m x hm hx =>
        State.refuses_of_launched hs.request (execStart_of_startable hs hb hp hst) hm hx⟩,
      fun hs => ⟨fun hbad => ?_, fun hst hseat m x hm hx =>
        State.refuses_of_launched hs.request (execResume_of_resumable hs hb hp hst hseat) hm hx⟩⟩
    · have he := execStart_of_permitted hs hb hp
      rcases hbad with hbad | hbad
      · rw [if_pos ⟨hready, hbad⟩] at he
        exact State.refuses_of_refuse hs.request he
      · rw [if_pos (c := r.state ≠ .ready ∧ s.seatUp r = false)
          ⟨hready, State.seatUp_eq_false_iff.mpr hbad⟩, ite_self] at he
        exact State.refuses_of_refuse hs.request he
    · have he := execResume_of_permitted hs hb hp
      rcases hbad with hbad | hbad
      · rw [if_pos hbad] at he
        exact State.refuses_of_refuse hs.request he
      · rw [if_pos (State.seatUp_eq_false_iff.mpr hbad), ite_self] at he
        exact State.refuses_of_refuse hs.request he
  · obtain ⟨hm, hx, hi⟩ := hm
    have he := execResume_of_resumable hs hb hp hst ⟨b, hbay, hseat⟩
    rw [State.launched_of_active hm hx hi hact, if_neg hpres.ne'] at he
    have henq := State.enqueues_answer hs.request i
      { r with state := .queued, hold := none, retry := 0, cursor := s.queuedCursor r } []
    have hcur : s.queuedCursor r = if x.plan[r.cursor]? = some .restart then r.cursor - 1 else r.cursor :=
      State.queuedCursor_of_model hm hx r.cursor
    obtain ⟨-, rfl, -⟩ := hp.1
    exact ⟨_, _, he, henq.slot, rfl, fun hon => hcur.trans (if_pos hon), fun hoff => hcur.trans (if_neg hoff),
      ShelfRecord.seal_intact _, henq.listed, henq.ordered, henq.beside, henq.others, henq.answers,
      fun hat => henq.enableOutput hs.1 hat rfl, henq.frame⟩

end Sys2Proof.Machine
end

section
/-! SUPPORT. An entry of a wait list that takes a new rank, and the banks that the arbiter chooses. -/

namespace Sys2Proof.Machine

/-! ### An entry that takes a new rank (R162, R176) -/

theorem ranksBefore_asymm_of_age (p b j q c k : Nat) (h : ranksBefore p b j q c k = true) :
    ranksBefore q c k p b j = false := by
  simp only [ranksBefore, Bool.or_eq_true, Bool.and_eq_true, decide_eq_true_eq,
    Bool.or_eq_false_iff, Bool.and_eq_false_iff, decide_eq_false_iff_not] at *
  omega

theorem ranksBefore_trans_of_age (p b j q c k u d n : Nat) (h : ranksBefore p b j q c k = false)
    (h' : ranksBefore q c k u d n = false) : ranksBefore p b j u d n = false := by
  simp only [ranksBefore, Bool.or_eq_false_iff, Bool.and_eq_false_iff,
    decide_eq_false_iff_not] at *
  omega

section reranked

variable {α : Type} {before : α → α → Bool} {key : α → EngineIx} {e : EngineIx} {set : α → α} {w v : α}
  {l : List α}

/-- The first entry of engine `e` is changed by `set` and takes its place in the list anew. -/
def reranked (before : α → α → Bool) (key : α → EngineIx) (e : EngineIx) (set : α → α) (l : List α) :
    List α :=
  match l.find? (key · = e) with
  | some w => insertRanked before (set w) (l.filter (key · ≠ e))
  | none => l

theorem reranked_of_absent (h : ∀ w ∈ l, key w ≠ e) : reranked before key e set l = l := by
  have hf : l.find? (key · = e) = none := List.find?_eq_none.mpr fun w hw => by simpa using h w hw
  simp only [reranked, hf]

/-- Where an engine has at most one entry, that entry is the one that moves. -/
theorem reranked_of_mem (hn : (l.map key).Nodup) (hw : w ∈ l) (hk : key w = e) :
    reranked before key e set l = insertRanked before (set w) (l.filter (key · ≠ e)) := by
  have hf : l.find? (key · = e) = some w := by
    obtain ⟨v, hv⟩ := Option.isSome_iff_exists.mp
      (List.find?_isSome.mpr ⟨w, hw, decide_eq_true hk⟩ : (l.find? (key · = e)).isSome = true)
    have hkv : key v = e := by simpa using List.find?_some hv
    rw [hv, List.inj_on_of_nodup_map hn (List.mem_of_find?_eq_some hv) hw (hkv.trans hk.symm)]
  simp only [reranked, hf]

theorem set_mem_reranked (hn : (l.map key).Nodup) (hw : w ∈ l) (hk : key w = e) :
    set w ∈ reranked before key e set l ∧ (reranked before key e set l).length = l.length := by
  have hone : (l.filter (key · = e)).length = 1 := by
    have hc := List.count_eq_one_of_mem hn (List.mem_map_of_mem (f := key) hw)
    rw [List.count_eq_countP, List.countP_map, List.countP_eq_length_filter, hk] at hc
    exact hc
  have hsum := List.length_eq_length_filter_add (l := l) (key · = e)
  rw [reranked_of_mem hn hw hk, (insertRanked_perm ..).length_eq, mem_insertRanked]
  refine ⟨.inl rfl, ?_⟩
  rw [hsum, hone, List.length_cons, Nat.add_comm]
  simp only [ne_eq, decide_not]

/-- The other entries keep their places among themselves. -/
theorem reranked_filter (hset : ∀ w, key (set w) = key w) :
    (reranked before key e set l).filter (key · ≠ e) = l.filter (key · ≠ e) := by
  unfold reranked
  split
  next w hw =>
    have hk : key (set w) = e := (hset w).trans (by simpa using List.find?_some hw)
    rw [insertRanked_filter _ (by simp [hk]), List.filter_filter]
    exact List.filter_congr fun v _ => Bool.and_self _
  next => rfl

theorem mem_of_mem_reranked (hv : v ∈ reranked before key e set l) : ∃ w ∈ l, v = w ∨ v = set w := by
  unfold reranked at hv
  split at hv
  next w hw =>
    rcases (mem_insertRanked ..).mp hv with rfl | hv
    · exact ⟨w, List.mem_of_find?_eq_some hw, .inr rfl⟩
    · exact ⟨v, List.mem_of_mem_filter hv, .inl rfl⟩
  next => exact ⟨v, hv, .inl rfl⟩

theorem reranked_pairwise (asymm : ∀ x y, before x y = true → before y x = false)
    (trans : ∀ x y z, before x y = false → before y z = false → before x z = false)
    (h : l.Pairwise fun a b => before b a = false) :
    (reranked before key e set l).Pairwise fun a b => before b a = false := by
  unfold reranked
  split
  · exact insertRanked_pairwise asymm trans _ (h.sublist List.filter_sublist)
  · exact h

/-- Of two entries, the last comes to the head when its new rank is before the other's. -/
theorem reranked_swap (hn : ([w, v].map key).Nodup) (hv : key v = e) (hb : before (set v) w = true) :
    reranked before key e set [w, v] = [set v, w] := by
  have hw : key w ≠ e := fun hw => by simp [hw, hv] at hn
  rw [reranked_of_mem hn (by simp) hv]
  simp [hw, hv, insertRanked, hb]

end reranked

/-- R176: the place of a submission with its new priority. -/
abbrev FeedWait.rerank (e : EngineIx) (p : Nat) : List FeedWait → List FeedWait :=
  reranked FeedWait.before FeedWait.engine e fun w => { w with priority := p }

/-- R162: the place of a bank request with its new priority. -/
abbrev BankWait.rerank (e : EngineIx) (p : Nat) : List BankWait → List BankWait :=
  reranked BankWait.before BankWait.engine e fun w => { w with priority := p }

theorem Feed.reprioritise_eq (f : Feed) (e : EngineIx) (p : Nat) :
    f.reprioritise e p = { f with
      waits := FeedWait.rerank e p f.waits
      reservations := f.reservations.map fun r => if r.engine = e then { r with priority := p } else r } := by
  unfold Feed.reprioritise FeedWait.rerank reranked
  split <;> simp only [*]

theorem State.bankReprioritise_eq (s : State) (e : EngineIx) (p : Nat) :
    s.bankReprioritise e p = s.setBankWaits (BankWait.rerank e p s.arb.waits) := by
  unfold State.bankReprioritise BankWait.rerank reranked
  split
  next w hw => simp only [hw]
  next hw =>
    simp only [hw]
    rfl

theorem State.WaitListsOrdered.rerank {s t : State} {e : EngineIx} {p : Nat} (h : s.WaitListsOrdered)
    (hf : t.feed.waits = FeedWait.rerank e p s.feed.waits)
    (hb : t.arb.waits = BankWait.rerank e p s.arb.waits) : t.WaitListsOrdered := by
  obtain ⟨h₁, h₂⟩ := h
  refine ⟨hf ▸ reranked_pairwise (fun _ _ => ranksBefore_asymm_of_age _ _ _ _ _ _)
    (fun _ _ _ => ranksBefore_trans_of_age _ _ _ _ _ _ _ _ _) h₁, ?_⟩
  exact hb ▸ reranked_pairwise (fun _ _ => ranksBefore_asymm_of_age _ _ _ _ _ _)
    (fun _ _ _ => ranksBefore_trans_of_age _ _ _ _ _ _ _ _ _) h₂

/-! ### Tests of the lists that let nothing in (R163, R176) -/

variable {s t : State} {need : Nat}

/-- R176: the supervisor's test ends at a head that does not fit. -/
theorem State.feedTest_of_unfit (h : ∀ w ∈ s.feed.waits, s.feed.fits w = false) : s.feedTest = s := by
  unfold State.feedTest
  cases hw : s.feed.waits with
  | nil => rfl
  | cons w ws => simp [State.feedTestUpTo, hw, h w (by simp [hw])]

theorem State.insertBank_perm (s : State) (b : BankIx) (l : List BankIx) :
    (s.insertBank b l).Perm (b :: l) := by
  induction l with
  | nil => exact List.Perm.refl _
  | cons c cs ih =>
    unfold State.insertBank
    split
    · exact List.Perm.refl _
    · exact (ih.cons c).trans (List.Perm.swap b c cs)

theorem State.foldl_insertBank_perm (s : State) (l acc : List BankIx) :
    (l.foldl (fun l b => s.insertBank b l) acc).Perm (l ++ acc) := by
  induction l generalizing acc with
  | nil => exact List.Perm.refl _
  | cons b l ih =>
    exact (ih _).trans (((s.insertBank_perm b acc).append_left l).trans List.perm_middle)

/-- R163: what the banks in the order of choice reach is at most what all IDLE banks reach. -/
theorem State.idleBanks_sum_le (s : State) : (s.idleBanks.map fun b => (s.bank b).cap).sum ≤
    ((s.addresses.filter fun b => (s.bank b).state = .idle).map fun b => (s.bank b).cap).sum := by
  have hp := (s.foldl_insertBank_perm
    (s.addresses.filter fun b => (s.bank b).state = .idle && 0 < (s.bank b).cap) []).map
      fun b => (s.bank b).cap
  refine hp.sum_eq.trans_le ?_
  rw [List.append_nil]
  exact (List.Sublist.map _ (List.monotone_filter_right _ fun b hb =>
    (Bool.and_eq_true _ _ ▸ hb).1)).sum_le_sum fun _ _ => Nat.zero_le _

/-- R163: banks that do not reach the need together are not chosen. -/
theorem State.chooseBanks_of_short {acc : Nat} {l : List BankIx}
    (h : acc + (l.map fun b => (s.bank b).cap).sum < need) : s.chooseBanks need acc l = none := by
  induction l generalizing acc with
  | nil => simp_all [State.chooseBanks]
  | cons b bs ih =>
    rw [List.map_cons, List.sum_cons] at h
    rw [State.chooseBanks, if_neg (by omega), ih (by omega)]
    rfl

/-- R163: the arbiter's test while a request is in service, or with IDLE banks that reach no need of the
list. -/
theorem State.bankTest_of_unmet (h : s.arb.service ≠ none ∨ ∀ w ∈ s.arb.waits,
    ((s.addresses.filter fun b => (s.bank b).state = .idle).map fun b => (s.bank b).cap).sum < w.need) :
    s.bankTest = s := by
  unfold State.bankTest
  split
  next w ws hs hw =>
    have hlt := h.resolve_left (not_not_intro hs) w (by simp [hw])
    rw [State.chooseBanks_of_short (by rw [Nat.zero_add]; exact s.idleBanks_sum_le.trans_lt hlt)]
  next => rfl

end Sys2Proof.Machine
end

section
/-! AMEND of the priority of a RUNNING record: the engine, its reservation and its two wait lists. -/

namespace Sys2Proof.Machine

variable {s t u : State} {l : Link} {q : Request} {h : Handle} {i : SlotIx} {r : ShelfRecord} {p : Nat}
  {e : EngineIx} {c : WorkingCopy}

/-- R59, R109, R175: the new priority in the working copy, in the reservation and in the feed wait list. -/
def State.repriced (s : State) (e : EngineIx) (p : Nat) : State :=
  (s.modEngine e fun en => { en with copy := en.copy.map fun c => { c with priority := p } }).setFeed
    (s.feed.reprioritise e p)

theorem State.passPriority_eq (s : State) (e : EngineIx) (p : Nat) : s.passPriority e p =
    let s2 := s.repriced e p
    let s3 := if (s2.feed.waits.head?.map (·.engine)) = (s.feed.waits.head?.map (·.engine)) then s2
      else s2.feedTest
    let s4 := s3.bankReprioritise e p
    if s4.arb.waits.map (·.engine) = s3.arb.waits.map (·.engine) then s4 else s4.bankTest := rfl

theorem State.repriced_engine (hc : (s.engine e).copy = some c) (f : EngineIx) :
    (s.repriced e p).engine f =
      if f = e then { s.engine e with copy := some { c with priority := p } } else s.engine f := by
  have hen := State.engine_modEngine s e f fun en =>
    { en with copy := en.copy.map fun c => { c with priority := p } }
  rw [hc] at hen
  exact hen

/-- R176, R163: a priority that lets no submission in and no bank request into service. -/
theorem State.passPriority_of_quiet (hf : (s.repriced e p).feedTest = s.repriced e p)
    (hb : ((s.repriced e p).bankReprioritise e p).bankTest = (s.repriced e p).bankReprioritise e p) :
    s.passPriority e p = (s.repriced e p).bankReprioritise e p := by
  simp only [State.passPriority_eq, hf, ite_self, hb]

/-- R176: of two submissions the head is admitted and the other does not fit behind it. -/
theorem State.feedTest_of_head {v w : FeedWait} (hw : s.feed.waits = [v, w]) (hne : w.engine ≠ v.engine)
    (hfit : s.feed.fits v = true) (hunfit : (s.feed.admitted v).fits w = false) :
    s.feedTest = s.admitHead v := by
  have hrest : (s.admitHead v).feed.waits = [w] := by
    refine (congrArg (List.filter _) hw).trans ?_
    simp [hne]
  have hlast : (s.admitHead v).feed.fits w = false := hunfit
  simp only [State.feedTest, hw, List.length_cons, List.length_nil, State.feedTestUpTo, hfit, if_true, hrest,
    hlast, Bool.false_eq_true, if_false]

/-- R110, R176: a submission that becomes the head and fits, with no bank request of its engine waiting. -/
theorem State.passPriority_of_head {w v : FeedWait} (hw : s.feed.waits = [w, v]) (hv : v.engine = e)
    (hn : (s.feed.waits.map (·.engine)).Nodup) (hp : p < w.priority) (hwin : s.feed.window = .normal)
    (hfit : s.feed.total + v.amount ≤ s.feed.budget - s.feed.guard)
    (hunfit : s.feed.budget - s.feed.guard < s.feed.total + v.amount + w.amount)
    (hb : ∀ y ∈ s.arb.waits, y.engine ≠ e) :
    s.passPriority e p = (s.repriced e p).admitHead { v with priority := p } := by
  rw [hw] at hn
  have hne : w.engine ≠ e := fun hk => by simp [hk, hv] at hn
  have hwaits : (s.repriced e p).feed.waits = [{ v with priority := p }, w] := by
    rw [State.repriced, State.setFeed_feed, Feed.reprioritise_eq, hw]
    exact reranked_swap hn hv (by simp [FeedWait.before, ranksBefore, hp])
  have htest : (s.repriced e p).feedTest = (s.repriced e p).admitHead { v with priority := p } := by
    refine State.feedTest_of_head hwaits (hv ▸ hne) ?_ ?_
    · simpa [Feed.fits, State.repriced, Feed.reprioritise, hwin] using hfit
    · simp [Feed.fits, Feed.admitted, State.repriced, Feed.reprioritise, hunfit]
  have hbank : ((s.repriced e p).admitHead { v with priority := p }).bankReprioritise e p =
      (s.repriced e p).admitHead { v with priority := p } := by
    rw [State.bankReprioritise_eq]
    exact congrArg (State.setBankWaits _) (reranked_of_absent hb)
  have hhead : ¬((s.repriced e p).feed.waits.head?.map (·.engine)) = s.feed.waits.head?.map (·.engine) := by
    rw [hwaits, hw]
    simpa [hv] using hne.symm
  simp only [State.passPriority_eq]
  rw [if_neg hhead, htest, hbank, if_pos rfl]

/-- R110, R175, R176: the engine, the feed and the arbiter after the admission. -/
theorem State.passPriority_admits {w v : FeedWait} (hc : (s.engine e).copy = some c)
    (hw : s.feed.waits = [w, v]) (hv : v.engine = e) (hn : (s.feed.waits.map (·.engine)).Nodup)
    (hp : p < w.priority) (hwin : s.feed.window = .normal)
    (hfit : s.feed.total + v.amount ≤ s.feed.budget - s.feed.guard)
    (hunfit : s.feed.budget - s.feed.guard < s.feed.total + v.amount + w.amount)
    (hb : ∀ y ∈ s.arb.waits, y.engine ≠ e) :
    let t := s.passPriority e p
    t = { s with engines := t.engines, feed := t.feed } ∧
      (∀ f, t.engine f = if f = e then { s.engine e with
        copy := some { c with priority := p }, reservation := .held v.amount, phase := .acquire }
        else s.engine f) ∧
      t.feed.waits = [w] ∧ t.feed.total = s.feed.total + v.amount ∧
      t.feed.reservations = (s.feed.reservations.map fun x =>
        if x.engine = e then { x with priority := p } else x) ++
          [⟨e, v.amount, p, s.feed.nextNumber, false⟩] := by
  have hpass := State.passPriority_of_head hw hv hn hp hwin hfit hunfit hb
  have hne : w.engine ≠ e := fun hk => by simp [hw, hk, hv] at hn
  have hwaits : (s.repriced e p).feed.waits = [{ v with priority := p }, w] := by
    refine (congrArg Feed.waits (Feed.reprioritise_eq ..)).trans ?_
    refine (congrArg (FeedWait.rerank e p) hw).trans ?_
    exact reranked_swap (hw ▸ hn) hv (by simp [FeedWait.before, ranksBefore, hp])
  subst hv
  dsimp only
  rw [hpass]
  refine ⟨rfl, fun f => (State.engine_modEngine ..).trans ?_, ?_, rfl, rfl⟩
  · have hown := (State.repriced_engine (p := p) hc v.engine).trans (if_pos rfl)
    split
    next => exact congrArg (fun en : Engine => { en with reservation := .held v.amount, phase := .acquire }) hown
    next hfe => exact (State.repriced_engine hc f).trans (if_neg hfe)
  · refine (congrArg (List.filter _) hwaits).trans ?_
    simp [hne]

/-- R163: the bank request `w` leaves the wait list and is in service with the banks `b :: bs`. -/
def State.inService (s : State) (w : BankWait) (rest : List BankWait) (b : BankIx) (bs : List BankIx) :
    State :=
  let s1 := (s.setBankWaits rest).setService (some ⟨w.engine, w.need, w.bay, w.joined, b :: bs, .active⟩)
  let s2 := (b :: bs).foldl (fun t c => t.modBank c fun k => { k with state := .connecting }) s1
  (s2.ask ⟨b, .connect w.bay, false⟩).modEngine w.engine fun en => { en with bankReq := .connecting }

theorem State.bankTest_of_met {w : BankWait} {rest : List BankWait} {b : BankIx} {bs : List BankIx}
    (hs : s.arb.service = none) (hw : s.arb.waits = w :: rest)
    (hch : s.chooseBanks w.need 0 s.idleBanks = some (b :: bs)) : s.bankTest = s.inService w rest b bs := by
  simp only [State.bankTest, hs, hw, hch]
  rfl

/-- R163: banks that go CONNECTING change the roster alone. -/
theorem State.foldl_connecting (l : List BankIx) (s : State) :
    ∃ ro, l.foldl (fun t c => t.modBank c fun k => { k with state := .connecting }) s =
        { s with arb := { s.arb with roster := ro } } ∧
      ∀ y, ro.get y = if y ∈ l then { s.bank y with state := .connecting } else s.bank y := by
  induction l generalizing s with
  | nil => exact ⟨s.arb.roster, rfl, fun y => by simp [State.bank]⟩
  | cons b l ih =>
    obtain ⟨ro, hf, hb⟩ := ih (s.modBank b fun k => { k with state := .connecting })
    refine ⟨ro, hf, fun y => (hb y).trans ?_⟩
    rw [State.bank_modBank]
    by_cases hyb : y = b
    · simp [hyb]
    · simp [hyb]

theorem State.inService_spec (s : State) (w : BankWait) (rest : List BankWait) (b : BankIx) (bs : List BankIx) :
    let t := s.inService w rest b bs
    t = { s with arb := t.arb, engines := t.engines } ∧
    (∀ f, t.engine f =
      if f = w.engine then { s.engine w.engine with bankReq := .connecting } else s.engine f) ∧
    t.arb = { s.arb with
      waits := rest, service := some ⟨w.engine, w.need, w.bay, w.joined, b :: bs, .active⟩
      asked := s.arb.asked ++ [⟨b, .connect w.bay, false⟩], roster := t.arb.roster } ∧
    ∀ y, t.bank y = if y ∈ b :: bs then { s.bank y with state := .connecting } else s.bank y := by
  obtain ⟨ro, hf, hb⟩ := State.foldl_connecting (b :: bs)
    ((s.setBankWaits rest).setService (some ⟨w.engine, w.need, w.bay, w.joined, b :: bs, .active⟩))
  unfold State.inService
  dsimp only
  rw [hf]
  exact ⟨rfl, fun f => State.engine_modEngine .., rfl, hb⟩

/-- R176: while no submission fits, none fits by its new priority. -/
theorem State.repriced_feedTest (h : s.feed.window ≠ .normal ∨
    ∀ w ∈ s.feed.waits, s.feed.budget - s.feed.guard < s.feed.total + w.amount) :
    (s.repriced e p).feedTest = s.repriced e p := by
  have hunfit : ∀ w ∈ s.feed.waits, s.feed.fits w = false := fun w hw => by
    rcases h with hwin | hlt
    · simp [Feed.fits, hwin]
    · simp [Feed.fits, hlt w hw]
  refine State.feedTest_of_unfit fun w hw => ?_
  rw [State.repriced, State.setFeed_feed, Feed.reprioritise_eq] at hw ⊢
  obtain ⟨v, hv, rfl | rfl⟩ := mem_of_mem_reranked hw
  · exact hunfit _ hv
  · exact hunfit v hv

/-- R163: while no bank request can be met, none can by its new priority. -/
theorem State.repriced_bankTest (h : s.arb.service ≠ none ∨ ∀ w ∈ s.arb.waits,
    ((s.addresses.filter fun b => (s.bank b).state = .idle).map fun b => (s.bank b).cap).sum < w.need) :
    ((s.repriced e p).bankReprioritise e p).bankTest = (s.repriced e p).bankReprioritise e p := by
  rw [State.bankReprioritise_eq]
  refine State.bankTest_of_unmet (h.imp_right fun hlt w hw => ?_)
  obtain ⟨v, hv, rfl | rfl⟩ := mem_of_mem_reranked hw
  · exact hlt _ hv
  · exact hlt v hv

/-- R163: the choice of banks reads the roster and the banks strapped. -/
theorem State.chosen_congr (hr : t.arb.roster = s.arb.roster) (hs : t.straps = s.straps) (need : Nat) :
    t.chooseBanks need 0 t.idleBanks = s.chooseBanks need 0 s.idleBanks := by
  have hb : t.bank = s.bank := funext fun b => congrArg (·.get b) hr
  have hins (b : BankIx) (l : List BankIx) : t.insertBank b l = s.insertBank b l := by
    induction l with
    | nil => rfl
    | cons c cs ih => simp only [State.insertBank, hb, ih]
  have hch (acc : Nat) (l : List BankIx) : t.chooseBanks need acc l = s.chooseBanks need acc l := by
    induction l generalizing acc with
    | nil => simp only [State.chooseBanks]
    | cons b bs ih => simp only [State.chooseBanks, hb, ih]
  simp only [State.idleBanks, State.addresses, hb, hs, hins, hch]

/-- R163: a bank request that becomes the head and can be met. -/
theorem State.passPriority_of_met {w v : BankWait} {b : BankIx} {bs : List BankIx}
    (hw : s.arb.waits = [w, v]) (hv : v.engine = e)
    (hn : (s.arb.waits.map (·.engine)).Nodup) (hp : p < w.priority) (hs : s.arb.service = none)
    (hch : s.chooseBanks v.need 0 s.idleBanks = some (b :: bs)) (hf : ∀ y ∈ s.feed.waits, y.engine ≠ e) :
    s.passPriority e p = (s.repriced e p).inService { v with priority := p } [w] b bs := by
  rw [hw] at hn
  have hne : w.engine ≠ e := fun hk => by simp [hk, hv] at hn
  have hwaits : ((s.repriced e p).bankReprioritise e p).arb.waits = [{ v with priority := p }, w] := by
    rw [State.bankReprioritise_eq, State.setBankWaits_arb]
    refine (congrArg (BankWait.rerank e p) hw).trans ?_
    exact reranked_swap hn hv (by simp [BankWait.before, ranksBefore, hp])
  have hfeed : (s.repriced e p).feed.waits = s.feed.waits := by
    rw [State.repriced, State.setFeed_feed, Feed.reprioritise_eq]
    exact reranked_of_absent hf
  have htest := State.bankTest_of_met (s := (s.repriced e p).bankReprioritise e p) (b := b) (bs := bs)
    (by rw [State.bankReprioritise_eq]; exact hs) hwaits
    ((State.chosen_congr (by rw [State.bankReprioritise_eq]; rfl) (by rw [State.bankReprioritise_eq]; rfl) _).trans
      hch)
  have hchanged : ¬((s.repriced e p).bankReprioritise e p).arb.waits.map (·.engine) =
      (s.repriced e p).arb.waits.map (·.engine) := by
    have hold : (s.repriced e p).arb.waits = [w, v] := hw
    rw [hwaits, hold]
    simp [hv, hne.symm]
  simp only [State.passPriority_eq, hfeed, if_true]
  rw [if_neg hchanged, htest, State.bankReprioritise_eq]
  rfl

/-- R162, R163: the engine, the feed and the arbiter after the request has gone into service. -/
theorem State.passPriority_serves {w v : BankWait} {b : BankIx} {bs : List BankIx}
    (hc : (s.engine e).copy = some c) (hw : s.arb.waits = [w, v]) (hv : v.engine = e)
    (hn : (s.arb.waits.map (·.engine)).Nodup) (hp : p < w.priority) (hs : s.arb.service = none)
    (hch : s.chooseBanks v.need 0 s.idleBanks = some (b :: bs)) (hf : ∀ y ∈ s.feed.waits, y.engine ≠ e) :
    let t := s.passPriority e p
    t = { s with engines := t.engines, feed := t.feed, arb := t.arb } ∧
      (∀ f, t.engine f = if f = e then
        { s.engine e with copy := some { c with priority := p }, bankReq := .connecting } else s.engine f) ∧
      t.feed = { s.feed with reservations := s.feed.reservations.map fun x =>
        if x.engine = e then { x with priority := p } else x } ∧
      t.arb.waits = [w] ∧ t.arb.service = some ⟨e, v.need, v.bay, v.joined, b :: bs, .active⟩ ∧
      t.arb.asked = s.arb.asked ++ [⟨b, .connect v.bay, false⟩] ∧
      ∀ y, t.bank y = if y ∈ b :: bs then { s.bank y with state := .connecting } else s.bank y := by
  have hpass := State.passPriority_of_met hw hv hn hp hs hch hf
  subst hv
  dsimp only
  rw [hpass]
  obtain ⟨hrest, hen, harb, hbank⟩ := (s.repriced v.engine p).inService_spec { v with priority := p } [w] b bs
  generalize (s.repriced v.engine p).inService { v with priority := p } [w] b bs = u at *
  refine ⟨by rw [hrest]; rfl, fun f => (hen f).trans ?_, ?_, congrArg Arbiter.waits harb,
    congrArg Arbiter.service harb, congrArg Arbiter.asked harb, hbank⟩
  · have hown := (State.repriced_engine (p := p) hc v.engine).trans (if_pos rfl)
    split
    next => exact congrArg (fun en : Engine => { en with bankReq := .connecting }) hown
    next hfe => exact (State.repriced_engine hc f).trans (if_neg hfe)
  · rw [hrest]
    refine (Feed.reprioritise_eq ..).trans ?_
    rw [show FeedWait.rerank v.engine p s.feed.waits = s.feed.waits from reranked_of_absent hf]

/-- R59: the new priority goes to the engine that holds the record, when no work waits. -/
theorem State.passToHolder_of_held (hen : r.engaged = some e) (hset : s.settled = s)
    (hheld : s.holds e (s.handleOf i) = true) : s.passToHolder i r p = s.passPriority e p := by
  simp only [State.passToHolder, hen, hset, hheld, if_true]

/-- R59: an AMEND of the priority of a record whose engine holds it. -/
theorem execAmendPriority_of_held (hs : s.Serving l .amend q)
    (hb : readAll readAmendBody q.body = some (h, .priority p)) (hp : s.Permitted q h i r)
    (hrun : r.state = .running) (hen : r.engaged = some e) (hc : (s.engine e).copy = some c)
    (hh : c.handle = h) (hfree : (s.engine e).phase ≠ .free) (hle : p ≤ 7) (hw : s.ownWork = none) :
    exec (.amendPriority l) s = .next
      (((s.writeRecord i { r with priority := p }).passPriority e p).amended l .priority [byteOf p]) := by
  rw [execAmendPriority_of_permitted hs hb hp, if_neg hle.not_gt]
  obtain ⟨-, rfl, -⟩ := hp.1
  let v := s.writeRecord i { r with priority := p }
  have hset : v.settled = v := State.settled_of_ownWork (State.ownWork_none_of hw rfl rfl)
  have hheld : v.holds e (v.handleOf i) = true := by
    rw [State.writeRecord_handleOf, ← hh]
    exact State.holds_of_copy (s := v) hc hfree
  have hreq : v.requeue i r = v := if_neg (by simp [hrun])
  rw [hreq, State.passToHolder_of_held hen hset hheld]

/-- What an AMEND of the priority leaves of the machine after the change `u` of an engine, the feed and the
arbiter. -/
theorem State.amended_keeps {r' : ShelfRecord} (hq : (s.link l).request = some q)
    (hst : u.store = (s.writeRecord i r').store) (hen : ∀ f, f ≠ e → u.engine f = s.engine f)
    (hrest : u = { s with store := u.store, engines := u.engines, feed := u.feed, arb := u.arb }) :
    let t := u.amended l .priority [byteOf p]
    t.record i = some r'.seal ∧
      (∀ f, f ≠ e → t.engine f = s.engine f) ∧ s.OtherSlotsKept t i ∧
      t.store.queue = s.store.queue ∧ t.store.attention = s.store.attention ∧
      t.outbox = s.outbox ∧ t.bays = s.bays ∧ t.models = s.models ∧
      s.Answers t l q .ok [0x00#8, byteOf p] := by
  intro t
  have ht : t = { u with execLink := t.execLink, consoleLink := t.consoleLink } := u.answer_frame ..
  have hslot (j : SlotIx) : t.slot j = if j = i then ⟨(s.slot i).gen, some r'.seal⟩ else s.slot j := by
    refine Eq.trans ?_ (s.slot_writeRecord i j r')
    rw [ht, State.slot, State.slot, ← hst]
  refine ⟨congrArg ShelfSlot.record ((hslot i).trans (if_pos rfl)), fun f hf => ?_,
    fun j hj => (hslot j).trans (if_neg hj), ?_, ?_, ?_, ?_, ?_, ?_⟩
  · rw [ht]; exact hen f hf
  · rw [ht, hst]; rfl
  · rw [ht, hst]; rfl
  · rw [ht, hrest]
  · rw [ht, hrest]
  · rw [ht, hrest]
  · exact State.answer_answers (u := u) (fun k => by rw [hrest]; cases k <;> rfl) (by rw [hrest]) hq ..

/-- Settles O23: the change of the engine, the feed and the arbiter is `State.passPriority`. -/
theorem amendPriorityReachesTheEngine : Obligations.AmendPriorityReachesTheEngine := by
  intro l s q h i r p e c hs hb hp hrun hen hc hh hfree hle hw hnf hnb common held idleSum
  have he := execAmendPriority_of_held hs hb hp hrun hen hc hh hfree hle hw
  let v := s.writeRecord i { r with priority := p }
  have hv : s.writeRecord i { r with priority := p } = v := rfl
  rw [hv] at he
  have hrep (f : EngineIx) : (v.repriced e p).engine f = if f = e then
      { s.engine e with copy := some { c with priority := p } } else s.engine f :=
    State.repriced_engine (s := v) hc f
  have hframe (u : State) : u.amended l .priority [byteOf p] = { u with
      execLink := (u.amended l .priority [byteOf p]).execLink
      consoleLink := (u.amended l .priority [byteOf p]).consoleLink } := u.answer_frame ..
  have hcommon {u : State} (hst : u.store = v.store) (heng : ∀ f, f ≠ e → u.engine f = s.engine f)
      (hrest : u = { s with store := u.store, engines := u.engines, feed := u.feed, arb := u.arb }) :
      common (u.amended l .priority [byteOf p]) := by
    obtain ⟨hrec, hkept⟩ := State.amended_keeps hs.request hst heng hrest
    exact ⟨⟨_, hrec, rfl, ShelfRecord.seal_intact _⟩, hkept⟩
  refine ⟨fun hf hbk => ?_, fun w y hw hy hlt hwin hfit hunfit habs => ?_,
    fun w y b bs hw hy hlt habs hsv hch => ?_⟩
  · have hpass : v.passPriority e p = (v.repriced e p).setBankWaits (BankWait.rerank e p s.arb.waits) :=
      (State.passPriority_of_quiet (s := v) (State.repriced_feedTest hf) (State.repriced_bankTest hbk)).trans
        (State.bankReprioritise_eq ..)
    rw [hpass] at he
    refine ⟨_, he, hcommon rfl (fun f hfe => (hrep f).trans (if_neg hfe)) rfl, ?_⟩
    rw [hframe]
    have hfeed : ((v.repriced e p).setBankWaits (BankWait.rerank e p s.arb.waits)).feed =
        { s.feed with waits := FeedWait.rerank e p s.feed.waits, reservations := held } :=
      Feed.reprioritise_eq ..
    have hwaits := congrArg Feed.waits hfeed
    refine ⟨(hrep e).trans (if_pos rfl), hfeed.trans (by rw [hwaits]), rfl, fun ha => ?_, fun w hw hk => ?_, ?_,
      fun ha => reranked_of_absent ha, fun w hw hk => set_mem_reranked hnb hw hk,
      reranked_filter fun _ => rfl, fun ho => ho.rerank hwaits rfl⟩
    · exact hwaits.trans (reranked_of_absent ha)
    · rw [hwaits]
      exact set_mem_reranked hnf hw hk
    · rw [hwaits]
      exact reranked_filter fun _ => rfl
  · obtain ⟨hrest, heng, hwaits, htotal, hres⟩ :=
      State.passPriority_admits (s := v) hc hw hy hnf hlt hwin hfit hunfit habs
    generalize v.passPriority e p = u at *
    refine ⟨_, he, hcommon (by rw [hrest]) (fun f hfe => (heng f).trans (if_neg hfe)) ?_, ?_⟩
    · rw [hrest]; rfl
    · rw [hframe]
      exact ⟨(heng e).trans (if_pos rfl), hwaits, htotal, hres, by rw [hrest]; rfl⟩
  · obtain ⟨hrest, heng, hfeed, hwaits, hserv, hasked, hbank⟩ :=
      State.passPriority_serves (s := v) hc hw hy hnb hlt hsv
        ((State.chosen_congr (s := s) (t := v) rfl rfl _).trans hch) habs
    generalize v.passPriority e p = u at *
    refine ⟨_, he, hcommon (by rw [hrest]) (fun f hfe => (heng f).trans (if_neg hfe)) ?_, ?_⟩
    · rw [hrest]; rfl
    · rw [hframe]
      exact ⟨(heng e).trans (if_pos rfl), hfeed, hwaits, hserv, hasked, hbank⟩

end Sys2Proof.Machine
end

section
/-! SUPPORT. An engine that a stop cause closes, and the banks that a service lets go (R118, R165, R166). -/

namespace Sys2Proof.Machine

theorem Tab.put_put {α : Type} {n : Nat} (t : Tab α n) (i : Fin n) (x y : α) :
    (t.put i x).put i y = t.put i y :=
  Tab.ext_get fun j => by simp only [Tab.get_put]; split <;> rfl

variable {s t u : State} {e : EngineIx} {c : WorkingCopy} {why : StopCause} {v : Service} {y : BankIx}

/-! ### An engine that holds a stop cause and no verdict -/

/-- On the way from `s` the engine alone has changed among the engines: it holds the stop cause and no
verdict, keeps its working copy, and has sent nothing. -/
structure State.Stopping (s u : State) (e : EngineIx) (c : WorkingCopy) (why : StopCause) : Prop where
  engines : ∃ x : Engine, u.engines = s.engines.put e x ∧ x.copy = some c ∧ x.verdict = none ∧
    x.stop = some why
  outbox : u.outbox = s.outbox

/-- A change of the engine that leaves its copy, its verdict and its stop cause. -/
theorem State.Stopping.modEngine (h : s.Stopping u e c why) {f : Engine → Engine}
    (hf : ∀ x, (f x).copy = x.copy ∧ (f x).verdict = x.verdict ∧ (f x).stop = x.stop) :
    s.Stopping (u.modEngine e f) e c why := by
  obtain ⟨⟨x, hx, hcopy, hv, hs⟩, ho⟩ := h
  obtain ⟨h₁, h₂, h₃⟩ := hf x
  have hget : u.engine e = x := by rw [State.engine, hx, Tab.get_put_same]
  refine ⟨⟨f x, ?_, h₁.trans hcopy, h₂.trans hv, h₃.trans hs⟩, ho⟩
  rw [State.modEngine_engines, hget, hx, Tab.put_put]

/-- A change of the feed, the arbiter or the rest beside the engines and their messages. -/
theorem State.Stopping.of_engines (h : s.Stopping u e c why) (he : t.engines = u.engines)
    (ho : t.outbox = u.outbox) : s.Stopping t e c why :=
  ⟨he ▸ h.engines, ho.trans h.outbox⟩

/-- R116, R121: the close of an engine that holds a stop cause and no verdict. -/
theorem State.Stopping.close (h : s.Stopping u e c why)
    (hr : u.feed.reservations = s.feed.reservations.filter (·.engine ≠ e)) :
    s.Closes (u.engineClose e) e c why.outcome none none ∧ (u.engineClose e).feed = u.feed ∧
      (u.engineClose e).arb = u.arb := by
  obtain ⟨⟨x, hx, hcopy, hv, hs⟩, ho⟩ := h
  have hget : u.engine e = x := by rw [State.engine, hx, Tab.get_put_same]
  have hclose : u.engineClose e = (u.setEngine e Engine.free).send e
      (.close c.handle c.index c.kind why.outcome none none c.attempt false) := by
    simp only [State.engineClose, Engine.outcome, hget, hcopy, hv, hs]
  rw [hclose]
  refine ⟨⟨?_, ?_, hr⟩, rfl, rfl⟩
  · exact (congrArg (Tab.put · e Engine.free) hx).trans (Tab.put_put ..)
  · exact congrArg (fun o : Tab (List Message) 6 => o.put e (o.get e ++
      [.close c.handle c.index c.kind why.outcome none none c.attempt false])) ho

/-- R118: the engine after it has taken the stop cause. -/
def State.stopped (s : State) (e : EngineIx) (why : StopCause) : State :=
  s.modEngine e fun en => { en.quiet with stop := some why }

theorem State.stopped_engine (s : State) (e : EngineIx) (why : StopCause) :
    (s.stopped e why).engine e = { (s.engine e).quiet with stop := some why } :=
  (State.engine_modEngine ..).trans (if_pos rfl)

theorem State.stopped_grant (s : State) (e : EngineIx) (why : StopCause) :
    ((s.stopped e why).engine e).grant = (s.engine e).grant := by
  rw [State.stopped_engine]
  rfl

theorem State.stopped_stopping (hc : (s.engine e).copy = some c) (hv : (s.engine e).verdict = none) :
    s.Stopping (s.stopped e why) e c why :=
  ⟨⟨_, rfl, hc, hv, rfl⟩, rfl⟩

/-- R118, R119: the reservation is released and the engine closes. -/
theorem State.Stopping.acquireExit (h : s.Stopping u e c why) (hf : u.feed = s.feed) :
    s.Closes (u.acquireExit e) e c why.outcome none none ∧ (u.acquireExit e).feed = s.feed.drop e ∧
      (u.acquireExit e).arb = u.arb := by
  have hrel : s.Stopping (u.feedRelease e) e c why :=
    (h.of_engines (t := u.setFeed (u.feed.drop e)) rfl rfl).modEngine fun _ => ⟨rfl, rfl, rfl⟩
  have hfeed : (u.feedRelease e).feed = s.feed.drop e := congrArg (Feed.drop · e) hf
  obtain ⟨hc, hcf, hca⟩ := hrel.close (congrArg Feed.reservations hfeed)
  exact ⟨hc, hcf.trans hfeed, hca⟩

/-! ### The stop causes by phase (R118) -/

theorem State.takeStop_held (hfree : (s.engine e).phase ≠ .free) {x : StopCause}
    (hs : (s.engine e).stop = some x) : s.takeStop e why = s := by
  unfold State.takeStop
  dsimp only
  split
  next hp => exact absurd hp hfree
  next => rfl
  next => simp only [hs]

theorem State.takeStop_late {w : Verdict} (hfree : (s.engine e).phase ≠ .free)
    (hclose : (s.engine e).phase ≠ .close) (hs : (s.engine e).stop = none)
    (hv : (s.engine e).verdict = some w) :
    s.takeStop e .aborted = s.modEngine e fun en => { en with stop := some .aborted } := by
  unfold State.takeStop
  dsimp only
  split
  next hp => exact absurd hp hfree
  next hp => exact absurd hp hclose
  next => simp only [hs, hv, if_true]

section fresh

variable (hv : (s.engine e).verdict = none) (hs : (s.engine e).stop = none)
include hv hs

theorem State.takeStop_reserve (hp : (s.engine e).phase = .reserve) :
    s.takeStop e why = ((s.stopped e why).feedWithdraw e).engineClose e := by
  simp only [State.takeStop, hp, hv, hs]
  rfl

theorem State.takeStop_acquire (hp : (s.engine e).phase = .acquire) :
    s.takeStop e why = match (s.engine e).bankReq with
      | .connecting => (s.stopped e why).withdraw e
      | .waiting => ((s.stopped e why).bankWithdraw e).acquireExit e
      | _ => (s.stopped e why).acquireExit e := by
  simp only [State.takeStop, hp, hv, hs]
  rfl

theorem State.takeStop_load (hp : (s.engine e).phase = .load ∨ (s.engine e).phase = .watch) :
    s.takeStop e why = (if (s.engine e).justGranted s.now then (s.stopped e why).recallSets e
      else s.stopped e why).enterUnload e := by
  rcases hp with hp | hp
  · simp only [State.takeStop, hp, hv, hs]
    rfl
  · have hj : (s.engine e).justGranted s.now = false := by simp [Engine.justGranted, hp]
    simp only [State.takeStop, hp, hv, hs, hj]
    rfl

end fresh

/-! ### Banks that a service lets go (R165) -/

/-- R165: a chosen bank after the service has ended; `opened` says that its exchange is open. -/
def Bank.unchosen (k : Bank) (opened : Bool) : Bank :=
  match k.state with
  | .connecting => if opened then k else { k with state := .idle }
  | .connected => { k with state := .releasing, engine := none }
  | _ => k

theorem Bank.unchosen_unchosen (k : Bank) (o : Bool) : (k.unchosen o).unchosen o = k.unchosen o := by
  cases hk : k.state <;> cases o <;> simp [Bank.unchosen, hk]

/-- R165: an open CONNECT stays open, and a bank that is neither connecting nor connected is left. -/
theorem Bank.unchosen_of_kept {k : Bank} {o : Bool} (hc : k.state ≠ .connected)
    (ho : k.state = .connecting → o = true) : k.unchosen o = k := by
  unfold Bank.unchosen
  split
  next hk => rw [if_pos (ho hk)]
  next hk => exact absurd hk hc
  next => rfl

/-- R165: what the end of a service does with one chosen bank. -/
theorem State.unchoose_cases (s : State) (y : BankIx) :
    ((s.bank y).state = .connecting ∧ s.exchange y = none ∧
      s.unchoose y = (s.modBank y fun k => { k with state := .idle }).dropAsked y) ∨
    ((s.bank y).state = .connected ∧ s.unchoose y = s.askOwnRelease y) ∨
    (((s.bank y).state = .connecting → s.exchange y ≠ none) ∧ (s.bank y).state ≠ .connected ∧
      s.unchoose y = s) := by
  unfold State.unchoose
  cases hk : (s.bank y).state <;> cases hx : s.exchange y <;> simp

theorem Bank.unchosen_ne_connected (k : Bank) (o : Bool) : (k.unchosen o).state ≠ .connected := by
  cases hk : k.state <;> cases o <;> simp [Bank.unchosen, hk]

theorem State.mem_unchoose_asked (s : State) (y : BankIx) (a : Asked) :
    a ∈ (s.unchoose y).arb.asked ↔
      (a ∈ s.arb.asked ∧ ((s.bank y).state = .connecting → s.exchange y = none → a.bank ≠ y)) ∨
        ((s.bank y).state = .connected ∧ a = ⟨y, .release, false⟩) := by
  obtain ⟨hk, hx, h⟩ | ⟨hk, h⟩ | ⟨hk, hc, h⟩ := s.unchoose_cases y <;> rw [h]
  · simp [State.dropAsked, State.modBank, State.setBank, hk, hx]
  · simp [State.askOwnRelease, State.ask, State.modBank, State.setBank, hk]
  · have hno : (s.bank y).state = .connecting → s.exchange y = none → a.bank ≠ y :=
      fun h₁ h₂ => absurd h₂ (hk h₁)
    exact ⟨fun ha => .inl ⟨ha, hno⟩, fun ha => ha.elim And.left fun hcon => absurd hcon.1 hc⟩

theorem State.unchoose_frame (s : State) (y : BankIx) : ∃ ro as, s.unchoose y =
    { s with arb := { s.arb with roster := ro, asked := as } } := by
  obtain ⟨-, -, h⟩ | ⟨-, h⟩ | ⟨-, -, h⟩ := s.unchoose_cases y <;> exact ⟨_, _, h⟩

theorem State.unchoose_exchange (s : State) (y z : BankIx) : (s.unchoose y).exchange z = s.exchange z := by
  obtain ⟨ro, as, h⟩ := s.unchoose_frame y
  rw [h]
  rfl

theorem State.unchoose_bank (s : State) (y z : BankIx) : (s.unchoose y).bank z =
    if z = y then (s.bank y).unchosen (s.exchange y).isSome else s.bank z := by
  obtain ⟨hk, hx, h⟩ | ⟨hk, h⟩ | ⟨hk, hc, h⟩ := s.unchoose_cases y
  · rw [h, show (s.bank y).unchosen (s.exchange y).isSome = { s.bank y with state := .idle } by
      simp [Bank.unchosen, hk, hx]]
    exact s.bank_modBank y z fun k => { k with state := .idle }
  · rw [h, show (s.bank y).unchosen (s.exchange y).isSome =
      { s.bank y with state := .releasing, engine := none } by simp [Bank.unchosen, hk]]
    exact s.bank_modBank y z fun k => { k with state := .releasing, engine := none }
  · have hsame := Bank.unchosen_of_kept (o := (s.exchange y).isSome) hc
      fun hcon => Option.isSome_iff_ne_none.mpr (hk hcon)
    rw [h, hsame]
    split
    next hz => rw [hz]
    next => rfl

theorem State.foldl_unchoose_frame (l : List BankIx) (s : State) : ∃ ro as, l.foldl State.unchoose s =
    { s with arb := { s.arb with roster := ro, asked := as } } := by
  induction l generalizing s with
  | nil => exact ⟨_, _, rfl⟩
  | cons y l ih =>
    obtain ⟨ro, as, h⟩ := ih (s.unchoose y)
    obtain ⟨ro', as', h'⟩ := s.unchoose_frame y
    exact ⟨ro, as, h.trans (by rw [h'])⟩

theorem State.foldl_unchoose_bank (l : List BankIx) (s : State) (z : BankIx) :
    (l.foldl State.unchoose s).bank z =
      if z ∈ l then (s.bank z).unchosen (s.exchange z).isSome else s.bank z := by
  induction l generalizing s with
  | nil => rfl
  | cons y l ih =>
    rw [List.foldl_cons, ih, s.unchoose_bank, s.unchoose_exchange]
    by_cases hz : z = y
    · subst hz
      simp [Bank.unchosen_unchosen]
    · simp [hz]

/-- A bank that is not connected gains no request. -/
theorem State.foldl_unchoose_unasked (l : List BankIx) {s : State} {z : BankIx}
    (hc : (s.bank z).state ≠ .connected) (hn : ∀ a ∈ s.arb.asked, a.bank ≠ z) :
    ∀ a ∈ (l.foldl State.unchoose s).arb.asked, a.bank ≠ z := by
  induction l generalizing s with
  | nil => exact hn
  | cons y l ih =>
    refine ih ?_ fun a ha => ?_
    · rw [s.unchoose_bank]
      split
      · exact Bank.unchosen_ne_connected _ _
      · exact hc
    · obtain ⟨ha, -⟩ | ⟨hy, rfl⟩ := (s.mem_unchoose_asked y a).mp ha
      · exact hn a ha
      · exact fun hyz => hc (hyz ▸ hy)

/-- R165: the CONNECT of a chosen bank that has not been sent is dropped. -/
theorem State.foldl_unchoose_dropped {l : List BankIx} {s : State} {z : BankIx} (hz : z ∈ l)
    (hk : (s.bank z).state = .connecting) (hx : s.exchange z = none) :
    ∀ a ∈ (l.foldl State.unchoose s).arb.asked, a.bank ≠ z := by
  induction l generalizing s with
  | nil => cases hz
  | cons y l ih =>
    by_cases hzy : z = y
    · subst hzy
      refine State.foldl_unchoose_unasked l ?_ fun a ha => ?_
      · rw [s.unchoose_bank, if_pos rfl]
        exact Bank.unchosen_ne_connected _ _
      · obtain ⟨-, hne⟩ | ⟨hcon, -⟩ := (s.mem_unchoose_asked z a).mp ha
        · exact hne hk hx
        · simp [hk] at hcon
    · refine ih ((List.mem_cons.mp hz).resolve_left hzy) ?_ ((s.unchoose_exchange y z).trans hx)
      rw [s.unchoose_bank, if_neg hzy, hk]

/-- A RELEASE that has been asked of a bank that is RELEASING stays asked. -/
theorem State.foldl_unchoose_kept (l : List BankIx) {s : State} {a : Asked} (ha : a ∈ s.arb.asked)
    (hk : (s.bank a.bank).state = .releasing) : a ∈ (l.foldl State.unchoose s).arb.asked := by
  induction l generalizing s with
  | nil => exact ha
  | cons y l ih =>
    refine ih ((s.mem_unchoose_asked y a).mpr (.inl ⟨ha, fun hcon _ hay => ?_⟩)) ?_
    · rw [hay, hcon] at hk
      cases hk
    · rw [s.unchoose_bank]
      split
      next hay =>
        rw [hay] at hk
        simp [Bank.unchosen, hk]
      next => exact hk

/-- R165: RELEASE is asked for a chosen bank that is CONNECTED. -/
theorem State.foldl_unchoose_released {l : List BankIx} {s : State} {z : BankIx} (hz : z ∈ l)
    (hk : (s.bank z).state = .connected) :
    ⟨z, .release, false⟩ ∈ (l.foldl State.unchoose s).arb.asked := by
  induction l generalizing s with
  | nil => cases hz
  | cons y l ih =>
    by_cases hzy : z = y
    · subst hzy
      refine State.foldl_unchoose_kept l ((s.mem_unchoose_asked z _).mpr (.inr ⟨hk, rfl⟩)) ?_
      rw [s.unchoose_bank, if_pos rfl]
      simp [Bank.unchosen, hk]
    · refine ih ((List.mem_cons.mp hz).resolve_left hzy) ?_
      rw [s.unchoose_bank, if_neg hzy, hk]

end Sys2Proof.Machine
end

section
/-! ABORT: a QUEUED record is held, and the engine of a RUNNING one takes the stop cause in its phase. -/

namespace Sys2Proof.Machine

variable {s t u : State} {l : Link} {q : Request} {h : Handle} {i : SlotIx} {r : ShelfRecord}
  {e : EngineIx} {c : WorkingCopy} {why : StopCause} {v : Service}

/-! ### UNLOAD with every bank at level 0 (R115) -/

/-- R115: the engine on its entry of UNLOAD with no SET 0 to ask. -/
def Engine.unloading (en : Engine) : Engine :=
  { en.quiet with
    phase := .unload, watch := false, releasing := false
    grant := en.grant.map fun g => { g with rezero := false } }

theorem State.enterUnload_of_unloaded (hl : ∀ g ∈ (u.engine e).grant, (u.bank g.bank).level = 0) :
    u.enterUnload e = (u.modEngine e Engine.unloading).unloadAdvance e := by
  have hnone : ((u.engine e).grant.filter fun g => (u.bank g.bank).level ≠ 0) = [] :=
    List.filter_eq_nil_iff.mpr fun g hg => by simp [hl g hg]
  unfold State.enterUnload
  dsimp only
  rw [hnone, List.foldl_nil]
  refine congrArg (fun x : Engine => (u.setEngine e x).unloadAdvance e) ?_
  have hmap : ((u.engine e).grant.map fun g => { g with
      rezero := false, zeros := if (u.bank g.bank).level ≠ 0 then g.zeros + 1 else g.zeros }) =
      (u.engine e).grant.map fun g => { g with rezero := false } :=
    List.map_congr_left fun g hg => by simp [hl g hg]
  simp only [hmap, Engine.unloading]

theorem State.engine_unloading (u : State) (e : EngineIx) :
    (u.modEngine e Engine.unloading).engine e = (u.engine e).unloading :=
  (State.engine_modEngine ..).trans (if_pos rfl)

/-- R115: an engine whose grant is empty passes through UNLOAD. -/
theorem State.enterUnload_of_empty (hg : (u.engine e).grant = []) :
    u.enterUnload e = (u.modEngine e Engine.unloading).acquireExit e := by
  rw [State.enterUnload_of_unloaded (by simp [hg])]
  simp [State.unloadAdvance, State.engine_unloading, Engine.unloading, Engine.zerosDone, hg,
    State.acquireExit]

/-! ### An engine without banks closes (R118, R119) -/

section fresh

variable (hc : (s.engine e).copy = some c) (hv : (s.engine e).verdict = none)
  (hs : (s.engine e).stop = none)
include hc hv hs

/-- R118: a stop cause in RESERVE withdraws the submission. -/
theorem State.takeStop_reserve_closes (hp : (s.engine e).phase = .reserve)
    (hx : ∀ x ∈ s.feed.reservations, x.engine ≠ e) :
    s.Closes (s.takeStop e why) e c why.outcome none none ∧
      (s.takeStop e why).feed = s.feed.withdraw e ∧ (s.takeStop e why).arb = s.arb := by
  rw [State.takeStop_reserve hv hs hp]
  have hst : s.Stopping ((s.stopped e why).feedWithdraw e) e c why :=
    ((State.stopped_stopping hc hv).of_engines (t := (s.stopped e why).setFeed (s.feed.withdraw e))
      rfl rfl).modEngine fun _ => ⟨rfl, rfl, rfl⟩
  exact hst.close (List.filter_eq_self.mpr fun x hm => decide_eq_true (hx x hm)).symm

/-- R119: an engine in ACQUIRE that has not asked for banks releases its reservation. -/
theorem State.takeStop_unasked_closes (hp : (s.engine e).phase = .acquire)
    (hb : (s.engine e).bankReq = .notMade) :
    s.Closes (s.takeStop e why) e c why.outcome none none ∧
      (s.takeStop e why).feed = s.feed.drop e ∧ (s.takeStop e why).arb = s.arb := by
  rw [State.takeStop_acquire hv hs hp, hb]
  exact (State.stopped_stopping hc hv).acquireExit rfl

/-- R118, R166: a bank request that waits leaves the list at once. -/
theorem State.takeStop_waiting_closes (hp : (s.engine e).phase = .acquire)
    (hb : (s.engine e).bankReq = .waiting) :
    s.Closes (s.takeStop e why) e c why.outcome none none ∧ (s.takeStop e why).feed = s.feed.drop e ∧
      (s.takeStop e why).arb = { s.arb with waits := s.arb.waits.filter (·.engine ≠ e) } := by
  rw [State.takeStop_acquire hv hs hp, hb]
  have hst : s.Stopping ((s.stopped e why).bankWithdraw e) e c why :=
    (State.stopped_stopping hc hv).of_engines rfl rfl
  exact hst.acquireExit rfl

/-- R118: an engine with the empty grant of a step level of 0. -/
theorem State.takeStop_empty_closes (hp : (s.engine e).phase = .load ∨ (s.engine e).phase = .watch)
    (hg : (s.engine e).grant = []) :
    s.Closes (s.takeStop e why) e c why.outcome none none ∧
      (s.takeStop e why).feed = s.feed.drop e ∧ (s.takeStop e why).arb = s.arb := by
  rw [State.takeStop_load hv hs hp]
  let w := if (s.engine e).justGranted s.now then (s.stopped e why).recallSets e else s.stopped e why
  have hst : s.Stopping (s.stopped e why) e c why := State.stopped_stopping hc hv
  have hge : ((s.stopped e why).engine e).grant = [] :=
    (s.stopped_grant e why).trans hg
  have hw : s.Stopping w e c why ∧ (w.engine e).grant = [] ∧ w.feed = s.feed ∧ w.arb = s.arb := by
    by_cases hj : (s.engine e).justGranted s.now = true
    · rw [show w = _ from if_pos hj, State.recallSets, hge]
      refine ⟨hst.modEngine fun _ => ⟨rfl, rfl, rfl⟩, ?_, rfl, rfl⟩
      refine (congrArg Engine.grant ((State.engine_modEngine ..).trans (if_pos rfl))).trans ?_
      exact List.map_eq_nil_iff.mpr hge
    · rw [show w = _ from if_neg hj]
      exact ⟨hst, hge, rfl, rfl⟩
  obtain ⟨hwst, hwg, hwf, hwa⟩ := hw
  have hstop := hwst.modEngine (f := Engine.unloading) fun _ => ⟨rfl, rfl, rfl⟩
  obtain ⟨h₁, h₂, h₃⟩ := hstop.acquireExit hwf
  rw [State.enterUnload_of_empty (u := w) hwg]
  exact ⟨h₁, h₂, h₃.trans hwa⟩

end fresh

/-! ### A stop cause together with the completion of the grant (R119) -/

/-- R119: the banks of a grant complete at this tick are at level 0, and RELEASE is all that is asked of
them. -/
theorem State.takeStop_justGranted (hl : s.OnLoad e c) (hj : (s.engine e).justGranted s.now = true) :
    let t := s.takeStop e why
    (t.engine e).releasing = true ∧ (t.engine e).reservation = .none ∧ t.feed = s.feed.drop e ∧
      ∀ g ∈ (s.engine e).grant, (t.bank g.bank).state = .releasing ∧ (t.bank g.bank).level = 0 ∧
        ⟨g.bank, .release, false⟩ ∈ t.arb.asked ∧
        ∀ x ∈ t.arb.asked, x.bank = g.bank → x.request = .release := by
  obtain ⟨-, hp, hv, hs, hg⟩ := hl
  obtain ⟨hen, -, -, hfeed, -, -, hasked, hbank⟩ := (s.stopped e why).recallSets_spec e
  rw [s.stopped_grant] at hen hasked hbank
  rw [State.takeStop_load hv hs hp, if_pos hj]
  generalize (s.stopped e why).recallSets e = w at *
  have hgrant : (w.engine e).grant = (s.engine e).grant.map fun g => { g with load := false, zeros := 0 } :=
    congrArg Engine.grant hen
  have hzero : ∀ g ∈ (w.engine e).grant, (w.bank g.bank).level = 0 := fun g hm => by
    rw [hgrant] at hm
    obtain ⟨g', hg', rfl⟩ := List.mem_map.mp hm
    exact congrArg Bank.level ((hbank g'.bank).trans (if_pos (List.mem_map_of_mem hg')))
  have hun := w.engine_unloading e
  have hug : (w.engine e).unloading.grant =
      (s.engine e).grant.map fun g => { g with load := false, zeros := 0, rezero := false } := by
    refine (congrArg (List.map _) hgrant).trans ?_
    rw [List.map_map]
    rfl
  obtain ⟨-, hadv⟩ := (w.modEngine e Engine.unloading).unloadAdvance_held e (by rw [hun]; rfl)
    (by rw [hun]; rfl) (by rw [hun, hug]; simpa using hg)
  obtain ⟨h₁, -, h₂, -, -, -, h₃, h₄⟩ := hadv (by rw [hun, Engine.zerosDone, hug]; simp)
  rw [State.enterUnload_of_unloaded hzero]
  dsimp only
  rw [hun] at h₁ h₃ h₄
  have hbanks : (s.engine e).grant.map (·.bank) = (w.engine e).unloading.grant.map (·.bank) := by
    rw [hug, List.map_map]
    rfl
  rw [← hbanks] at h₄
  rw [hug, List.map_map] at h₃
  refine ⟨congrArg Engine.releasing h₁, congrArg Engine.reservation h₁,
    h₂.trans (congrArg (Feed.drop · e) hfeed), fun g hgm => ?_⟩
  have hmem : g.bank ∈ (s.engine e).grant.map (·.bank) := List.mem_map_of_mem hgm
  have hb := (h₄ g.bank).trans (if_pos hmem)
  refine ⟨congrArg Bank.state hb, (congrArg Bank.level hb).trans ?_, ?_, fun x hx hxb => ?_⟩
  · exact congrArg Bank.level ((hbank g.bank).trans (if_pos hmem))
  · rw [h₃]
    exact List.mem_append_right _ (List.mem_map.mpr ⟨g, hgm, rfl⟩)
  · rw [h₃, State.modEngine_arb, hasked] at hx
    rcases List.mem_append.mp hx with hx | hx
    · have hout := of_decide_eq_true (List.mem_filter.mp hx).2
      exact absurd (hxb ▸ hmem) hout
    · obtain ⟨g', -, rfl⟩ := List.mem_map.mp hx
      rfl

/-! ### A service that its engine withdraws (R165, R166) -/

/-- R165: what the end of a service makes of the roster and of the requests asked. -/
def State.LetsGo (s t : State) (chosen : List BankIx) : Prop :=
  ∀ y, (y ∉ chosen ∨ ((s.bank y).state = .connecting ∧ s.exchange y ≠ none) → t.bank y = s.bank y) ∧
    (y ∈ chosen → (s.bank y).state = .connecting → s.exchange y = none →
      t.bank y = { s.bank y with state := .idle } ∧ ∀ z ∈ t.arb.asked, z.bank ≠ y) ∧
    (y ∈ chosen → (s.bank y).state = .connected →
      t.bank y = { s.bank y with state := .releasing, engine := none } ∧
      ⟨y, .release, false⟩ ∈ t.arb.asked)

theorem State.foldl_unchoose_letsGo (l : List BankIx) (s : State) :
    s.LetsGo (l.foldl State.unchoose s) l := by
  intro y
  have hbank := State.foldl_unchoose_bank l s y
  refine ⟨fun hk => ?_, fun hy hk hx => ⟨?_, State.foldl_unchoose_dropped hy hk hx⟩,
    fun hy hk => ⟨?_, State.foldl_unchoose_released hy hk⟩⟩
  · rw [hbank]
    rcases hk with hy | ⟨hk, hx⟩
    · rw [if_neg hy]
    · simp [Bank.unchosen, hk, Option.isSome_iff_ne_none.mpr hx]
  · rw [hbank, if_pos hy]
    simp [Bank.unchosen, hk, hx]
  · rw [hbank, if_pos hy]
    simp [Bank.unchosen, hk]

/-- R165: a chosen bank keeps the service standing when its CONNECT was open before. -/
theorem State.foldl_unchoose_connectOpen {l : List BankIx} {y : BankIx} (hy : y ∈ l) :
    (l.foldl State.unchoose s).connectOpen y = true ↔
      (s.bank y).state = .connecting ∧ s.exchange y ≠ none := by
  have hx : (l.foldl State.unchoose s).exchange y = s.exchange y := by
    obtain ⟨ro, as, h⟩ := State.foldl_unchoose_frame l s
    rw [h]
    rfl
  rw [State.connectOpen, State.foldl_unchoose_bank, if_pos hy, hx]
  cases hk : (s.bank y).state <;> cases hx : s.exchange y <;> simp [Bank.unchosen, hk]

theorem State.endService_spec (s : State) (v : Service) (status : ServiceStatus) :
    let t := s.endService v status
    t = { s with arb := t.arb } ∧ t.arb.waits = s.arb.waits ∧ s.LetsGo t v.chosen ∧
      ((∃ y ∈ v.chosen, (s.bank y).state = .connecting ∧ s.exchange y ≠ none) →
        t.arb.service = some { v with status := status }) ∧
      ((∀ y ∈ v.chosen, ¬((s.bank y).state = .connecting ∧ s.exchange y ≠ none)) →
        t.arb.service = none) := by
  obtain ⟨ro, as, hf⟩ := State.foldl_unchoose_frame v.chosen s
  refine ⟨?_, ?_, State.foldl_unchoose_letsGo v.chosen s, fun ⟨y, hy, ho⟩ => ?_, fun hno => ?_⟩
  · unfold State.endService
    dsimp only
    rw [hf]
    rfl
  · refine Eq.trans (b := (v.chosen.foldl State.unchoose s).arb.waits) rfl ?_
    rw [hf]
  · exact if_pos (List.any_eq_true.mpr ⟨y, hy, (State.foldl_unchoose_connectOpen hy).mpr ho⟩)
  · refine if_neg fun hany => ?_
    obtain ⟨y, hy, ho⟩ := List.any_eq_true.mp hany
    exact hno y hy ((State.foldl_unchoose_connectOpen hy).mp ho)

theorem State.bankTest_of_waits (h : s.arb.waits = []) : s.bankTest = s :=
  State.bankTest_of_unmet (.inr fun w hw => by simp [h] at hw)

section service

variable (hc : (s.engine e).copy = some c) (hv : (s.engine e).verdict = none)
  (hs : (s.engine e).stop = none) (hp : (s.engine e).phase = .acquire)
  (hb : (s.engine e).bankReq = .connecting) (hsv : s.arb.service = some v) (hve : v.engine = e)
  (hact : v.status = .active)
include hv hs hp hb hsv hve hact

/-- R166: the withdrawal of a request in service ends the service. -/
theorem State.takeStop_connecting : s.takeStop e why =
    if ((s.stopped e why).endService v .withdrawn).arb.service = none then
      ((s.stopped e why).endService v .withdrawn).withdrawComplete e
    else (s.stopped e why).endService v .withdrawn := by
  have hsv' : (s.stopped e why).arb.service = some v := hsv
  rw [State.takeStop_acquire hv hs hp, hb]
  simp only [State.withdraw, hsv', hve, hact, and_self, if_true]

/-- R165, R166: while a CONNECT of the request is open the engine waits for its withdrawal. -/
theorem State.takeStop_connecting_waits
    (ho : ∃ y ∈ v.chosen, (s.bank y).state = .connecting ∧ s.exchange y ≠ none) :
    let t := s.takeStop e why
    t = { s.stopped e why with arb := t.arb } ∧ s.LetsGo t v.chosen ∧
      t.arb.service = some { v with status := .withdrawn } := by
  obtain ⟨hframe, -, hgo, hopen, -⟩ := (s.stopped e why).endService_spec v .withdrawn
  have hstand := hopen ho
  have ht : s.takeStop e why = (s.stopped e why).endService v .withdrawn := by
    rw [State.takeStop_connecting hv hs hp hb hsv hve hact, if_neg (by rw [hstand]; simp)]
  dsimp only
  rw [ht]
  exact ⟨hframe, hgo, hstand⟩

include hc in
/-- R166: with no CONNECT open the withdrawal is complete at once, and the engine closes. -/
theorem State.takeStop_connecting_closes (hw : s.arb.waits = [])
    (hno : ∀ y ∈ v.chosen, ¬((s.bank y).state = .connecting ∧ s.exchange y ≠ none)) :
    let t := s.takeStop e why
    s.Closes t e c why.outcome none none ∧ t.feed = s.feed.drop e ∧ s.LetsGo t v.chosen ∧
      t.arb.service = none ∧ t.arb.waits = [] := by
  obtain ⟨hframe, hwaits, hgo, -, hshut⟩ := (s.stopped e why).endService_spec v .withdrawn
  have hend := hshut hno
  have ht : s.takeStop e why = ((s.stopped e why).endService v .withdrawn).withdrawComplete e := by
    rw [State.takeStop_connecting hv hs hp hb hsv hve hact, if_pos hend]
  dsimp only
  rw [ht]
  generalize (s.stopped e why).endService v .withdrawn = u at *
  have hst : s.Stopping u e c why :=
    (State.stopped_stopping hc hv).of_engines (by rw [hframe]) (by rw [hframe])
  obtain ⟨hcl, hfeed, harb⟩ := hst.acquireExit (by rw [hframe]; rfl)
  have htest : u.withdrawComplete e = u.acquireExit e :=
    State.bankTest_of_waits (by rw [harb, hwaits]; exact hw)
  rw [htest]
  refine ⟨hcl, hfeed, fun y => ?_, by rw [harb]; exact hend, by rw [harb, hwaits]; exact hw⟩
  have hbank : (u.acquireExit e).bank y = u.bank y := congrArg (·.roster.get y) harb
  rw [hbank, harb]
  exact hgo y

end service

end Sys2Proof.Machine
end

section
/-! ABORT, by the state of the record and by the phase of its engine (R67). -/

namespace Sys2Proof.Machine

variable {s t u : State} {l : Link} {q : Request} {h : Handle} {i : SlotIx} {r : ShelfRecord}
  {e : EngineIx} {c : WorkingCopy}

/-! ### The three answers (R67) -/

section answered

variable (hs : s.Serving l .abort q) (hb : readAll readHandle q.body = some h) (hp : s.Permitted q h i r)
include hs hb hp

theorem execAbort_of_queued (hst : r.state = .queued) :
    exec (.abort l) s = .next ((s.holdQueued i r .host).answer l .ok []) := by
  have hv : s.validate h false q.tier State.guardTier = (s, .pass (i, r)) :=
    hp.1.validate (by simp [hp.2.1]) hp.2.2
  refine (State.exec_of_serving hs rfl).trans (congrArg Host.Outcome.next ?_)
  simp only [hb, hv, hst]

theorem execAbort_of_running (hst : r.state = .running) :
    exec (.abort l) s = .next ((s.stopHolder i r .aborted).answer l .ok []) := by
  have hv : s.validate h false q.tier State.guardTier = (s, .pass (i, r)) :=
    hp.1.validate (by simp [hp.2.1]) hp.2.2
  refine (State.exec_of_serving hs rfl).trans (congrArg Host.Outcome.next ?_)
  simp only [hb, hv, hst]

theorem execAbort_refuses (hq : r.state ≠ .queued) (hr : r.state ≠ .running) :
    s.Refuses (.abort l) l q .wrongState := by
  have hv : s.validate h false q.tier State.guardTier = (s, .pass (i, r)) :=
    hp.1.validate (by simp [hp.2.1]) hp.2.2
  refine State.refuses_of_serving hs rfl ?_
  simp only [hb, hv]

end answered

/-! ### A QUEUED record (R85, R191, R192) -/

/-- R85: the record is held, out of the start queue and on the attention list. -/
theorem State.holdQueued_spec (s : State) (i : SlotIx) (r : ShelfRecord) (why : HoldReason) :
    let t := s.holdQueued i r why
    t = { s with store := t.store } ∧
      (∀ j, t.slot j = if j = i then
        ⟨(s.slot i).gen, some { r with state := .held, hold := some why : ShelfRecord }.seal⟩ else s.slot j) ∧
      t.store.queue = s.store.queue.filter (· ≠ i) ∧
      t.store.attention = attendList (s.handleOf i) Reasons.onlyHeld s.store.attention ∧
      t.store.pulse = if s.straps.pulse && !s.store.attention.any (·.handle = s.handleOf i) then some s.now
        else s.store.pulse := by
  have hh : ((s.writeRecord i { r with state := .held, hold := some why }).leaveQueue i).handleOf i =
      s.handleOf i := s.writeRecord_handleOf ..
  refine ⟨rfl, fun j => s.slot_writeRecord i j _, rfl, ?_, ?_⟩
  · exact congrArg (attendList · _ _) hh
  · exact congrArg (fun k => if s.straps.pulse && !s.store.attention.any (·.handle = k) then some s.now
      else s.store.pulse) hh

/-- R192: once a record has joined or gained reasons the attention line follows the pulse alone. -/
theorem State.attentionActive_of_attended {k : Handle} {why : Reasons} {as : List AttnEntry}
    (hh : s.held = false) (ha : s.store.attention = attendList k why as) :
    s.attentionActive = (!s.straps.pulse || s.store.pulse.isSome) := by
  obtain ⟨y, hy, -⟩ := attendList_mem k why as
  exact State.attentionActive_of_listed hh (ha ▸ hy)

/-- R67, R85: the machine after the answer to the ABORT of a QUEUED record. -/
theorem State.holdQueued_answered (hheld : s.held = false) (hq : (s.link l).request = some q) (i : SlotIx)
    (r : ShelfRecord) (why : HoldReason) :
    let t := (s.holdQueued i r why).answer l .ok []
    t = { s with store := t.store, execLink := t.execLink, consoleLink := t.consoleLink } ∧
      s.Answers t l q .ok [] ∧
      (∀ j, t.slot j = if j = i then
        ⟨(s.slot i).gen, some { r with state := .held, hold := some why : ShelfRecord }.seal⟩ else s.slot j) ∧
      t.store.queue = s.store.queue.filter (· ≠ i) ∧
      t.store.attention = attendList (s.handleOf i) Reasons.onlyHeld s.store.attention ∧
      t.store.pulse = (if s.straps.pulse && !s.store.attention.any (·.handle = s.handleOf i) then some s.now
        else s.store.pulse) ∧
      t.attentionActive = (!s.straps.pulse || t.store.pulse.isSome) := by
  obtain ⟨hu, hslot, hqueue, hatt, hpulse⟩ := s.holdQueued_spec i r why
  have hans : s.Answers ((s.holdQueued i r why).answer l .ok []) l q .ok [] :=
    State.answer_answers (fun k => by rw [hu]; cases k <;> rfl) (by rw [hu]) hq ..
  have ht := (s.holdQueued i r why).answer_frame l .ok []
  have hstore : ((s.holdQueued i r why).answer l .ok []).store = (s.holdQueued i r why).store :=
    State.answer_store ..
  dsimp only
  generalize (s.holdQueued i r why).answer l .ok [] = t at *
  have hframe : t = { s with store := t.store, execLink := t.execLink, consoleLink := t.consoleLink } := by
    rw [hstore]
    refine ht.trans ?_
    exact congrArg (fun v : State => { v with execLink := t.execLink, consoleLink := t.consoleLink }) hu
  have hslots (j : SlotIx) : t.slot j = (s.holdQueued i r why).slot j := by rw [State.slot, hstore]; rfl
  rw [← hstore] at hqueue hatt hpulse
  have hactive := State.attentionActive_of_attended (by rw [hframe]; exact hheld) hatt
  rw [show t.straps = s.straps by rw [hframe]] at hactive
  exact ⟨hframe, hans, fun j => (hslots j).trans (hslot j), hqueue, hatt, hpulse, hactive⟩

/-! ### The engine of a RUNNING record (R117 to R119) -/

/-- R67: the stop cause reaches the engine that holds the record. -/
theorem State.stopHolder_of_held (hen : r.engaged = some e) (hc : (s.engine e).copy = some c)
    (hh : c.handle = s.handleOf i) (hfree : (s.engine e).phase ≠ .free) (why : StopCause) :
    s.stopHolder i r why = s.stopEngine e why := by
  have hheld : s.holds e (s.handleOf i) = true := hh ▸ State.holds_of_copy hc hfree
  simp only [State.stopHolder, hen, hheld, if_true]

/-- R176: a stop cause that leaves no submission in the list has the supervisor test nothing. -/
theorem State.stopEngine_of_waits {why : StopCause} (hw : (s.takeStop e why).feed.waits = []) :
    s.stopEngine e why = s.takeStop e why :=
  State.feedRetest_of_waits _ _ hw

theorem State.stopEngine_of_feed {why : StopCause} (hf : (s.takeStop e why).feed = s.feed) :
    s.stopEngine e why = s.takeStop e why :=
  if_pos ⟨congrArg Feed.reservations hf, congrArg Feed.waits hf⟩

/-- The machine after an ABORT of a RUNNING record whose engine has come to the state `u`. -/
structure State.Aborted (s t u : State) (l : Link) (q : Request) : Prop where
  answers : s.Answers t l q .ok []
  engines : t.engines = u.engines
  outbox : t.outbox = u.outbox
  feed : t.feed = u.feed
  arb : t.arb = u.arb
  frame : t = { s with engines := t.engines, outbox := t.outbox, feed := t.feed, arb := t.arb,
                       execLink := t.execLink, consoleLink := t.consoleLink }

theorem State.aborted_answer (hq : (s.link l).request = some q) (hu : u.shell = s.shell) :
    s.Aborted (u.answer l .ok []) u l q := by
  have hf := State.shell_frame hu
  have ht := u.answer_frame l .ok []
  refine ⟨State.answer_answers (u := u) (fun k => by rw [hf]; cases k <;> rfl) (by rw [hf]) hq ..,
    by rw [ht], by rw [ht], by rw [ht], by rw [ht], ?_⟩
  generalize u.answer l .ok [] = t at *
  rw [ht, hf]

theorem State.Aborted.closes {o : StepOutcome} (ha : s.Aborted t u l q)
    (h : s.Closes u e c o none none) : s.Closes t e c o none none := by
  obtain ⟨h₁, h₂, h₃⟩ := h
  exact ⟨ha.engines.trans h₁, ha.outbox.trans h₂, (congrArg Feed.reservations ha.feed).trans h₃⟩

theorem State.Aborted.engine_eq (ha : s.Aborted t u l q) (f : EngineIx) : t.engine f = u.engine f :=
  congrArg (·.get f) ha.engines

theorem State.Aborted.bank_eq (ha : s.Aborted t u l q) (y : BankIx) : t.bank y = u.bank y :=
  congrArg (·.roster.get y) ha.arb

theorem State.Aborted.letsGo {chosen : List BankIx} (ha : s.Aborted t u l q) (h : s.LetsGo u chosen) :
    s.LetsGo t chosen := fun y => by
  rw [ha.bank_eq, ha.arb]
  exact h y

/-- Settles O29: `State.holdQueued_spec` holds a QUEUED record, and `State.takeStop` of each phase stops the
engine of a RUNNING one. -/
theorem abortHoldsOrStops : Obligations.AbortHoldsOrStops := by
  refine ⟨fun l s q h i r hs hb hp hq hr => execAbort_refuses hs hb hp hq hr,
    fun l s q h i r hs hb hp hst => ?_, fun l s q h i r e c hs hb hp hst hen hc hh => ?_⟩
  · have he := execAbort_of_queued hs hb hp hst
    obtain ⟨-, rfl, -⟩ := hp.1
    obtain ⟨hframe, hans, hslot, hqueue, hatt, hpulse, hactive⟩ :=
      State.holdQueued_answered hs.1 hs.request i r .host
    generalize (s.holdQueued i r .host).answer l .ok [] = t at *
    refine ⟨_, _, he, (hslot i).trans (if_pos rfl), rfl, ShelfRecord.seal_intact _, hqueue,
      fun habs => ?_, fun ⟨y, hy, hyh⟩ => ?_, fun j hj => (hslot j).trans (if_neg hj), hans, hframe⟩
    · have hany : s.store.attention.any (·.handle = s.handleOf i) = false := by simpa using habs
      rw [hany, Bool.not_false, Bool.and_true] at hpulse
      refine ⟨hatt.trans (attendList_of_absent habs _), hpulse, ?_⟩
      rw [hactive, hpulse]
      cases s.straps.pulse <;> rfl
    · have hany : s.store.attention.any (·.handle = s.handleOf i) = true :=
        List.any_eq_true.mpr ⟨y, hy, decide_eq_true hyh⟩
      rw [hany, Bool.not_true, Bool.and_false, if_neg Bool.false_ne_true] at hpulse
      refine ⟨hpulse, ?_⟩
      rw [hactive, hpulse]
      simp [Option.isSome_iff_ne_none]
  · intro closed others
    have hexec (hfree : (s.engine e).phase ≠ .free) :
        exec (.abort l) s = .next ((s.stopEngine e .aborted).answer l .ok []) := by
      rw [execAbort_of_running hs hb hp hst,
        State.stopHolder_of_held hen hc (hh.trans hp.1.2.1) hfree]
    have ha : s.Aborted ((s.stopEngine e .aborted).answer l .ok []) (s.stopEngine e .aborted) l q :=
      State.aborted_answer hs.request (s.stopEngine_shell ..)
    refine ⟨fun why hfree hsome => ?_, fun v hfree hclose hnone hsome => ?_, fun hv hno => ⟨fun hph hws hxs => ?_,
      fun hw => ⟨fun hph hreq => ?_, fun hph hreq => ?_, fun hph hg => ?_, fun v hph hreq hsv hve hact => ?_,
      fun hph hg => ?_⟩⟩⟩
    · have hkeep := s.takeStop_held (why := .aborted) hfree hsome
      have hstop : s.stopEngine e .aborted = s :=
        (State.stopEngine_of_feed (congrArg State.feed hkeep)).trans hkeep
      rw [hstop] at ha hexec
      exact ⟨_, hexec hfree, ha.answers, s.answer_frame ..⟩
    · have hlate := State.takeStop_late hfree hclose hnone hsome
      have hstop := (State.stopEngine_of_feed (by rw [hlate]; rfl)).trans hlate
      rw [hstop] at ha hexec
      exact ⟨_, hexec hfree, ha.answers, State.answer_frame ..⟩
    · obtain ⟨hcl, hfeed, harb⟩ := State.takeStop_reserve_closes (why := .aborted) hc hv hno hph hxs
      have hempty : (s.takeStop e .aborted).feed.waits = [] := by
        rw [hfeed]
        exact List.filter_eq_nil_iff.mpr fun w hm => by simp [hws w hm]
      rw [State.stopEngine_of_waits hempty] at ha hexec
      refine ⟨_, ⟨hexec (by simp [hph]), ha.answers, ha.closes hcl, ha.frame⟩, by rw [ha.feed, hempty], ?_, ?_,
        ha.arb.trans harb⟩
      · rw [ha.feed, hfeed]; rfl
      · rw [ha.feed, hfeed]; rfl
    · obtain ⟨hcl, hfeed, harb⟩ := State.takeStop_unasked_closes (why := .aborted) hc hv hno hph hreq
      rw [State.stopEngine_of_waits (by rw [hfeed]; exact hw)] at ha hexec
      exact ⟨_, ⟨hexec (by simp [hph]), ha.answers, ha.closes hcl, ha.frame⟩, ha.arb.trans harb⟩
    · obtain ⟨hcl, hfeed, harb⟩ := State.takeStop_waiting_closes (why := .aborted) hc hv hno hph hreq
      rw [State.stopEngine_of_waits (by rw [hfeed]; exact hw)] at ha hexec
      exact ⟨_, ⟨hexec (by simp [hph]), ha.answers, ha.closes hcl, ha.frame⟩, ha.arb.trans harb⟩
    · obtain ⟨hcl, hfeed, harb⟩ := State.takeStop_empty_closes (why := .aborted) hc hv hno hph hg
      rw [State.stopEngine_of_waits (by rw [hfeed]; exact hw)] at ha hexec
      exact ⟨_, ⟨hexec (by rcases hph with hph | hph <;> simp [hph]), ha.answers, ha.closes hcl, ha.frame⟩,
        ha.arb.trans harb⟩
    · intro opened letGo
      refine ⟨fun ho => ?_, fun hshut hnowait => ?_⟩
      · obtain ⟨hframe, hgo, hserv⟩ :=
          State.takeStop_connecting_waits (why := .aborted) hv hno hph hreq hsv hve hact ho
        have hen' := s.stopped_engine e .aborted
        have hothers (f : EngineIx) (hf : f ≠ e) : (s.stopped e .aborted).engine f = s.engine f :=
          (State.engine_modEngine ..).trans (if_neg hf)
        rw [State.stopEngine_of_feed (by rw [hframe]; rfl)] at ha hexec
        generalize s.takeStop e .aborted = u at *
        have hengine (f : EngineIx) : (u.answer l .ok []).engine f = (s.stopped e .aborted).engine f :=
          (ha.engine_eq f).trans (by rw [hframe]; rfl)
        refine ⟨_, hexec (by simp [hph]), ha.answers, ha.letsGo hgo, (congrArg Arbiter.service ha.arb).trans hserv,
          ha.feed.trans (by rw [hframe]; rfl), ha.outbox.trans (by rw [hframe]; rfl),
          fun f hf => (hengine f).trans (hothers f hf), ?_⟩
        rw [hengine, hen']
        exact ⟨hph, hreq, rfl, hc, rfl⟩
      · obtain ⟨hcl, hfeed, hgo, hserv, hwaits⟩ :=
          State.takeStop_connecting_closes (why := .aborted) hc hv hno hph hreq hsv hve hact hnowait hshut
        rw [State.stopEngine_of_waits (by rw [hfeed]; exact hw)] at ha hexec
        exact ⟨_, ⟨hexec (by simp [hph]), ha.answers, ha.closes hcl, ha.frame⟩, ha.letsGo hgo,
          (congrArg Arbiter.service ha.arb).trans hserv, (congrArg Arbiter.waits ha.arb).trans hwaits⟩
    · have hl : s.OnLoad e c := ⟨hc, hph, hv, hno, hg⟩
      obtain ⟨⟨hunl, hwatch, hcopy, -, -, hothers⟩, hstop, hverd, -⟩ := s.takeStop_unloads e c .aborted hl
      have hjust := State.takeStop_justGranted (why := .aborted) hl
      rw [s.stopEngine_onLoad e c .aborted hl hw] at ha hexec
      generalize s.takeStop e .aborted = u at *
      have hfr := ha.frame
      refine ⟨_, hexec (by rcases hph with hph | hph <;> simp [hph]), ?_⟩
      simp only [ha.engine_eq]
      refine ⟨hstop, hverd, hunl, hwatch, hcopy.trans hc, hothers, by rw [hfr], by rw [hfr], by rw [hfr],
        by rw [hfr], ha.answers, fun hload hgr hset => ?_⟩
      obtain ⟨h₁, h₂, h₃, h₄⟩ := hjust (by simp [Engine.justGranted, hload, hgr, hset])
      simp only [ha.bank_eq, ha.arb, ha.feed]
      refine ⟨h₁, h₂, ?_, h₄⟩
      rw [h₃]
      exact fun x hx => of_decide_eq_true (List.mem_filter.mp hx).2

end Sys2Proof.Machine
end

section
/-! SUPPORT. Records and bays bound to each other, and banks sound: what a write of a record, of a binding and of a roster
entry keeps. -/

namespace Sys2Proof.Machine

variable {s t u : State}

/-- R156: a roster entry that is OFFLINE, IDLE or CONNECTING names no bay and no engine, and a CONNECTED one names
one of each. -/
def Bank.Sound (k : Bank) : Prop :=
  (k.state = .offline ∨ k.state = .idle ∨ k.state = .connecting → k.bay = none ∧ k.engine = none) ∧
    (k.state = .connected → k.bay.isSome = true ∧ k.engine.isSome = true)

theorem State.banksSound_iff (s : State) : s.BanksSound ↔ ∀ b, (s.bank b).Sound := Iff.rfl

/-! ### Bindings -/

/-- Bindings that agree are read from the bay field of each record, from the generations and from the bindings. -/
theorem State.BindingsAgree.of_reads (h : s.BindingsAgree)
    (hr : ∀ i, (t.record i).bind (·.bay) = (s.record i).bind (·.bay))
    (hg : ∀ i, t.handleOf i = s.handleOf i) (hb : ∀ b, (t.bay b).binding = (s.bay b).binding)
    (hst : ∀ i r, t.record i = some r → r.state = .staged → r.bay = none) : t.BindingsAgree := by
  obtain ⟨h₁, h₂, -⟩ := h
  refine ⟨fun i b => ?_, fun b k hk => ?_, hst⟩
  · rw [hr, hb, hg]
    exact h₁ i b
  · rw [hg]
    exact h₂ b k ((hb b).symm.trans hk)

/-- A change of neither a slot nor a binding. -/
theorem State.BindingsAgree.of_slots (h : s.BindingsAgree) (hs : t.store.slots = s.store.slots)
    (hb : ∀ b, (t.bay b).binding = (s.bay b).binding) : t.BindingsAgree := by
  have hslot (i : SlotIx) : t.slot i = s.slot i := congrArg (·.get i) hs
  have hrec (i : SlotIx) : t.record i = s.record i := congrArg ShelfSlot.record (hslot i)
  refine h.of_reads (fun i => by rw [hrec]) (fun i => ?_) hb fun i r hr => h.2.2 i r ((hrec i).symm.trans hr)
  simp only [State.handleOf, hslot]

/-- A write of a slot that keeps the bay field, or the absence of one; a record that it makes STAGED has no bay. -/
theorem State.BindingsAgree.writeRecord {i : SlotIx} {r : ShelfRecord} (h : s.BindingsAgree)
    (hb : (s.record i).bind (·.bay) = r.bay) (hst : r.state = .staged → r.bay = none) :
    (s.writeRecord i r).BindingsAgree := by
  refine h.of_reads (fun j => ?_) (fun j => s.writeRecord_handleOf i j r) (fun b => rfl) fun j q hq => ?_
  · rw [s.record_writeRecord]
    split
    next hj => rw [hj, hb]; rfl
    next => rfl
  · rw [s.record_writeRecord] at hq
    split at hq
    · cases hq
      exact hst
    · exact h.2.2 j q hq

/-- One handle names one slot. -/
theorem State.handleOf_inj {i j : SlotIx} (h : s.handleOf i = s.handleOf j) : i = j :=
  congrArg Handle.index h

/-- R79: a bay that is bound is named by the record of the slot that its binding names. -/
theorem State.BindingsAgree.of_boundSlot {i : SlotIx} {b : BayIx} (h : s.BindingsAgree)
    (hb : s.boundSlot b = some i) :
    (s.bay b).binding = some (s.handleOf i) ∧ (s.record i).bind (·.bay) = some b := by
  obtain ⟨k, hk, rfl⟩ := Option.map_eq_some_iff.mp hb
  have hbind : (s.bay b).binding = some (s.handleOf k.index) := hk.trans (congrArg some (h.2.1 b k hk))
  exact ⟨hbind, (h.1 k.index b).mpr hbind⟩

/-- R80: BIND ties a STAGED record to a FREE bay. -/
theorem State.BindingsAgree.bindRecord {i : SlotIx} {r : ShelfRecord} {b : BayIx} (h : s.BindingsAgree)
    (hr : s.record i = some r) (hst : r.state = .staged) (hb : (s.bay b).binding = none) :
    (s.bindRecord i r b).BindingsAgree := by
  obtain ⟨h₁, h₂, h₃⟩ := h
  have hnone : r.bay = none := h₃ i r hr hst
  have hrec (j : SlotIx) := s.record_writeRecord i j
    { r with bay := some b, state := if (s.bay b).seated then .ready else .bound }
  have hbay (c : BayIx) : ((s.bindRecord i r b).bay c).binding =
      if c = b then some (s.handleOf i) else (s.bay c).binding := by
    refine (congrArg Bay.binding (State.bay_setBay ..)).trans ?_
    split <;> rfl
  have hh (j : SlotIx) : (s.bindRecord i r b).handleOf j = s.handleOf j := s.writeRecord_handleOf ..
  refine ⟨fun j c => ?_, fun c k hk => ?_, fun j q hq hs => ?_⟩
  · have hfree := h₁ j c
    rw [hh, hbay, show (s.bindRecord i r b).record j = _ from hrec j]
    by_cases hj : j = i <;> by_cases hc : c = b
    · simp [hj, hc]
    · subst hj
      simp only [hr, Option.bind_some, hnone] at hfree
      simpa [hc, Ne.symm hc] using hfree
    · subst hc
      rw [hb] at hfree
      have hij : s.handleOf i ≠ s.handleOf j := fun e => hj (State.handleOf_inj e).symm
      simpa [hj, hij] using hfree
    · simpa [hj, hc] using hfree
  · rw [hbay] at hk
    rw [hh]
    split at hk
    · cases hk; rfl
    · exact h₂ c k hk
  · rw [show (s.bindRecord i r b).record j = _ from hrec j] at hq
    split at hq
    · cases hq
      have hs : (if (s.bay b).seated then RecState.ready else .bound) = .staged := hs
      split at hs <;> cases hs
    · exact h₃ j q hq hs

/-- R81: an unbind frees the bay and the record that it names. -/
theorem State.BindingsAgree.unbindRecord {i : SlotIx} {r : ShelfRecord} {b : BayIx} (h : s.BindingsAgree)
    (hb : s.boundSlot b = some i) (hr : s.record i = some r) : (s.unbindRecord i r b).BindingsAgree := by
  obtain ⟨hbind, hrb⟩ := h.of_boundSlot hb
  obtain ⟨h₁, h₂, h₃⟩ := h
  have hrec (j : SlotIx) := s.record_writeRecord i j { r with bay := none, state := unboundState r.state }
  have hbay (c : BayIx) : ((s.unbindRecord i r b).bay c).binding =
      if c = b then none else (s.bay c).binding := by
    refine (congrArg Bay.binding (State.bay_setBay ..)).trans ?_
    split <;> rfl
  have hh (j : SlotIx) : (s.unbindRecord i r b).handleOf j = s.handleOf j := s.writeRecord_handleOf ..
  refine ⟨fun j c => ?_, fun c k hk => ?_, fun j q hq hs => ?_⟩
  · have hold := h₁ j c
    rw [hh, hbay, show (s.unbindRecord i r b).record j = _ from hrec j]
    by_cases hj : j = i <;> by_cases hc : c = b
    · simp [hj, hc]
    · subst hj
      rw [hrb] at hold
      simpa [hc, Ne.symm hc] using hold
    · subst hc
      rw [hbind] at hold
      have hij : s.handleOf i ≠ s.handleOf j := fun e => hj (State.handleOf_inj e).symm
      simpa [hj, hij] using hold
    · simpa [hj, hc] using hold
  · rw [hbay] at hk
    rw [hh]
    split at hk
    · cases hk
    · exact h₂ c k hk
  · rw [show (s.unbindRecord i r b).record j = _ from hrec j] at hq
    split at hq
    · cases hq; rfl
    · exact h₃ j q hq hs

/-- R14: a retired slot has another generation. -/
theorem State.nextGen_ne (g : Nat) : State.nextGen g ≠ g := by
  unfold State.nextGen
  split <;> omega

/-- R69: a slot that is retired with every bay bound to its record freed. -/
theorem State.BindingsAgree.retire {i : SlotIx} (h : s.BindingsAgree)
    (hslot : ∀ j, t.slot j = if j = i then ⟨State.nextGen (s.slot i).gen, none⟩ else s.slot j)
    (hbay : ∀ b, (t.bay b).binding =
      if (s.bay b).binding = some (s.handleOf i) then none else (s.bay b).binding) : t.BindingsAgree := by
  obtain ⟨h₁, h₂, h₃⟩ := h
  have hrec (j : SlotIx) : t.record j = if j = i then none else s.record j := by
    unfold State.record
    rw [hslot]
    split <;> rfl
  have hhi : t.handleOf i ≠ s.handleOf i := fun e => by
    have hg := congrArg Handle.gen e
    simp only [State.handleOf, hslot, if_true] at hg
    exact State.nextGen_ne _ hg
  have hhj {j : SlotIx} (hj : j ≠ i) : t.handleOf j = s.handleOf j := by
    simp only [State.handleOf, hslot, if_neg hj]
  -- A binding that is left names another slot, whose generation has not changed.
  have hleft {b : BayIx} {k : Handle} (hk : (t.bay b).binding = some k) :
      (s.bay b).binding = some k ∧ k.index ≠ i := by
    rw [hbay] at hk
    split at hk
    · cases hk
    next hne => exact ⟨hk, fun e => hne (hk.trans (congrArg some (e ▸ h₂ b k hk)))⟩
  refine ⟨fun j b => ?_, fun b k hk => ?_, fun j q hq => ?_⟩
  · rw [hrec]
    by_cases hj : j = i
    · subst hj
      rw [if_pos rfl]
      exact iff_of_false (by simp) fun hk => (hleft hk).2 rfl
    · rw [if_neg hj, h₁ j b, hbay, hhj hj]
      have hij : s.handleOf j ≠ s.handleOf i := fun e => hj (State.handleOf_inj e)
      constructor
      · intro hk
        rw [if_neg (by rw [hk]; simpa using hij)]
        exact hk
      · intro hk
        split at hk
        · cases hk
        · exact hk
  · obtain ⟨hk, hi⟩ := hleft hk
    rw [hhj hi]
    exact h₂ b k hk
  · rw [hrec] at hq
    split at hq
    · cases hq
    · exact h₃ j q hq

end Sys2Proof.Machine
end

section
/-! SUPPORT. The relation of two states from the first of which to the second records and bays stay bound to each other
and banks stay sound, carried through every operation of the engines, of the feed supervisor and of the bank arbiter. -/

namespace Sys2Proof.Machine

/-- What the agreement of bindings and the soundness of banks read. -/
def State.bindingReads (s : State) : Tab ShelfSlot 32 × (BayIx → Option Handle) × Tab Bank 8 :=
  (s.store.slots, fun b => (s.bay b).binding, s.arb.roster)

/-- Bindings that agree in `s` agree in `t`, and banks that are sound in `s` are sound in `t`. -/
structure State.StaysBound (s t : State) : Prop where
  bindings : s.BindingsAgree → t.BindingsAgree
  banks : s.BanksSound → t.BanksSound

namespace State.StaysBound

variable {s t u : State}

theorem refl (s : State) : s.StaysBound s := ⟨id, id⟩

theorem trans (h : s.StaysBound t) (k : t.StaysBound u) : s.StaysBound u :=
  ⟨k.bindings ∘ h.bindings, k.banks ∘ h.banks⟩

/-- A change of neither a slot, a binding nor the roster. -/
theorem of_reads (h : s.StaysBound t) (hs : u.store.slots = t.store.slots)
    (hb : ∀ b, (u.bay b).binding = (t.bay b).binding) (hr : u.arb.roster = t.arb.roster) :
    s.StaysBound u where
  bindings hs' := (h.bindings hs').of_slots hs hb
  banks hs' := by
    have hbank (b : BankIx) : u.bank b = t.bank b := congrArg (·.get b) hr
    simpa only [State.banksSound_iff, hbank] using h.banks hs'

/-- A change of what the bindings and the banks do not read, as it computes. -/
theorem same (h : s.StaysBound t) (hk : u.bindingReads = t.bindingReads) : s.StaysBound u :=
  h.of_reads (congrArg (·.1) hk) (congrFun (congrArg (·.2.1) hk)) (congrArg (·.2.2) hk)

theorem foldl {α : Type} {f : State → α → State} (hf : ∀ v a, s.StaysBound v → s.StaysBound (f v a))
    (l : List α) (h : s.StaysBound t) : s.StaysBound (l.foldl f t) := by
  induction l generalizing t with
  | nil => exact h
  | cons a l ih => exact ih (hf t a h)

/-! ### Single writes -/

theorem modEngine (h : s.StaysBound t) (e : EngineIx) (f : Engine → Engine) :
    s.StaysBound (t.modEngine e f) := h.same rfl

theorem ask (h : s.StaysBound t) (a : Asked) : s.StaysBound (t.ask a) := h.same rfl

theorem send (h : s.StaysBound t) (e : EngineIx) (m : Message) : s.StaysBound (t.send e m) := h.same rfl

/-- A change of one roster entry that keeps it sound. -/
theorem modBank (h : s.StaysBound t) (b : BankIx) {f : Bank → Bank}
    (hf : (t.bank b).Sound → (f (t.bank b)).Sound) : s.StaysBound (t.modBank b f) where
  bindings hs := (h.bindings hs).of_slots rfl fun _ => rfl
  banks hs c := by
    have ht := h.banks hs
    show ((t.modBank b f).bank c).Sound
    rw [State.bank_modBank]
    split
    · exact hf (ht b)
    · exact ht c

theorem setBank (h : s.StaysBound t) (b : BankIx) {k : Bank} (hk : k.Sound) :
    s.StaysBound (t.setBank b k) := h.modBank b (f := fun _ => k) fun _ => hk

theorem askSet (h : s.StaysBound t) (b : BankIx) (level : Nat) (load : Bool) :
    s.StaysBound (t.askSet b level load) :=
  (h.modBank b (f := fun k => { k with level := level }) id).same rfl

theorem askSets (h : s.StaysBound t) (l : List GrantBank) (n : GrantBank → Nat) (load : Bool) :
    s.StaysBound (l.foldl (fun t g => t.askSet g.bank (n g) load) t) :=
  foldl (fun _ g hv => hv.askSet g.bank (n g) load) l h

theorem askRelease (h : s.StaysBound t) (b : BankIx) : s.StaysBound (t.askRelease b) :=
  (h.modBank b (f := fun k => { k with state := .releasing }) (by simp [Bank.Sound])).same rfl

theorem askOwnRelease (h : s.StaysBound t) (b : BankIx) : s.StaysBound (t.askOwnRelease b) :=
  (h.modBank b (f := fun k => { k with state := .releasing, engine := none })
    (by simp [Bank.Sound])).same rfl

/-- A record is written with the bay field that it had; it is STAGED only when it was, or when it has no bay. -/
theorem writeRecord (h : s.StaysBound t) {i : SlotIx} {r r' : ShelfRecord} (hr : t.record i = some r)
    (hb : r'.bay = r.bay) (hst : r'.state = .staged → r.state = .staged ∨ r.bay = none) :
    s.StaysBound (t.writeRecord i r') where
  bindings hs := (h.bindings hs).writeRecord (by rw [hr, hb]; rfl) fun hst' =>
    hb.trans ((hst hst').elim ((h.bindings hs).2.2 i r hr) id)
  banks hs := h.banks hs

/-- A bay is written with the binding that it had. -/
theorem setBay (h : s.StaysBound t) (b : BayIx) {x : Bay} (hx : x.binding = (t.bay b).binding) :
    s.StaysBound (t.setBay b x) := by
  refine h.of_reads rfl (fun c => ?_) rfl
  rw [State.bay_setBay]
  split
  next hc => rw [hx, hc]
  next => rfl

/-! ### The links -/

theorem answer (h : s.StaysBound t) (l : Link) (c : Code) (body : List Byte) :
    s.StaysBound (t.answer l c body) := by
  rw [t.answer_frame]
  exact h.same rfl

theorem refuse (h : s.StaysBound t) (l : Link) (c : Code) : s.StaysBound (t.refuse l c) := h.answer ..

theorem completeLookups (h : s.StaysBound t) (i : SlotIx) : s.StaysBound (t.completeLookups i) := by
  rw [t.completeLookups_frame]
  exact h.same rfl

theorem serve {l : Link} {code : ReqCode} {f : Request → State → State}
    (h : ∀ q, (s.link l).request = some q → s.StaysBound (f q s)) : s.StaysBound (s.serve l code f) := by
  unfold State.serve
  split
  · exact refl s
  split
  · split
    · exact h _ ‹_›
    · exact refl s
  · exact refl s

theorem live {f : State → State} (h : s.StaysBound (f s)) : s.StaysBound (s.live f) := by
  unfold State.live
  split
  · exact refl s
  · exact h

/-! ### Choosing banks and ending a service (R163 to R166) -/

/-- R163: the banks that the arbiter chooses from are IDLE. -/
theorem idle_of_mem_idleBanks {b : BankIx} (h : b ∈ s.idleBanks) : (s.bank b).state = .idle := by
  have insert (c : BankIx) (l : List BankIx) (hb : b ∈ s.insertBank c l) : b = c ∨ b ∈ l := by
    induction l with
    | nil => exact .inl (List.mem_singleton.mp hb)
    | cons d l ih =>
      unfold State.insertBank at hb
      split at hb
      · exact List.mem_cons.mp hb
      · obtain rfl | hb := List.mem_cons.mp hb
        · exact .inr List.mem_cons_self
        · exact (ih hb).imp id (List.mem_cons_of_mem d)
  have fold (l acc : List BankIx) (hb : b ∈ l.foldl (fun l c => s.insertBank c l) acc) : b ∈ l ∨ b ∈ acc := by
    induction l generalizing acc with
    | nil => exact .inr hb
    | cons c l ih =>
      obtain hb | hb := ih _ hb
      · exact .inl (List.mem_cons_of_mem c hb)
      · obtain rfl | hb := insert c acc hb
        · exact .inl List.mem_cons_self
        · exact .inr hb
  have hm := (fold _ _ h).resolve_right List.not_mem_nil
  simp only [List.mem_filter, Bool.and_eq_true, decide_eq_true_eq] at hm
  exact hm.2.1

theorem mem_of_chooseBanks {need acc : Nat} {l bs : List BankIx} (h : s.chooseBanks need acc l = some bs) :
    ∀ b ∈ bs, b ∈ l := by
  induction l generalizing acc bs with
  | nil =>
    unfold State.chooseBanks at h
    split at h <;> cases h
    exact fun b hb => hb
  | cons c l ih =>
    unfold State.chooseBanks at h
    split at h
    · cases h
      exact fun b hb => absurd hb List.not_mem_nil
    · obtain ⟨cs, hcs, rfl⟩ := Option.map_eq_some_iff.mp h
      intro b hb
      obtain rfl | hb := List.mem_cons.mp hb
      · exact List.mem_cons_self
      · exact List.mem_cons_of_mem c (ih hcs b hb)

/-- R163: IDLE banks go CONNECTING. -/
theorem connecting (h : s.StaysBound t) (l : List BankIx)
    (hl : ∀ b ∈ l, (t.bank b).state = .idle ∨ (t.bank b).state = .connecting) :
    s.StaysBound (l.foldl (fun t c => t.modBank c fun k => { k with state := .connecting }) t) := by
  induction l generalizing t with
  | nil => exact h
  | cons c l ih =>
    refine ih (h.modBank c fun hs => ?_) fun b hb => ?_
    · obtain hc | hc := hl c List.mem_cons_self
      · exact ⟨fun _ => hs.1 (.inr (.inl hc)), fun k => by cases k⟩
      · exact ⟨fun _ => hs.1 (.inr (.inr hc)), fun k => by cases k⟩
    · rw [State.bank_modBank]
      split
      · exact .inr rfl
      · exact hl b (List.mem_cons_of_mem c hb)

theorem bankTest (h : s.StaysBound t) : s.StaysBound t.bankTest := by
  unfold State.bankTest
  split
  next w rest _ _ =>
    split
    next b bs hc =>
      have hidle (c : BankIx) (hm : c ∈ b :: bs) : (t.bank c).state = .idle :=
        idle_of_mem_idleBanks (mem_of_chooseBanks hc c hm)
      have hk : s.StaysBound ((t.setBankWaits rest).setService
        (some ⟨w.engine, w.need, w.bay, w.joined, b :: bs, .active⟩)) := h.same rfl
      exact (hk.connecting (b :: bs) fun c hm => .inl (hidle c hm)).same rfl
    · exact h
  · exact h

theorem unchoose (h : s.StaysBound t) (b : BankIx) : s.StaysBound (t.unchoose b) := by
  obtain ⟨hk, -, e⟩ | ⟨-, e⟩ | ⟨-, -, e⟩ := t.unchoose_cases b <;> rw [e]
  · exact (h.modBank b (f := fun k => { k with state := .idle })
      fun hs => ⟨fun _ => hs.1 (.inr (.inr hk)), fun k => by cases k⟩).same rfl
  · exact h.askOwnRelease b
  · exact h

theorem endService (h : s.StaysBound t) (v : Service) (x : ServiceStatus) :
    s.StaysBound (t.endService v x) :=
  (foldl (fun _ b hv => hv.unchoose b) v.chosen h).same rfl

theorem bankReprioritise (h : s.StaysBound t) (e : EngineIx) (p : Nat) :
    s.StaysBound (t.bankReprioritise e p) := by
  unfold State.bankReprioritise
  split
  · exact h.same rfl
  · exact h

/-! ### Close, unload and stop causes (R115 to R119) -/

theorem engineClose (h : s.StaysBound t) (e : EngineIx) : s.StaysBound (t.engineClose e) := by
  unfold State.engineClose
  dsimp only
  split <;> exact h.same rfl

theorem acquireExit (h : s.StaysBound t) (e : EngineIx) : s.StaysBound (t.acquireExit e) :=
  engineClose (t := t.feedRelease e) (h.same rfl) e

theorem unloadAdvance (h : s.StaysBound t) (e : EngineIx) : s.StaysBound (t.unloadAdvance e) := by
  have hr : s.StaysBound (t.feedRelease e) := h.same rfl
  unfold State.unloadAdvance
  dsimp only
  split
  · exact h
  split
  · split
    · exact h.engineClose e
    · exact h
  split
  · split
    · exact hr.engineClose e
    · exact (foldl (fun _ (g : GrantBank) hv => hv.askRelease g.bank) _ hr).modEngine e _
  · exact h

theorem enterUnload (h : s.StaysBound t) (e : EngineIx) : s.StaysBound (t.enterUnload e) :=
  ((h.askSets _ (fun _ => 0) false).modEngine e _).unloadAdvance e

theorem withdrawComplete (h : s.StaysBound t) (e : EngineIx) : s.StaysBound (t.withdrawComplete e) :=
  (h.acquireExit e).bankTest

theorem withdraw (h : s.StaysBound t) (e : EngineIx) : s.StaysBound (t.withdraw e) := by
  unfold State.withdraw
  split
  next v _ =>
    split
    · have hs := h.endService v .withdrawn
      dsimp only
      split
      · exact hs.withdrawComplete e
      · exact hs
    · exact h.acquireExit e
  · exact h.acquireExit e

theorem recallSets (h : s.StaysBound t) (e : EngineIx) : s.StaysBound (t.recallSets e) :=
  (foldl (fun _ (g : GrantBank) hv =>
    (hv.modBank g.bank (f := fun k => { k with level := 0 }) id).same (by rfl)) _ h).modEngine e _

theorem takeStop (h : s.StaysBound t) (e : EngineIx) (c : StopCause) : s.StaysBound (t.takeStop e c) := by
  have hs : s.StaysBound (t.stopped e c) := h.same (by rfl)
  unfold State.takeStop
  dsimp only
  split
  · exact h
  · exact h
  split
  · exact h
  · split
    · exact h.same rfl
    · exact h
  split
  · exact engineClose (t := (t.stopped e c).feedWithdraw e) (h.same rfl) e
  · split
    · exact hs.withdraw e
    · exact acquireExit (t := (t.stopped e c).bankWithdraw e) (h.same rfl) e
    · exact hs.acquireExit e
  · refine enterUnload ?_ e
    split
    · exact hs.recallSets e
    · exact hs
  · exact hs.enterUnload e
  · exact hs

/-! ### Verdicts, detection and the passage (R99, R113, R114) -/

theorem reachVerdict (h : s.StaysBound t) (e : EngineIx) (v : Verdict) :
    s.StaysBound (t.reachVerdict e v) :=
  enterUnload (t := t.modEngine e fun en => { en with verdict := some v }) (h.same rfl) e

theorem passageAdvance (h : s.StaysBound t) (e : EngineIx) : s.StaysBound (t.passageAdvance e) := by
  unfold State.passageAdvance
  dsimp only
  split
  · split
    · exact h.same rfl
    · exact h
  · exact h

theorem passage (h : s.StaysBound t) (e : EngineIx) (c : WorkingCopy) (r : RestartParams) (n : Nat)
    (cause : DetectCause) : s.StaysBound (t.passage e c r n cause) :=
  (((h.send e _).askSets _ (fun _ => 0) false).modEngine e _).passageAdvance e

theorem detect (h : s.StaysBound t) (e : EngineIx) (cause : DetectCause) (tick : Nat) :
    s.StaysBound (t.detect e cause tick) := by
  have hs : s.StaysBound (t.modEngine e fun en => { en with detection := .made cause tick }) := h.same rfl
  unfold State.detect
  dsimp only
  split
  · split
    · exact hs.reachVerdict ..
    · exact hs.reachVerdict ..
    split
    · exact h
    split
    · exact h
    split
    · exact hs.reachVerdict ..
    · exact hs.passage ..
  · exact h

theorem arm (h : s.StaysBound t) (e : EngineIx) : s.StaysBound (t.arm e) := by
  unfold State.arm
  split
  · exact h
  dsimp only
  split
  · exact detect (h.same (by rfl)) ..
  · exact h.same rfl

/-! ### Loading and admission (R111, R112, R176) -/

theorem enterLoad (h : s.StaysBound t) (e : EngineIx) (g : List GrantBank) :
    s.StaysBound (t.enterLoad e g) := by
  unfold State.enterLoad
  split
  · exact h
  dsimp only
  split
  · exact takeStop (h.same (by rfl)) ..
  split
  · split
    · exact ((h.modEngine e _).arm e).modEngine e _
    · exact (h.modEngine e _).arm e
  · exact ((h.modEngine e _).askSets g (·.share) true).modEngine e _

theorem bankRequest (h : s.StaysBound t) (e : EngineIx) (c : WorkingCopy) (n : Nat) :
    s.StaysBound (t.bankRequest e c n) := by
  unfold State.bankRequest
  split
  · exact h.takeStop ..
  · exact bankTest (h.same rfl)

theorem askBanks (h : s.StaysBound t) (e : EngineIx) : s.StaysBound (t.askBanks e) := by
  unfold State.askBanks
  split
  · exact h
  split
  · exact h.enterLoad ..
  · exact h.bankRequest ..

theorem feedTest (h : s.StaysBound t) : s.StaysBound t.feedTest := by
  have upTo : ∀ (n : Nat) {v : State}, s.StaysBound v → s.StaysBound (State.feedTestUpTo n v) := by
    intro n
    induction n with
    | zero => exact id
    | succ n ih =>
      intro v hv
      unfold State.feedTestUpTo
      split
      · exact hv
      split
      · exact ih (hv.same rfl)
      · exact hv
  exact upTo _ h

theorem feedRetest (h : s.StaysBound t) (b : State) : s.StaysBound (State.feedRetest b t) := by
  unfold State.feedRetest
  split
  · exact h
  · exact h.feedTest

theorem stopEngine (h : s.StaysBound t) (e : EngineIx) (c : StopCause) : s.StaysBound (t.stopEngine e c) :=
  (h.takeStop e c).feedRetest t

theorem submit (h : s.StaysBound t) (e : EngineIx) (c : WorkingCopy) (n : Nat) :
    s.StaysBound (t.submit e c n) := feedTest (t := t.joinFeedWaits e c n) (h.same rfl)

/-! ### The block's own work and the passing of time (log 37) -/

theorem ownWork (h : s.StaysBound t) (hu : t.ownWork = some u) : s.StaysBound u := by
  obtain ⟨e, -, rfl⟩ | ⟨e, c, n, -, -, -, rfl⟩ := State.ownWork_cases hu
  · exact (h.askBanks e).feedRetest t
  · exact h.submit e c n

theorem settled (h : s.StaysBound t) : s.StaysBound t.settled :=
  State.settled_induct (P := s.StaysBound) (fun _ _ hv hu => hv.ownWork hu) h

theorem passTo (h : s.StaysBound t) (n : Nat) : s.StaysBound (t.passTo n) := by
  refine h.of_reads ?_ (fun b => ?_) ?_
  · rw [State.passTo_store]
  · rw [State.bay, State.passTo_bays]; rfl
  · rw [State.passTo_roster]

theorem atTick (h : s.StaysBound t) (n : Nat) : s.StaysBound (t.atTick n) := by
  unfold State.atTick
  split
  · exact h.settled.passTo n
  · exact h

/-! ### A priority and a stop cause for the engine of a record -/

theorem stopHolder (h : s.StaysBound t) (i : SlotIx) (r : ShelfRecord) (c : StopCause) :
    s.StaysBound (t.stopHolder i r c) := by
  unfold State.stopHolder
  split
  · split
    · exact h.stopEngine ..
    · exact h
  · exact h

theorem passPriority (h : s.StaysBound t) (e : EngineIx) (p : Nat) : s.StaysBound (t.passPriority e p) := by
  unfold State.passPriority
  extract_lets s1 s2 s3 s4
  have h2 : s.StaysBound s2 := h.same rfl
  have h3 : s.StaysBound s3 := by
    unfold s3
    split
    · exact h2
    · exact h2.feedTest
  have h4 : s.StaysBound s4 := h3.bankReprioritise ..
  split
  · exact h4
  · exact h4.bankTest

theorem passToHolder (h : s.StaysBound t) (i : SlotIx) (r : ShelfRecord) (p : Nat) :
    s.StaysBound (t.passToHolder i r p) := by
  unfold State.passToHolder
  split
  · split
    · exact h.settled.passPriority ..
    · exact h.settled
  · exact h

end State.StaysBound

end Sys2Proof.Machine
end

section
/-! SUPPORT. Bindings and banks through the operations of the record store and of the model table, and through every
request. -/

namespace Sys2Proof.Machine

namespace State.StaysBound

variable {s t u : State}

/-! ### Integrity faults and validation (R16 to R24, R46) -/

theorem holdQueued (h : s.StaysBound t) {i : SlotIx} {r : ShelfRecord} (hr : t.record i = some r)
    (why : HoldReason) : s.StaysBound (t.holdQueued i r why) :=
  (h.writeRecord (r' := { r with state := .held, hold := some why }) hr rfl (by simp)).same rfl

theorem clearRun (h : s.StaysBound t) (b : Option BayIx) : s.StaysBound (t.clearRun b) := by
  cases b with
  | none => exact h
  | some b => exact h.setBay b rfl

theorem clearBound (h : s.StaysBound t) (k : Handle) : s.StaysBound (t.clearBound k) :=
  foldl (fun _ b hv => hv.clearRun (some b)) _ h

theorem doubtRecord (h : s.StaysBound t) (i : SlotIx) : s.StaysBound (t.doubtRecord i) := by
  cases hr : t.record i with
  | none => simpa only [State.doubtRecord, hr] using h
  | some r =>
    cases hd : t.alreadyDoubtful i r with
    | true => rwa [State.doubtRecord_of_known hr hd]
    | false =>
      have hw : s.StaysBound (t.writeRecord i r.doubted) :=
        h.writeRecord hr rfl (by simp [ShelfRecord.doubted])
      have hl : s.StaysBound ((t.writeRecord i r.doubted).leaveQueue i) := hw.same rfl
      have hs : s.StaysBound (t.doubtStore i r) := (hl.clearBound (t.handleOf i)).same rfl
      rw [State.doubtRecord_of_fresh hr hd]
      refine completeLookups ?_ i
      unfold State.stopDoubted
      split
      · exact hs.stopEngine ..
      · exact hs

theorem readRecord (h : s.StaysBound t) (i : SlotIx) : s.StaysBound (t.readRecord i) := by
  unfold State.readRecord
  split
  · split
    · exact h
    · exact h.doubtRecord i
  · exact h

theorem doubtModel (h : s.StaysBound t) (m : ModelIx) : s.StaysBound (t.doubtModel m) := by
  have hold (v : State) (i : SlotIx) (hv : s.StaysBound v) : s.StaysBound (State.holdForModel m v i) := by
    unfold State.holdForModel
    split
    next hr =>
      split
      · exact hv.holdQueued hr _
      · exact hv
    · exact hv
  unfold State.doubtModel
  split
  · exact h
  split
  · exact h
  · exact foldl hold _ (h.same rfl)

theorem readModel (h : s.StaysBound t) (m : ModelIx) : s.StaysBound (t.readModel m) := by
  unfold State.readModel
  split
  · split
    · exact h
    · exact h.doubtModel m
  · exact h

theorem of_validate {h : Handle} {skip : Bool} {tier : Nat} {needed : ShelfRecord → Nat}
    {x : Check (SlotIx × ShelfRecord)} (hv : s.validate h skip tier needed = (u, x)) : s.StaysBound u := by
  obtain ⟨c, k⟩ | ⟨c, k⟩ | ⟨r, -, -, k⟩ := s.validate_cases h skip tier needed <;> cases k.symm.trans hv
  · exact refl s
  · exact (refl s).readRecord _
  · exact (refl s).readRecord _

theorem of_validateModel {h : Handle} {skip : Bool} {tier : Nat} {x : Check (ModelIx × Model)}
    (hv : s.validateModel h skip tier = (u, x)) : s.StaysBound u := by
  obtain ⟨c, k⟩ | ⟨m, c, k⟩ | ⟨m, y, -, k⟩ := s.validateModel_cases h skip tier <;> cases k.symm.trans hv
  · exact refl s
  · exact (refl s).readModel m
  · exact (refl s).readModel m

theorem of_carriedModel {h : Handle} {x : Check (ModelIx × Model)} (hc : s.carriedModel h = (u, x)) :
    s.StaysBound u := by
  unfold State.carriedModel at hc
  split at hc
  · cases hc
    exact refl s
  next m _ =>
    have hm := (refl s).readModel m
    dsimp only at hc
    split at hc
    · split at hc <;> cases hc <;> exact hm
    · cases hc
      exact hm

theorem modelActive (h : s.StaysBound t) (r : ShelfRecord) : s.StaysBound (t.modelActive r).1 := by
  unfold State.modelActive
  split
  · exact h.readModel _
  · exact h

theorem adjustRef (h : s.StaysBound t) (k : Handle) (f : Nat → Nat) : s.StaysBound (t.adjustRef k f) := by
  obtain e | ⟨m, x, -, -, e⟩ := t.adjustRef_cases k f <;> rw [e]
  · exact h
  · exact h.same rfl

end State.StaysBound

open State (StaysBound)

variable {s t : State} {l : Link}

/-! ### ADMIT, LOOKUP, PROBE, FIND -/

/-- R51: ADMIT places a STAGED record with no bay in a FREE slot. -/
theorem State.StaysBound.fillFree {i : SlotIx} (hi : s.record i = none) (b : AdmitBody) (tier : Nat) :
    s.StaysBound (s.writeRecord i (b.record tier)) :=
  ⟨fun hs => hs.writeRecord (by rw [hi]; rfl) fun _ => rfl, id⟩

theorem execAdmit_staysBound (h : execAdmit l s = .next t) : s.StaysBound t := by
  cases h
  refine .serve fun q _ => ?_
  split
  · exact (StaysBound.refl s).refuse ..
  unfold admitWith
  split
  · exact (StaysBound.refl s).refuse ..
  split
  next h => exact (StaysBound.of_carriedModel h).refuse ..
  next s1 m x h =>
    obtain ⟨rfl, -⟩ := State.carriedModel_pass h
    have hs := StaysBound.refl s1
    split
    · exact hs.refuse ..
    split
    · exact hs.refuse ..
    split
    · exact hs.refuse ..
    split
    · exact hs.refuse ..
    next i hi =>
      split
      · exact hs.refuse ..
      · exact ((StaysBound.fillFree (State.freeSlot_free hi) _ _).same (by rfl)).answer ..

theorem execLookup_staysBound (h : execLookup l s = .next t) : s.StaysBound t := by
  cases h
  refine .serve fun q _ => ?_
  split
  · exact (StaysBound.refl s).refuse ..
  split
  next h => exact (StaysBound.of_validate h).refuse ..
  next s1 i r h =>
    have hv := StaysBound.of_validate h
    split
    next e _ _ =>
      have hw : s.StaysBound (s1.waitLookup l q ⟨e, s1.handleOf i⟩) := by
        refine hv.of_reads ?_ (fun b => ?_) ?_ <;> cases l <;> rfl
      dsimp only
      unfold State.requestExtract
      split
      · split
        · exact hw.settled.send ..
        · exact hw.settled
      · exact hw.settled
    · exact hv.answer ..

theorem execProbe_staysBound (h : execProbe l s = .next t) : s.StaysBound t := by
  cases h
  refine .serve fun q _ => ?_
  split
  · exact (StaysBound.refl s).refuse ..
  split
  next h => exact (StaysBound.of_validate h).answer ..
  next h => exact (StaysBound.of_validate h).answer ..

theorem execFind_staysBound (h : execFind l s = .next t) : s.StaysBound t := by
  cases h
  refine .serve fun q _ => ?_
  split
  · exact (StaysBound.refl s).refuse ..
  · split <;> exact (StaysBound.refl s).answer ..

/-! ### START, RESUME, ABORT, RELEASE, TAKE -/

theorem execStart_staysBound (h : execStart l s = .next t) : s.StaysBound t := by
  cases h
  refine .serve fun q _ => ?_
  split
  · exact (StaysBound.refl s).refuse ..
  split
  next h => exact (StaysBound.of_validate h).refuse ..
  next s1 i r h =>
    have hv := StaysBound.of_validate h
    split
    · exact hv.refuse ..
    split
    · exact hv.refuse ..
    extract_lets a
    split
    · exact (hv.modelActive r).refuse ..
    next hact =>
      have hact : a.1 = s1 := (s1.modelActive_spec r).2 (by simpa using hact)
      rw [hact]
      split
      · exact hv.refuse ..
      · exact StaysBound.answer ((hv.writeRecord
          (r' := { r with state := .queued, cursor := 0, results := [], retry := 0 })
          (State.validate_pass h).1 rfl (by simp)).same (by rfl)) ..

theorem execResume_staysBound (h : execResume l s = .next t) : s.StaysBound t := by
  cases h
  refine .serve fun q _ => ?_
  split
  · exact (StaysBound.refl s).refuse ..
  split
  next h => exact (StaysBound.of_validate h).refuse ..
  next s1 i r h =>
    have hv := StaysBound.of_validate h
    split
    · exact hv.refuse ..
    split
    · exact hv.refuse ..
    extract_lets a
    split
    · exact (hv.modelActive r).refuse ..
    next hact =>
      have hact : a.1 = s1 := (s1.modelActive_spec r).2 (by simpa using hact)
      rw [hact]
      split
      · exact hv.refuse ..
      · exact StaysBound.answer ((hv.writeRecord (r' := { r with
            state := .queued, hold := none, retry := 0, cursor := s1.queuedCursor r })
          (State.validate_pass h).1 rfl (by simp)).same (by rfl)) ..

theorem execAbort_staysBound (h : execAbort l s = .next t) : s.StaysBound t := by
  cases h
  refine .serve fun q _ => ?_
  split
  · exact (StaysBound.refl s).refuse ..
  split
  next h => exact (StaysBound.of_validate h).refuse ..
  next s1 i r h =>
    have hv := StaysBound.of_validate h
    split
    · exact (hv.holdQueued (State.validate_pass h).1 _).answer ..
    · exact (hv.stopHolder ..).answer ..
    · exact hv.refuse ..

/-- R69: RELEASE retires the slot and frees the bay. -/
theorem State.StaysBound.releaseRecord (h : s.StaysBound t) (i : SlotIx) (r : ShelfRecord) :
    s.StaysBound (t.releaseRecord i r) := by
  let u := (t.unlisted i).adjustRef r.model fun n => n - 1
  have hstore : u.store = (t.unlisted i).store := State.adjustRef_store ..
  have hrest : u.bays = (t.unlisted i).bays ∧ u.arb = (t.unlisted i).arb := by
    obtain e | ⟨m, x, -, -, e⟩ := (t.unlisted i).adjustRef_cases r.model fun n => n - 1
    · exact ⟨congrArg State.bays e, congrArg State.arb e⟩
    · exact ⟨(congrArg State.bays e).trans rfl, (congrArg State.arb e).trans rfl⟩
  obtain ⟨hf, hbay⟩ := t.unlisted_spec i
  have hdef : t.releaseRecord i r = u.setSlot i ⟨State.nextGen (t.slot i).gen, none⟩ := rfl
  rw [hdef]
  refine ⟨fun hs => (h.bindings hs).retire (i := i) (fun j => ?_) fun b => ?_, fun hs => ?_⟩
  · rw [State.slot_setSlot]
    have hslot : u.slot j = t.slot j := by rw [State.slot, hstore, hf]; rfl
    rw [hslot]
  · have hb : u.bay b = (t.unlisted i).bay b := congrArg (·.get b) hrest.1
    refine (congrArg Bay.binding (hb.trans (hbay b))).trans ?_
    split <;> rfl
  · intro b
    have harb : u.arb = t.arb := hrest.2.trans (by rw [hf])
    have hbank : u.bank b = t.bank b := congrArg (·.roster.get b) harb
    show (u.bank b).Sound
    rw [hbank]
    exact h.banks hs b

theorem execRelease_staysBound (h : execRelease l s = .next t) : s.StaysBound t := by
  cases h
  refine .serve fun q _ => ?_
  split
  · exact (StaysBound.refl s).refuse ..
  split
  next h => exact (StaysBound.of_validate h).refuse ..
  next s1 i r h =>
    have hv := StaysBound.of_validate h
    split
    · exact hv.refuse ..
    · exact (hv.releaseRecord i r).answer ..

theorem execTake_staysBound (h : execTake l s = .next t) : s.StaysBound t := by
  cases h
  refine .serve fun q _ => ?_
  split
  · exact (StaysBound.refl s).refuse ..
  split
  · exact (StaysBound.refl s).answer ..
  next xs _ =>
    have hx : s.StaysBound { s with store := { s.store with attention := xs } } := (StaysBound.refl s).same rfl
    exact hx.answer ..

/-! ### AMEND -/

theorem State.serveAmend_staysBound {item : AmendItem}
    {f : Request → AmendValue → State → SlotIx → ShelfRecord → State}
    (hf : ∀ q v u i r, State.record u i = some r → u.StaysBound (f q v u i r)) :
    s.StaysBound (s.serveAmend l item f) := by
  refine .serve fun q _ => ?_
  split
  · exact .refl s
  split
  · exact (StaysBound.refl s).refuse ..
  split
  next h => exact (StaysBound.of_validate h).refuse ..
  next h => exact (StaysBound.of_validate h).trans (hf _ _ _ _ _ (State.validate_pass h).1)

/-- An AMEND of a field that is neither the state nor the bay. -/
theorem State.StaysBound.writeAmended {i : SlotIx} {r r' : ShelfRecord} (hr : s.record i = some r)
    {a : AmendItem} {value : List Byte} (hb : r'.bay = r.bay) (hst : r'.state = r.state) :
    s.StaysBound ((s.writeRecord i r').amended l a value) :=
  ((StaysBound.refl s).writeRecord hr hb fun h => .inl (hst.symm.trans h)).answer ..

theorem execAmendPriority_staysBound (h : execAmendPriority l s = .next t) : s.StaysBound t := by
  cases h
  refine State.serveAmend_staysBound fun q v u i r hr => ?_
  have hu := StaysBound.refl u
  split
  next p =>
    split
    · exact hu.refuse ..
    · have hw : u.StaysBound (u.writeRecord i { r with priority := p }) := hu.writeRecord hr rfl .inl
      refine StaysBound.answer (StaysBound.passToHolder ?_ ..) ..
      unfold State.requeue
      split
      · exact hw.same rfl
      · exact hw
  · exact hu

theorem execAmendGuardLevel_staysBound (h : execAmendGuardLevel l s = .next t) : s.StaysBound t := by
  cases h
  refine State.serveAmend_staysBound fun q v u i r hr => ?_
  split
  · split
    · exact (StaysBound.refl u).refuse ..
    · exact .writeAmended hr rfl rfl
  · exact .refl u

theorem execAmendNote_staysBound (h : execAmendNote l s = .next t) : s.StaysBound t := by
  cases h
  refine State.serveAmend_staysBound fun q v u i r hr => ?_
  split
  · exact .writeAmended hr rfl rfl
  · exact .refl u

/-- R62: a record that its model change makes STAGED was STAGED or has no bay. -/
theorem State.stateAfterModel_staged {r : ShelfRecord} (h : s.stateAfterModel r = .staged) :
    r.state = .staged ∨ r.bay = none := by
  unfold State.stateAfterModel at h
  split at h
  · split at h
    · exact .inr ‹_›
    · split at h <;> cases h
  · exact .inl h

/-- R61: a model change leaves the bay. -/
theorem State.StaysBound.changeModel (h : s.StaysBound t) {i : SlotIx} {r : ShelfRecord}
    (hr : t.record i = some r) (k : Handle) : s.StaysBound (t.changeModel i r k) := by
  unfold State.changeModel
  extract_lets w
  have hw : s.StaysBound w := h.writeRecord hr rfl State.stateAfterModel_staged
  split
  · exact hw
  · exact (hw.adjustRef ..).adjustRef ..

theorem execAmendModelHandle_staysBound (h : execAmendModelHandle l s = .next t) : s.StaysBound t := by
  cases h
  refine State.serveAmend_staysBound fun q v u i r hr => ?_
  have hu := StaysBound.refl u
  split
  · split
    · exact hu.refuse ..
    split
    next h => exact (StaysBound.of_carriedModel h).refuse ..
    next h =>
      obtain ⟨rfl, -⟩ := State.carriedModel_pass h
      split
      · exact hu.refuse ..
      · exact (hu.changeModel hr _).answer ..
  · exact hu

theorem execAddModule_staysBound (h : execAddModule l s = .next t) : s.StaysBound t := by
  cases h
  refine State.serveAmend_staysBound fun q v u i r hr => ?_
  have hu := StaysBound.refl u
  split
  · split
    · exact hu.refuse ..
    split
    · exact hu.refuse ..
    split
    · exact hu.refuse ..
    split
    · exact hu.refuse ..
    · exact .writeAmended hr rfl rfl
  · exact hu

theorem execDropModule_staysBound (h : execDropModule l s = .next t) : s.StaysBound t := by
  cases h
  refine State.serveAmend_staysBound fun q v u i r hr => ?_
  have hu := StaysBound.refl u
  split
  · split
    · exact hu.refuse ..
    split
    · exact hu.refuse ..
    split
    · exact hu.refuse ..
    split
    · exact hu.refuse ..
    · exact .writeAmended hr rfl rfl
  · exact hu

theorem execAmendPresentFlag_staysBound (h : execAmendPresentFlag l s = .next t) : s.StaysBound t := by
  cases h
  refine State.serveAmend_staysBound fun q v u i r hr => ?_
  have hu := StaysBound.refl u
  split
  · split
    · exact hu.refuse ..
    split
    · exact hu.refuse ..
    split
    · exact hu.refuse ..
    · exact .writeAmended hr rfl rfl
  · exact hu

/-! ### BIND -/

theorem execBind_staysBound (h : execBind l s = .next t) : s.StaysBound t := by
  cases h
  refine .serve fun q _ => ?_
  split
  · exact (StaysBound.refl s).refuse ..
  split
  · exact .refl s
  split
  next h => exact (StaysBound.of_validate h).refuse ..
  next s1 i r h =>
    have hv := StaysBound.of_validate h
    split
    · exact hv.refuse ..
    next b _ =>
      split
      · exact hv.refuse ..
      next hst =>
        split
        · exact hv.refuse ..
        next hb =>
          have hbind : s1.StaysBound (s1.bindRecord i r b) :=
            ⟨fun hs => hs.bindRecord (State.validate_pass h).1 (by simpa using hst) (by simpa using hb), id⟩
          exact (hv.trans hbind).answer ..

/-- R23: the read of a record leaves the bindings. -/
theorem State.readRecord_boundSlot (s : State) (i : SlotIx) (b : BayIx) :
    (s.readRecord i).boundSlot b = s.boundSlot b := by
  cases hr : s.record i with
  | none => simp [State.readRecord, hr]
  | some r =>
    cases hi : r.intact with
    | true => rw [State.readRecord_of_intact hr hi]
    | false =>
      rw [State.readRecord_of_damaged hr hi]
      cases hd : s.alreadyDoubtful i r with
      | true => rw [State.doubtRecord_of_known hr hd]
      | false =>
        unfold State.boundSlot
        rw [State.bay_doubtRecord hr hd]
        split <;> rfl

theorem execUnbind_staysBound (h : execUnbind l s = .next t) : s.StaysBound t := by
  cases h
  refine .serve fun q _ => ?_
  have hs := StaysBound.refl s
  split
  · exact hs.refuse ..
  split
  · exact hs
  split
  · exact hs.refuse ..
  next b _ =>
    split
    · exact hs.refuse ..
    next i hi =>
      have hread := hs.readRecord i
      have hbound := (s.readRecord_boundSlot i b).trans hi
      dsimp only
      generalize s.readRecord i = s1 at hread hbound ⊢
      split
      · exact hread.refuse ..
      next r hr =>
        split
        · exact hread.refuse ..
        split
        · exact hread.refuse ..
        split
        · exact hread.refuse ..
        · have hunbind : s1.StaysBound (s1.unbindRecord i r b) := ⟨fun k => k.unbindRecord hbound hr, id⟩
          exact (hread.trans hunbind).answer ..

/-! ### Model requests -/

theorem State.serveModel_staysBound {α : Type} {code : ReqCode} {read : List Byte → Option α}
    {handle : α → Handle} {skip : Bool} {f : α → State → ModelIx → Model → State}
    (hf : ∀ a u m x, State.StaysBound u (f a u m x)) :
    s.StaysBound (s.serveModel l code read handle skip f) := by
  refine .serve fun q _ => ?_
  split
  · exact (StaysBound.refl s).refuse ..
  split
  next h => exact (StaysBound.of_validateModel h).refuse ..
  next h => exact (StaysBound.of_validateModel h).trans (hf _ _ _ _)

/-- A write of a descriptor, with the answer that follows. -/
theorem State.StaysBound.describe (s : State) (m : ModelIx) (x : ModelSlot) (l : Link) (c : Code)
    (body : List Byte) : s.StaysBound ((s.setModelSlot m x).answer l c body) :=
  StaysBound.answer (t := s.setModelSlot m x) ((StaysBound.refl s).same rfl) ..

theorem execCreateModel_staysBound (h : execCreateModel l s = .next t) : s.StaysBound t := by
  cases h
  refine .serve fun q _ => ?_
  have hs := StaysBound.refl s
  split
  · exact hs.refuse ..
  split
  · exact hs.refuse ..
  split
  · exact hs.refuse ..
  split
  · exact hs.refuse ..
  split
  · exact hs.refuse ..
  · exact .describe ..

theorem execEditModel_staysBound (h : execEditModel l s = .next t) : s.StaysBound t := by
  cases h
  refine State.serveModel_staysBound fun a u m x => ?_
  have hu := StaysBound.refl u
  split
  · exact hu.answer ..
  split
  · exact hu.answer ..
  split
  · exact hu.answer ..
  · exact .describe ..

theorem execActivate_staysBound (h : execActivate l s = .next t) : s.StaysBound t := by
  cases h
  refine State.serveModel_staysBound fun a u m x => ?_
  have hu := StaysBound.refl u
  split
  · exact hu.answer ..
  split
  · exact hu.answer ..
  · exact .describe ..

theorem execRevise_staysBound (h : execRevise l s = .next t) : s.StaysBound t := by
  cases h
  refine State.serveModel_staysBound fun a u m x => ?_
  have hu := StaysBound.refl u
  split
  · exact hu.answer ..
  split
  · exact hu.answer ..
  split
  · exact hu.answer ..
  split
  · exact hu.answer ..
  · exact .describe ..

theorem execDiscard_staysBound (h : execDiscard l s = .next t) : s.StaysBound t := by
  cases h
  refine State.serveModel_staysBound fun a u m x => ?_
  split
  · exact (StaysBound.refl u).answer ..
  · exact .describe ..

/-! ### Station requests -/

theorem execSetBudget_staysBound (h : execSetBudget l s = .next t) : s.StaysBound t := by
  cases h
  refine .serve fun q _ => ?_
  have hs := StaysBound.refl s
  split
  · exact hs.refuse ..
  next b g _ =>
    split
    · exact hs.refuse ..
    · have hset : s.StaysBound (s.settled.setFeed (s.settled.feed.setBudget b g)) := hs.settled.same rfl
      exact hset.feedTest.answer ..

theorem execSetFeedWindow_staysBound (h : execSetFeedWindow l s = .next t) : s.StaysBound t := by
  cases h
  refine .serve fun q _ => ?_
  have hs := StaysBound.refl s
  split
  · exact hs.refuse ..
  next lo hi _ =>
    split
    · exact hs.refuse ..
    · have hset : s.StaysBound (s.setFeed (s.feed.setWindow lo hi)) := hs.same rfl
      exact hset.answer ..

theorem State.serveStation_staysBound {code : ReqCode} {f : State → State} (hf : s.StaysBound (f s)) :
    s.StaysBound (s.serveStation l code f) := by
  refine .serve fun q _ => ?_
  split
  · exact (StaysBound.refl s).refuse ..
  split
  · exact (StaysBound.refl s).refuse ..
  · exact hf

theorem execBankStatus_staysBound (h : execBankStatus l s = .next t) : s.StaysBound t := by
  cases h
  exact State.serveStation_staysBound ((StaysBound.refl s).settled.answer ..)

theorem execStationStatus_staysBound (h : execStationStatus l s = .next t) : s.StaysBound t := by
  cases h
  exact State.serveStation_staysBound ((StaysBound.refl s).settled.answer ..)

/-- R29, R90, R172, R195: the soft reset holds records and releases banks, and leaves every binding. -/
theorem State.StaysBound.softReset (h : s.StaysBound t) : s.StaysBound t.softReset := by
  have held (v : State) (i : SlotIx) (hv : s.StaysBound v) : s.StaysBound (softHold v i) := by
    unfold softHold
    split
    next r hr =>
      split
      · exact (hv.writeRecord (r' := { r with state := .held, hold := some .reset, engaged := none })
          hr rfl (by simp)).same rfl
      · exact hv
    · exact hv
  have hall := StaysBound.foldl held (List.finRange 32) h
  unfold State.softReset
  generalize (List.finRange 32).foldl softHold t = v at hall ⊢
  extract_lets s1 s2
  have h2 : s.StaysBound s2 := 
    hall.of_reads rfl (fun b => (congrArg Bay.binding (Tab.get_map ..)).trans rfl) rfl
  exact StaysBound.foldl (fun _ b hv => hv.askOwnRelease b) _ (h2.same rfl)

theorem execReset_staysBound (h : execReset l s = .next t) : s.StaysBound t := by
  cases h
  refine State.serveStation_staysBound (StaysBound.softReset ?_)
  have hs := (StaysBound.refl s).answer l .ok []
  unfold State.completeWaiting
  split
  · split
    · exact hs.answer ..
    · exact hs
  · exact hs

end Sys2Proof.Machine
end

section
/-! Records and bays stay bound to each other and banks stay sound through every event and every step. -/

namespace Sys2Proof.Machine

open State (StaysBound)

variable {s t : State} {e : EngineIx} {f : List Byte}

/-! ### Resets and scrubs -/

/-- R28, R73, R171: at a reset every slot is FREE, every bay FREE and every bank OFFLINE. -/
theorem State.StaysBound.reset {now : Nat} {pins : StrapPins} {seats indicators : BitVec 24}
    (hs : t.store.slots = Tab.fill 32 ⟨1, none⟩)
    (hb : t.bays = (State.atRelease now pins seats indicators).bays)
    (hr : t.arb.roster = Tab.fill 8 Bank.atRelease) : s.StaysBound t := by
  have hrec (i : SlotIx) : t.record i = none := by simp [State.record, State.slot, hs]
  have hbay (b : BayIx) : (t.bay b).binding = none := by
    unfold State.bay
    rw [hb]
    unfold State.atRelease
    rw [Tab.get_ofFn]
    split <;> rfl
  have hbank (b : BankIx) : t.bank b = Bank.atRelease := by simp [State.bank, hr]
  refine ⟨fun _ => ?_, fun _ => ?_⟩
  · simp [State.BindingsAgree, hrec, hbay]
  · simp [State.BanksSound, hbank, Bank.atRelease]

theorem execPowerOnReset_staysBound (h : execPowerOnReset s = .next t) : s.StaysBound t := by
  cases h
  exact .reset rfl rfl rfl

theorem execResetRelease_staysBound {pins : StrapPins} {seats indicators : BitVec 24}
    (h : execResetRelease pins seats indicators s = .next t) : s.StaysBound t := by
  cases h
  exact .reset rfl rfl rfl

theorem execShelfScrub_staysBound (h : execShelfScrub s = .next t) : s.StaysBound t := by
  cases h
  refine .live ?_
  extract_lets s0 s1
  have h0 : s.StaysBound s0 := (StaysBound.refl s).atTick _
  have h1 : s.StaysBound s1 := h0.readRecord _
  exact h1.same rfl

theorem execModelScrub_staysBound (h : execModelScrub s = .next t) : s.StaysBound t := by
  cases h
  refine .live ?_
  extract_lets s0 s1
  have h0 : s.StaysBound s0 := (StaysBound.refl s).atTick _
  have h1 : s.StaysBound s1 := h0.readModel _
  exact h1.same rfl

/-! ### Bay lines -/

theorem State.StaysBound.seatEvent (h : s.StaysBound t) (b : BayIx) (up : Bool) :
    s.StaysBound (t.seatEvent b up) := by
  unfold State.seatEvent
  split
  · exact h
  split
  · exact h
  next r hr =>
    split
    · exact h.writeRecord hr rfl (by simp)
    · exact h.writeRecord hr rfl (by simp)
    · exact h.holdQueued hr _
    · exact (h.setBay b (x := { t.bay b with seatLost := true }) rfl).stopHolder ..
    · exact h

theorem execSeatInputChange_staysBound {b : BayIx} {up : Bool} (h : execSeatInputChange b up s = .next t) :
    s.StaysBound t := by
  cases h
  refine .live ?_
  split
  · exact .refl s
  · exact (StaysBound.refl s).setBay b rfl

theorem execDebounceExpiry_staysBound {b : BayIx} (h : execDebounceExpiry b s = .next t) :
    s.StaysBound t := by
  cases h
  refine .live ?_
  split
  · exact .refl s
  next n _ =>
    have ht := (StaysBound.refl s).atTick (n + Config.debounceMs)
    dsimp only
    split
    · exact ht.setBay b rfl
    · refine StaysBound.seatEvent ?_ ..
      exact ht.setBay b rfl

theorem execTripIndicatorChange_staysBound {b : BayIx} {a : Bool}
    (h : execTripIndicatorChange b a s = .next t) : s.StaysBound t := by
  cases h
  refine .live ?_
  split
  · exact .refl s
  have hb := (StaysBound.refl s).setBay b (x := { s.bay b with indicator := a }) rfl
  dsimp only
  split
  · split
    · exact (hb.detect ..).feedRetest _
    · exact hb
  · exact hb

theorem execRearmPulseEnd_staysBound {b : BayIx} (h : execRearmPulseEnd b s = .next t) :
    s.StaysBound t := by
  cases h
  refine .live ?_
  split
  · exact .refl s
  next n e _ =>
    have hb := ((StaysBound.refl s).atTick (n + Config.rearmMs)).setBay b
      (x := { (s.atTick (n + Config.rearmMs)).bay b with rearm := none }) rfl
    dsimp only
    unfold State.rearmReport
    dsimp only
    split
    · exact hb.same rfl
    · exact hb

/-! ### A forwarded sample (R98) -/

theorem State.StaysBound.collapseSample (h : s.StaysBound t) (e : EngineIx) (v : Nat) (x : Sample) :
    s.StaysBound (t.collapseSample e v x) := by
  unfold State.collapseSample
  split
  · exact h.detect ..
  · exact h

theorem State.StaysBound.restartSample (h : s.StaysBound t) (e : EngineIx) (r : RestartParams) (x : Sample) :
    s.StaysBound (t.restartSample e r x) := by
  unfold State.restartSample
  dsimp only
  split
  · exact h.same rfl
  split
  · split
    · split
      · exact h.reachVerdict ..
      · exact h
    · split
      · split
        · exact h.reachVerdict ..
        · exact h
      · exact h
    · exact h
  · exact h

theorem State.StaysBound.derateSample (h : s.StaysBound t) (e : EngineIx) (p : DerateParams) (x : Sample) :
    s.StaysBound (t.derateSample e p x) := by
  unfold State.derateSample
  split
  · exact h.takeStop ..
  split
  · exact h.detect ..
  unfold State.countSample
  split
  · exact h
  split
  · exact h.takeStop ..
  dsimp only
  split
  · exact (h.modEngine ..).reachVerdict ..
  · exact h.modEngine ..

theorem State.StaysBound.forward (h : s.StaysBound t) (e : EngineIx) (x : Sample) :
    s.StaysBound (t.forward e x) := by
  unfold State.forward
  split
  · exact h
  split
  · exact h.restartSample ..
  · split
    · exact h.derateSample ..
    · exact h.collapseSample ..
  · exact h.collapseSample ..

theorem execBayFrame_staysBound (h : execBayFrame f s = .next t) : s.StaysBound t := by
  cases h
  refine .live ?_
  split
  · exact .refl s
  next b x _ =>
    have hb : s.StaysBound (s.storeBay b x) := (StaysBound.refl s).same rfl
    dsimp only
    split
    · exact (hb.forward ..).feedRetest _
    · exact hb

theorem execBayStale_staysBound {b : BayIx} (h : execBayStale b s = .next t) : s.StaysBound t := by
  cases h
  refine .live ?_
  split
  · exact .refl s
  have ht := (StaysBound.refl s).atTick ((s.sense b).arrival + Config.bayStaleMs + 1)
  dsimp only
  split
  · exact StaysBound.stopEngine (ht.same (by rfl)) ..
  · exact ht.same rfl

/-! ### The feed supervisor -/

theorem State.StaysBound.overDraw (h : s.StaysBound t) (d : Nat) : s.StaysBound (t.overDraw d) := by
  unfold State.overDraw
  split
  · exact h.same rfl
  split
  · split
    · exact h.same rfl
    · unfold State.shed
      split
      · exact h.same rfl
      · exact stopEngine (h.same (by rfl)) ..
  · exact h.same rfl

theorem State.StaysBound.feedFault (h : s.StaysBound t) : s.StaysBound t.feedFault := by
  refine foldl (fun v e hv => ?_) _ (h.same rfl)
  unfold sendFeedLost
  split
  · exact takeStop (hv.same (by rfl)) ..
  · exact hv

theorem State.StaysBound.judgeWindow (h : s.StaysBound t) (v : Nat) : s.StaysBound (t.judgeWindow v) := by
  unfold State.judgeWindow
  split
  · split
    · exact h.same rfl
    split
    · exact h.same rfl
    · exact h.feedFault
  · split
    · exact h.same rfl
    · exact h
  · split
    · exact h.same rfl
    · exact h.feedFault

theorem execFeedFrame_staysBound (h : execFeedFrame f s = .next t) : s.StaysBound t := by
  cases h
  refine .live ?_
  split
  · exact .refl s
  next x _ =>
    have hx : s.StaysBound (s.storeFeed x) := (StaysBound.refl s).same rfl
    exact (hx.overDraw _).judgeWindow _

theorem execFeedStale_staysBound (h : execFeedStale s = .next t) : s.StaysBound t := by
  cases h
  refine .live ?_
  split
  · exact .refl s
  have ht := (StaysBound.refl s).atTick (s.feedSense.arrival + Config.feedStaleMs + 1)
  unfold State.feedStaleEvent
  dsimp only
  split
  · exact ht.same rfl
  · exact StaysBound.feedFault (ht.same rfl)

theorem execRecoveryExpiry_staysBound (h : execRecoveryExpiry s = .next t) : s.StaysBound t := by
  cases h
  refine .live ?_
  split
  · exact .refl s
  · exact StaysBound.feedTest (((StaysBound.refl s).atTick _).same rfl)

theorem execAttentionPulseEnd_staysBound (h : execAttentionPulseEnd s = .next t) : s.StaysBound t := by
  cases h
  refine .live ?_
  split
  · exact .refl s
  next n _ => exact ((StaysBound.refl s).atTick (n + Config.pulseMs)).same rfl

/-! ### Engines -/

theorem State.StaysBound.takeHead (h : s.StaysBound t) (e : EngineIx) (i : SlotIx) :
    s.StaysBound (t.takeHead e i) := by
  unfold State.takeHead
  split
  · exact h
  next r hr =>
    split
    · exact h.doubtRecord i
    split
    · exact h
    split
    · exact h
    split
    · exact h.doubtModel _
    split
    · exact h
    next c _ =>
      have hw : s.StaysBound (t.writeRecord i { r with state := .running, engaged := some e }) :=
        h.writeRecord hr rfl (by simp)
      have htake : s.StaysBound (t.takeRecord e i r c) := hw.same rfl
      unfold State.prepare
      split <;> exact htake.modEngine ..

theorem execEngineTake_staysBound (h : execEngineTake s = .next t) : s.StaysBound t := by
  cases h
  refine .live ?_
  have hs := (StaysBound.refl s).settled
  dsimp only
  split
  · split
    · exact hs
    · exact hs.takeHead ..
  · exact hs

theorem execDerateEvaluation_staysBound (h : execDerateEvaluation e s = .next t) : s.StaysBound t := by
  cases h
  refine .live ?_
  have hs := (StaysBound.refl s).settled
  dsimp only
  split
  · split
    · unfold State.takeEvaluation
      split
      · exact (hs.modEngine ..).submit ..
      · exact hs.stopEngine ..
      · exact hs.stopEngine ..
    · exact hs
  · exact hs

/-- R113, R177: a step that a timer ends. -/
theorem State.StaysBound.concludeStep (h : s.StaysBound t) (e : EngineIx) (v : Verdict) :
    s.StaysBound (t.concludeStep e v) := (h.reachVerdict e v).feedRetest t

theorem execHoldDurationExpiry_staysBound (h : execHoldDurationExpiry e s = .next t) :
    s.StaysBound t := by
  cases h
  refine .live ?_
  have hs := StaysBound.refl s
  split
  · split
    · exact (hs.atTick _).concludeStep ..
    · exact hs
  · exact hs

theorem execTripWindowClose_staysBound (h : execTripWindowClose e s = .next t) : s.StaysBound t := by
  cases h
  refine .live ?_
  have hs := StaysBound.refl s
  split
  · split
    · exact (hs.atTick _).concludeStep ..
    · exact hs
  · exact hs

theorem execSettleExpiry_staysBound (h : execSettleExpiry e s = .next t) : s.StaysBound t := by
  cases h
  refine .live ?_
  have hs := StaysBound.refl s
  split
  · split
    · exact (hs.atTick _).modEngine ..
    · exact hs
  · exact hs

theorem execLatchObserveExpiry_staysBound (h : execLatchObserveExpiry e s = .next t) :
    s.StaysBound t := by
  cases h
  refine .live ?_
  have hs := StaysBound.refl s
  split
  · split
    · split
      · unfold State.askRearm
        split
        · exact ((hs.atTick _).modEngine ..).setBay _ rfl
        · exact (hs.atTick _).modEngine ..
      · exact hs
    · exact hs
  · exact hs

theorem execRestartWindowClose_staysBound (h : execRestartWindowClose e s = .next t) :
    s.StaysBound t := by
  cases h
  refine .live ?_
  have hs := StaysBound.refl s
  split
  · split
    · exact (hs.atTick _).concludeStep ..
    · exact hs
  · exact hs

/-! ### Engine messages -/

theorem State.StaysBound.popMessage (s : State) (e : EngineIx) : s.StaysBound (s.popMessage e) :=
  (StaysBound.refl s).same rfl

theorem execExtract_staysBound (h : execExtract e s = .next t) : s.StaysBound t := by
  cases h
  refine .live ?_
  split
  · have hp := StaysBound.popMessage s e
    unfold State.serveExtract
    split
    · split
      · exact hp.answer ..
      · exact hp
    · exact hp
  · exact .refl s

theorem execPassageWrite_staysBound (h : execPassageWrite e s = .next t) : s.StaysBound t := by
  cases h
  refine .live ?_
  split
  · have hp := StaysBound.popMessage s e
    unfold State.writePassage
    split
    · exact hp
    next hr => exact hp.writeRecord (State.engagedRecord_spec hr).1 rfl .inl
  · exact .refl s

/-- R123: no close makes a record STAGED. -/
theorem State.closeWrite_ne_staged {r : ShelfRecord} {n : Nat} {o : StepOutcome} {late : Bool}
    {w : CloseWrite} (h : s.closeWrite r n o late = some w) : w.state ≠ .staged := by
  have requeued (c n : Nat) (hw : s.requeueWrite r c n = w) : w.state ≠ .staged := by
    subst hw
    obtain ⟨-, h | h⟩ := s.requeueWrite_spec r c n <;> simp [h]
  unfold State.closeWrite at h
  split at h
  · split at h
    · split at h
      · cases h; simp
      · exact requeued _ _ (Option.some.inj h)
    · cases h; simp
  · cases h; simp
  · split at h
    · exact requeued _ _ (Option.some.inj h)
    · cases h; simp
  · exact requeued _ _ (Option.some.inj h)
  · cases h; simp
  · cases h

theorem State.StaysBound.writeClose (h : s.StaysBound t) {i : SlotIx} {r : ShelfRecord}
    (hr : t.record i = some r) (x : ResultEntry) {w : CloseWrite} (hw : w.state ≠ .staged) :
    s.StaysBound (t.writeClose i r x w) := by
  unfold State.writeClose State.requeueAfter State.attendClose
  extract_lets v
  have hv : s.StaysBound v := h.writeRecord hr rfl fun hst => absurd hst hw
  have hc := hv.clearRun r.bay
  split
  · split
    · exact hc.same rfl
    · exact hc
  · split
    · exact hc.same rfl
    · exact hc.same rfl

theorem execStepClose_staysBound (h : execStepClose e s = .next t) : s.StaysBound t := by
  cases h
  refine .live ?_
  split
  next k n kind o v c a late _ =>
    unfold State.serveClose
    extract_lets p
    have hp : s.StaysBound p := by
      unfold p
      split
      · exact (StaysBound.popMessage s e).readRecord _
      · exact .popMessage s e
    clear_value p
    split
    · exact hp
    next r hr =>
      split
      · exact hp
      next w hw =>
        exact (hp.writeClose (State.engagedRecord_spec hr).1 _ (State.closeWrite_ne_staged hw)).completeLookups _
  · exact .refl s

/-! ### Load link (R158 to R172) -/

theorem execLinkTurn_staysBound (h : execLinkTurn s = .next t) : s.StaysBound t := by
  have turn {u : State} (hu : s.StaysBound u) : s.StaysBound u.takeTurn := by
    unfold State.takeTurn
    split
    next a _ =>
      have ha : s.StaysBound (u.sendRequest a) := hu.same rfl
      unfold State.reportSent
      split
      · split
        · exact (ha.arm _).feedRetest _
        · exact ha
      · exact ha
    · split
      · exact hu.same rfl
      · exact hu
  cases h
  refine .live ?_
  split
  · exact turn ((StaysBound.refl s).atTick _)
  · exact turn (StaysBound.refl s).settled

theorem State.StaysBound.onReply {k : ReplyKind} {g : Reply → State → State}
    (hg : ∀ y u, s.StaysBound u → s.StaysBound (g y u)) : s.StaysBound (s.onReply k f g) := by
  refine .live ?_
  split
  · exact .refl s
  · exact hg _ _ ((StaysBound.refl s).settled.same rfl)

/-- R157: an identified bank is IDLE. -/
theorem Bank.sound_identified (n : Nat) : (Bank.identified n).Sound := by
  simp [Bank.Sound, Bank.identified]

/-- R169: a released bank is IDLE. -/
theorem Bank.sound_released (k : Bank) : k.released.Sound := by
  simp [Bank.Sound, Bank.released]

/-- R160: a lost bank is OFFLINE. -/
theorem Bank.sound_lost (k : Bank) (code : Option Nat) : (k.lost code).Sound := by
  simp [Bank.Sound, Bank.lost]

theorem execIdentReply_staysBound (h : execIdentReply f s = .next t) : s.StaysBound t := by
  cases h
  refine .onReply fun y u hu => ?_
  split
  · exact (hu.setBank y.bank (Bank.sound_identified _)).bankTest
  · exact hu

/-- R164: a bank that is CONNECTED names the bay and the engine of the service. -/
theorem State.StaysBound.readyActive (h : s.StaysBound t) (v : Service) (b : BankIx) :
    s.StaysBound (t.readyActive v b) := by
  unfold State.readyActive
  extract_lets u
  have hu : s.StaysBound u := h.modBank b fun _ => by simp [Bank.Sound]
  split
  · exact hu.same rfl
  · exact (enterLoad (bankTest (hu.same (by rfl))) ..).feedRetest _

theorem State.StaysBound.serviceDrained (h : s.StaysBound t) (v : Service) :
    s.StaysBound (t.serviceDrained v) := by
  unfold State.serviceDrained
  extract_lets u
  have hu : s.StaysBound u := h.same rfl
  split
  · exact (hu.withdrawComplete _).feedRetest _
  · exact hu.bankTest

theorem State.modBank_modBank (s : State) (b : BankIx) (f g : Bank → Bank) :
    (s.modBank b f).modBank b g = s.modBank b fun k => g (f k) := by
  have hbank : (s.modBank b f).bank b = f (s.bank b) := (State.bank_modBank ..).trans (if_pos rfl)
  unfold State.modBank at hbank ⊢
  rw [hbank]
  exact congrArg (fun r => { s with arb := { s.arb with roster := r } }) (Tab.put_put ..)

/-- R165, R166: a bank of a service that is over goes RELEASING at once. -/
theorem State.StaysBound.readyLate (h : s.StaysBound t) (v : Service) (b : BankIx) :
    s.StaysBound (t.readyLate v b) := by
  unfold State.readyLate State.askOwnRelease
  rw [State.modBank_modBank]
  exact serviceDrained ((h.modBank b fun _ => by simp [Bank.Sound]).ask _) v

theorem execReadyReply_staysBound (h : execReadyReply f s = .next t) : s.StaysBound t := by
  cases h
  refine .onReply fun y u hu => ?_
  split
  · split
    · split
      · exact hu.readyActive ..
      · exact hu.readyLate ..
    · exact hu
  · exact hu

theorem State.StaysBound.levelTaken (h : s.StaysBound t) (e : EngineIx) (b : BankIx) (n : Nat)
    (limited : Bool) : s.StaysBound (t.levelTaken e b n limited) := by
  unfold State.levelTaken
  extract_lets u
  have hu : s.StaysBound u := h.modEngine ..
  split
  · unfold State.levelInLoad
    split
    · exact hu.reachVerdict ..
    · split
      · exact hu.same rfl
      · exact hu
  · refine passageAdvance ?_ e
    unfold State.rezero
    split
    · exact (hu.askSet ..).modEngine ..
    · exact hu
  · exact hu.unloadAdvance e
  · exact hu

theorem execLevelReply_staysBound (h : execLevelReply f s = .next t) : s.StaysBound t := by
  cases h
  refine .onReply fun y u hu => ?_
  split
  · exact (hu.levelTaken ..).feedRetest _
  · exact hu

theorem State.StaysBound.bankGone (h : s.StaysBound t) (e : EngineIx) (b : BankIx) :
    s.StaysBound (t.bankGone e b) := (h.modEngine e _).unloadAdvance e

theorem execReleasedReply_staysBound (h : execReleasedReply f s = .next t) : s.StaysBound t := by
  cases h
  refine .onReply fun y u hu => ?_
  split
  · have hr := hu.modBank y.bank (f := Bank.released) fun _ => Bank.sound_released _
    refine StaysBound.bankTest ?_
    unfold State.releasedReport
    split
    · exact hr.bankGone ..
    · exact hr
  · exact hu

theorem execWaitReply_staysBound (h : execWaitReply f s = .next t) : s.StaysBound t := by
  cases h
  refine .live ?_
  split
  · exact (StaysBound.refl s).same rfl
  · exact .refl s

theorem State.StaysBound.answerNoCapacity (h : s.StaysBound t) (e : EngineIx) :
    s.StaysBound (t.answerNoCapacity e) := (h.modEngine e _).takeStop ..

theorem State.StaysBound.chosenLost (h : s.StaysBound t) (v : Service) : s.StaysBound (t.chosenLost v) := by
  unfold State.chosenLost
  split
  · have he := h.endService v .failed
    unfold State.connectFailed
    dsimp only
    split
    · exact he.answerNoCapacity _
    · exact he.same rfl
  · exact h.same rfl
  · exact acquireExit (h.same (by rfl)) _

theorem State.StaysBound.afterLoss (h : s.StaysBound t) (b : BankIx) (k : Bank) :
    s.StaysBound (t.afterLoss b k) := by
  have grant (e : EngineIx) : s.StaysBound (t.grantLost e b) :=
    ((h.modEngine e _).takeStop ..).unloadAdvance e
  unfold State.afterLoss
  split
  · split
    · exact h.chosenLost _
    · exact h
  · split
    · exact h.chosenLost _
    · exact grant _
  · exact grant _
  · exact h.bankGone ..
  · exact h

theorem State.StaysBound.loseBank (h : s.StaysBound t) (b : BankIx) (code : Option Nat) :
    s.StaysBound (t.loseBank b code) := by
  have wait (v : State) (w : BankWait) (hv : s.StaysBound v) : s.StaysBound (testWaiting v w) := by
    unfold testWaiting
    split
    · exact answerNoCapacity (hv.same (by rfl)) _
    · exact hv
  unfold State.loseBank
  extract_lets s1 s2
  have h1 : s.StaysBound s1 := h.same rfl
  have h2 : s.StaysBound s2 := (h1.setBank b (Bank.sound_lost _ code)).afterLoss ..
  refine feedRetest ?_ _
  unfold State.testAfter
  split
  · exact (foldl wait _ h2).bankTest
  · exact foldl wait _ h2

theorem execFaultReply_staysBound (h : execFaultReply f s = .next t) : s.StaysBound t := by
  cases h
  refine .live ?_
  split
  · exact (StaysBound.refl s).settled.loseBank ..
  · exact .refl s

theorem execExchangeTimeout_staysBound {b : BankIx} (h : execExchangeTimeout b s = .next t) :
    s.StaysBound t := by
  cases h
  refine .live ?_
  split
  · exact ((StaysBound.refl s).atTick _).loseBank ..
  · exact .refl s

theorem execRediscoveryTimer_staysBound (h : execRediscoveryTimer s = .next t) : s.StaysBound t := by
  cases h
  refine .live ?_
  have ht := (StaysBound.refl s).atTick (s.arb.sweepFrom + Config.rediscoveryMs)
  exact StaysBound.foldl (fun _ b hv => hv.same (by rfl)) _ (ht.same (by rfl))

/-! ### Links -/

theorem State.LinksOnly.staysBound (h : s.LinksOnly t) : s.StaysBound t := by
  rw [h.frame]
  exact (StaysBound.refl s).same rfl

theorem execReadTransaction_staysBound {n : Nat} (h : execReadTransaction n s = .next t) :
    s.StaysBound t := by
  cases h
  refine .live ?_
  split <;> exact (StaysBound.refl s).same rfl

theorem execAnswerSent_staysBound (h : execAnswerSent s = .next t) : s.StaysBound t := by
  cases h
  exact .live ((StaysBound.refl s).same (by rfl))

theorem execConsoleFrameTimeout_staysBound (h : execConsoleFrameTimeout s = .next t) :
    s.StaysBound t := by
  cases h
  refine .live ?_
  split
  next x _ => exact ((StaysBound.refl s).atTick (x.last + Config.consoleGapMs + 1)).same rfl
  · exact .refl s

/-! ### Every command and every step -/

theorem exec_staysBound {c : Instr} (h : exec c s = .next t) : s.StaysBound t := by
  cases c with
  | admitShelf => exact execAdmit_staysBound h
  | lookup => exact execLookup_staysBound h
  | extract => exact execExtract_staysBound h
  | probe => exact execProbe_staysBound h
  | find => exact execFind_staysBound h
  | amendPriority => exact execAmendPriority_staysBound h
  | amendGuardLevel => exact execAmendGuardLevel_staysBound h
  | amendNote => exact execAmendNote_staysBound h
  | amendModelHandle => exact execAmendModelHandle_staysBound h
  | addModule => exact execAddModule_staysBound h
  | dropModule => exact execDropModule_staysBound h
  | amendPresentFlag => exact execAmendPresentFlag_staysBound h
  | bindBay => exact execBind_staysBound h
  | unbindBay => exact execUnbind_staysBound h
  | start => exact execStart_staysBound h
  | resume => exact execResume_staysBound h
  | abort => exact execAbort_staysBound h
  | release => exact execRelease_staysBound h
  | take => exact execTake_staysBound h
  | createModel => exact execCreateModel_staysBound h
  | editModel => exact execEditModel_staysBound h
  | activate => exact execActivate_staysBound h
  | revise => exact execRevise_staysBound h
  | discard => exact execDiscard_staysBound h
  | setBudget => exact execSetBudget_staysBound h
  | setFeedWindow => exact execSetFeedWindow_staysBound h
  | bankStatus => exact execBankStatus_staysBound h
  | stationStatus => exact execStationStatus_staysBound h
  | reset => exact execReset_staysBound h
  | requestFrame => exact (execRequestFrame_linksOnly h).staysBound
  | readTransaction => exact execReadTransaction_staysBound h
  | answerSent => exact execAnswerSent_staysBound h
  | transactionIgnored => cases h; exact .refl s
  | consoleFrameTimeout => exact execConsoleFrameTimeout_staysBound h
  | powerOnReset => exact execPowerOnReset_staysBound h
  | pinReset => exact execPowerOnReset_staysBound h
  | resetRelease => exact execResetRelease_staysBound h
  | shelfScrub => exact execShelfScrub_staysBound h
  | modelScrub => exact execModelScrub_staysBound h
  | seatInputChange => exact execSeatInputChange_staysBound h
  | debounceExpiry => exact execDebounceExpiry_staysBound h
  | tripIndicatorChange => exact execTripIndicatorChange_staysBound h
  | rearmPulseEnd => exact execRearmPulseEnd_staysBound h
  | bayFrame => exact execBayFrame_staysBound h
  | bayStale => exact execBayStale_staysBound h
  | feedFrame => exact execFeedFrame_staysBound h
  | feedStale => exact execFeedStale_staysBound h
  | recoveryExpiry => exact execRecoveryExpiry_staysBound h
  | attentionPulseEnd => exact execAttentionPulseEnd_staysBound h
  | engineTake => exact execEngineTake_staysBound h
  | derateEvaluation => exact execDerateEvaluation_staysBound h
  | linkTurn => exact execLinkTurn_staysBound h
  | identReply => exact execIdentReply_staysBound h
  | readyReply => exact execReadyReply_staysBound h
  | levelReply => exact execLevelReply_staysBound h
  | releasedReply => exact execReleasedReply_staysBound h
  | waitReply => exact execWaitReply_staysBound h
  | faultReply => exact execFaultReply_staysBound h
  | exchangeTimeout => exact execExchangeTimeout_staysBound h
  | rediscoveryTimer => exact execRediscoveryTimer_staysBound h
  | holdDurationExpiry => exact execHoldDurationExpiry_staysBound h
  | tripWindowClose => exact execTripWindowClose_staysBound h
  | settleExpiry => exact execSettleExpiry_staysBound h
  | latchObserveExpiry => exact execLatchObserveExpiry_staysBound h
  | restartWindowClose => exact execRestartWindowClose_staysBound h
  | passageWrite => exact execPassageWrite_staysBound h
  | stepClose => exact execStepClose_staysBound h

theorem step_staysBound (h : step s = .next t) : s.StaysBound t := by
  unfold step at h
  split at h
  next c rest _ =>
    have hq : s.StaysBound { s with pending := rest } := (StaysBound.refl s).same rfl
    exact hq.trans (exec_staysBound h)
  · obtain rfl | ⟨-, k⟩ | ⟨-, -, c, -, k⟩ := idle_cases h
    · exact (StaysBound.refl s).passTo _
    · exact (StaysBound.refl s).ownWork k
    · exact exec_staysBound k

/-- Settles O8: every command writes bay fields and bindings together, and roster entries by their state. -/
theorem bindingsStayAgreed : Obligations.BindingsStayAgreed :=
  ⟨fun _ _ hs h => (step_staysBound h).bindings hs, fun _ _ hs h => (step_staysBound h).banks hs⟩

end Sys2Proof.Machine
end

section
/-! BIND and UNBIND complete with one record and one bay written, or are refused in the order of their checks. -/

namespace Sys2Proof.Machine

variable {s t : State} {l : Link} {q : Request} {h : Handle} {n : Nat} {i : SlotIx} {r : ShelfRecord}
  {b : BayIx}

/-! ### The bay that a body names -/

/-- R80 check 3, R81 check 2: a bay out of service is not named. -/
theorem State.bayNamed_of_le (hn : s.straps.bays ≤ n) : s.bayNamed n = none := by
  unfold State.bayNamed
  split
  · exact if_neg (by omega)
  · rfl

theorem State.bayNamed_of_lt (hb : b.val = n) (hn : n < s.straps.bays) : s.bayNamed n = some b := by
  subst hb
  exact (dif_pos b.isLt).trans (if_pos hn)

/-! ### One record and one bay written, and the answer -/

/-- The machine after a request that wrote the record `r'` to slot `i`, gave the bay `b` the contents `x` and was
answered OK with a body: the other slots and bays and the rest of the machine stand. -/
structure State.PutsBay (s t : State) (l : Link) (q : Request) (i : SlotIx) (r' : ShelfRecord) (b : BayIx)
    (x : Bay) (body : List Byte) : Prop where
  slot : t.slot i = ⟨(s.slot i).gen, some r'.seal⟩
  slots : s.OtherSlotsKept t i
  bay : t.bay b = x
  bays : ∀ c, c ≠ b → t.bay c = s.bay c
  answers : s.Answers t l q .ok body
  frame : t = { s with store := { s.store with slots := t.store.slots }, bays := t.bays,
                       execLink := t.execLink, consoleLink := t.consoleLink }

theorem State.putsBay_answer (hq : (s.link l).request = some q) (i : SlotIx) (r' : ShelfRecord)
    (b : BayIx) (x : Bay) (body : List Byte) :
    s.PutsBay (((s.writeRecord i r').setBay b x).answer l .ok body) l q i r' b x body := by
  have hslot (j : SlotIx) : (((s.writeRecord i r').setBay b x).answer l .ok body).slot j =
      if j = i then ⟨(s.slot i).gen, some r'.seal⟩ else s.slot j := by
    rw [State.slot, State.answer_store]
    exact s.slot_writeRecord i j r'
  have hbay (c : BayIx) : (((s.writeRecord i r').setBay b x).answer l .ok body).bay c =
      if c = b then x else s.bay c := by
    rw [State.answer_frame]
    exact (s.writeRecord i r').bay_setBay b c x
  refine ⟨(hslot i).trans (if_pos rfl), fun j hj => (hslot j).trans (if_neg hj),
    (hbay b).trans (if_pos rfl), fun c hc => (hbay c).trans (if_neg hc), ?_, ?_⟩
  · exact State.answer_answers (u := (s.writeRecord i r').setBay b x) (fun k => by cases k <;> rfl)
      rfl hq ..
  · rw [State.answer_frame]; rfl

/-- R76: the enable output of a bay is off while the record bound to it is neither QUEUED nor RUNNING. -/
theorem State.enableOutput_of_idle {i : SlotIx} (hb : (t.bay b).binding = some (t.handleOf i))
    (hr : t.record i = some r) (hq : r.state ≠ .queued) (hn : r.state ≠ .running) :
    t.enableOutput b = false := by
  have hbound : (t.boundSlot b).bind t.record = some r := by
    rw [State.boundSlot, hb]
    exact hr
  simp [State.enableOutput, hbound, hq, hn]

/-! ### BIND -/

/-- R80: the state of a record that is bound follows the debounced seat. -/
theorem State.bindRecord_state_idle (seated : Bool) :
    (if seated then RecState.ready else .bound) ≠ .queued ∧
      (if seated then RecState.ready else .bound) ≠ .running := by
  cases seated <;> simp

/-- R80: what BIND does with a handle whose checks pass and a bay in service. -/
theorem execBind_of_permitted (hs : s.Serving l .bind q)
    (hb : readAll readBindBody q.body = some (h, n)) (hp : s.Permitted q h i r) (hv : b.val = n)
    (hn : n < s.straps.bays) :
    exec (.bindBay l) s = .next (
      if r.state ≠ .staged then s.refuse l .wrongState
      else if (s.bay b).binding ≠ none then s.refuse l .bayOccupied
      else (s.bindRecord i r b).answer l .ok
        (s.bindBody i (some b) (if (s.bay b).seated then .ready else .bound))) := by
  have hpass := hp.1.validate (skip := false) (needed := State.guardTier) (by simp [hp.2.1]) hp.2.2
  refine (State.exec_of_serving hs rfl).trans ?_
  simp only [hb, if_neg hp.1.1, hpass, State.bayNamed_of_lt hv hn]

/-- R80 check 3: BIND refuses a bay out of service. -/
theorem execBind_outOfRange (hs : s.Serving l .bind q)
    (hb : readAll readBindBody q.body = some (h, n)) (hp : s.Permitted q h i r)
    (hn : s.straps.bays ≤ n) : s.Refuses (.bindBay l) l q .outOfRange := by
  have hpass := hp.1.validate (skip := false) (needed := State.guardTier) (by simp [hp.2.1]) hp.2.2
  refine State.refuses_of_serving hs rfl ?_
  simp only [hb, if_neg hp.1.1, hpass, State.bayNamed_of_le hn]

/-- R80: BIND ties the record and the bay to each other. -/
theorem execBind_binds (hs : s.Serving l .bind q)
    (hb : readAll readBindBody q.body = some (h, b.val)) (hp : s.Permitted q h i r)
    (hn : b.val < s.straps.bays) (hst : r.state = .staged) (hf : (s.bay b).binding = none) :
    exec (.bindBay l) s = .next ((s.bindRecord i r b).answer l .ok
      (s.bindBody i (some b) (if (s.bay b).seated then .ready else .bound))) := by
  rw [execBind_of_permitted hs hb hp rfl hn, if_neg (by simp [hst]), if_neg (by simp [hf])]

/-- R80: the record and the bay after a BIND. -/
theorem State.putsBay_bindRecord (hq : (s.link l).request = some q) (i : SlotIx) (r : ShelfRecord)
    (b : BayIx) (body : List Byte) :
    s.PutsBay ((s.bindRecord i r b).answer l .ok body) l q i
      { r with bay := some b, state := if (s.bay b).seated then .ready else .bound } b
      { s.bay b with binding := some (s.handleOf i), seatLost := false } body :=
  State.putsBay_answer hq ..

/-! ### UNBIND -/

/-- R81: what UNBIND does with a bay in service whose binding names a record. -/
theorem execUnbind_of_bound (hs : s.Serving l .bind q)
    (hb : readAll readBindBody q.body = some (Handle.null, n)) (hv : b.val = n)
    (hn : n < s.straps.bays) (hbind : (s.bay b).binding = some (s.handleOf i))
    (hr : (s.readRecord i).record i = some r) :
    exec (.unbindBay l) s = .next (
      if r.state = .doubtful then (s.readRecord i).refuse l .doubtful
      else if r.guardLevel < q.tier then (s.readRecord i).refuse l .guarded
      else if r.state = .queued ∨ r.state = .running then (s.readRecord i).refuse l .wrongState
      else ((s.readRecord i).unbindRecord i r b).answer l .ok
        ((s.readRecord i).bindBody i none (unboundState r.state))) := by
  have hbound : s.boundSlot b = some i := by rw [State.boundSlot, hbind]; rfl
  refine (State.exec_of_serving hs rfl).trans ?_
  simp only [hb, ne_eq, not_true_eq_false, if_false, State.bayNamed_of_lt hv hn, hbound, hr]

/-- R81: the checks of UNBIND that a record in step with its code fails. -/
theorem execUnbind_refuses (hs : s.Serving l .bind q)
    (hb : readAll readBindBody q.body = some (Handle.null, n)) (hv : b.val = n)
    (hn : n < s.straps.bays) (hbind : (s.bay b).binding = some (s.handleOf i))
    (hr : s.record i = some r) :
    let refused := s.Refuses (.unbindBay l) l q
    (r.intact = true → r.state = .doubtful → refused .doubtful) ∧
    (r.intact = true → r.state ≠ .doubtful → r.guardLevel < q.tier → refused .guarded) ∧
    (r.intact = true → q.tier ≤ r.guardLevel → r.state = .queued ∨ r.state = .running →
      refused .wrongState) := by
  have he (hi : r.intact = true) := by
    have hread := State.readRecord_of_intact hr hi
    have k := execUnbind_of_bound hs hb hv hn hbind (by rw [hread]; exact hr)
    rwa [hread] at k
  refine ⟨fun hi hd => ?_, fun hi hd hg => ?_, fun hi hg hst => ?_⟩
  · exact State.refuses_of_refuse hs.request ((he hi).trans (congrArg _ (if_pos hd)))
  · exact State.refuses_of_refuse hs.request ((he hi).trans (by rw [if_neg hd, if_pos hg]))
  · have hd : r.state ≠ .doubtful := by obtain hst | hst := hst <;> simp [hst]
    exact State.refuses_of_refuse hs.request
      ((he hi).trans (by rw [if_neg hd, if_neg hg.not_gt, if_pos hst]))

/-- R24: UNBIND of a record that the read here finds to mismatch its code. -/
theorem execUnbind_of_damaged (hs : s.Serving l .bind q)
    (hb : readAll readBindBody q.body = some (Handle.null, n)) (hv : b.val = n)
    (hn : n < s.straps.bays) (hbind : (s.bay b).binding = some (s.handleOf i))
    (hr : s.record i = some r) (hi : r.intact = false) (hst : r.state ≠ .doubtful) :
    ∃ t, exec (.unbindBay l) s = .next t ∧ s.RecordDoubted t i r ∧
      t.link l = s.answeredLink l q .doubtful [] := by
  have hd := State.not_alreadyDoubtful (s := s) (i := i) (.inl hst)
  have hread := State.readRecord_of_damaged hr hi
  have hrec : (s.doubtRecord i).record i = some r.doubted.seal := by
    rw [State.record, State.slot_doubtRecord hr hd, if_pos rfl]
  have he := execUnbind_of_bound hs hb hv hn hbind (by rw [hread]; exact hrec)
  have hdoubt : r.doubted.seal.state = .doubtful := rfl
  rw [hread, if_pos hdoubt] at he
  obtain ⟨hslot, hkept, hqueue, hatt, hmod, hlink⟩ :=
    State.answer_doubtRecord hr hd hs.request hs.2.2.2 .doubtful []
  exact ⟨_, he, ⟨_, hslot, ShelfRecord.seal_intact _, rfl, hkept, hqueue, hatt, hmod⟩, hlink⟩

/-- R81: UNBIND of a record that is neither QUEUED nor RUNNING frees the bay. -/
theorem execUnbind_frees (hs : s.Serving l .bind q)
    (hb : readAll readBindBody q.body = some (Handle.null, b.val)) (hn : b.val < s.straps.bays)
    (hbind : (s.bay b).binding = some (s.handleOf i)) (hr : s.record i = some r)
    (hi : r.intact = true) (hd : r.state ≠ .doubtful) (hg : q.tier ≤ r.guardLevel)
    (hq : r.state ≠ .queued) (hrun : r.state ≠ .running) :
    exec (.unbindBay l) s = .next ((s.unbindRecord i r b).answer l .ok
      (s.bindBody i none (unboundState r.state))) := by
  have hread := State.readRecord_of_intact hr hi
  have he := execUnbind_of_bound hs hb rfl hn hbind (by rw [hread]; exact hr)
  rwa [hread, if_neg hd, if_neg hg.not_gt, if_neg (by simp [hq, hrun])] at he

/-- R81: the record and the bay after an UNBIND. -/
theorem State.putsBay_unbindRecord (hq : (s.link l).request = some q) (i : SlotIx) (r : ShelfRecord)
    (b : BayIx) (body : List Byte) :
    s.PutsBay ((s.unbindRecord i r b).answer l .ok body) l q i
      { r with bay := none, state := unboundState r.state } b
      { s.bay b with binding := none, seatLost := false, rearm := none } body :=
  State.putsBay_answer hq ..

/-- Settles O27, by the order of the checks of BIND and of UNBIND. -/
theorem bindAndUnbind : Obligations.BindAndUnbind := by
  refine ⟨fun l s q h i r b hs hb hp hn hst hf => ?_, fun l s q h n i r hs hb hp => ⟨fun hn => ?_,
    fun b hv hn => ⟨fun hst => ?_, fun hst hf => ?_⟩⟩, fun l s q n hs hb => ⟨fun hn => ?_,
    fun b hv hn => ⟨fun hf => ?_, fun i r hbind hr => ⟨fun hi hst => ?_, ?_⟩⟩⟩,
    fun l s q i r b hs hb hn hbind hr hi hd hg hq hrun => ?_⟩
  · have hh := hp.1.2.1
    have hput := State.putsBay_bindRecord hs.request i r b
      (s.bindBody i (some b) (if (s.bay b).seated then .ready else .bound))
    refine ⟨_, _, _, execBind_binds hs hb hp hn hst hf, hput.slot, rfl, rfl,
      ShelfRecord.seal_intact _, hh ▸ hput.bay, hput.bays, ?_, hput.slots, hh ▸ hput.answers,
      hput.frame⟩
    obtain ⟨hq, hrun⟩ := State.bindRecord_state_idle (s.bay b).seated
    refine State.enableOutput_of_idle (i := i) ?_ (congrArg ShelfSlot.record hput.slot) hq hrun
    rw [hput.bay, State.handleOf, State.handleOf, hput.slot]
  · exact execBind_outOfRange hs hb hp hn
  · exact State.refuses_of_refuse hs.request
      ((execBind_of_permitted hs hb hp hv hn).trans (by rw [if_pos hst]))
  · exact State.refuses_of_refuse hs.request
      ((execBind_of_permitted hs hb hp hv hn).trans (by rw [if_neg (by simp [hst]), if_pos hf]))
  · refine State.refuses_of_serving hs rfl ?_
    simp only [hb, ne_eq, not_true_eq_false, if_false, State.bayNamed_of_le hn]
  · have hbound : s.boundSlot b = none := by rw [State.boundSlot, hf]; rfl
    refine State.refuses_of_serving hs rfl ?_
    simp only [hb, ne_eq, not_true_eq_false, if_false, State.bayNamed_of_lt hv hn, hbound]
  · exact execUnbind_of_damaged hs hb hv hn hbind hr hi hst
  · exact execUnbind_refuses hs hb hv hn hbind hr
  · have hput := State.putsBay_unbindRecord hs.request i r b
      (s.bindBody i none (unboundState r.state))
    have kept {α : Type} (g : Bay → α)
        (hg : g { s.bay b with binding := none, seatLost := false, rearm := none } = g (s.bay b)) :
        g (((s.unbindRecord i r b).answer l .ok (s.bindBody i none (unboundState r.state))).bay b) =
          g (s.bay b) := (congrArg g hput.bay).trans hg
    exact ⟨_, _, execUnbind_frees hs hb hn hbind hr hi hd hg hq hrun, hput.slot, rfl,
      ShelfRecord.seal_intact _, fun hst => if_pos hst, fun hb hr => if_neg (by simp [hb, hr]),
      congrArg Bay.binding hput.bay, kept _ rfl, kept _ rfl, kept _ rfl, kept _ rfl, hput.bays,
      hput.slots, hput.answers, hput.frame⟩

end Sys2Proof.Machine
end

section
/-! The debounce of the seat, and the bound record that follows the debounced seat. -/

namespace Sys2Proof.Machine

variable {s t : State} {b : BayIx} {i : SlotIx} {r : ShelfRecord} {up : Bool}

/-! ### The raw seat -/

/-- R74: a change of the raw seat of a bay in service restarts the debounce timer. -/
theorem execSeatInputChange_of_change (hh : s.held = false) (hb : b.val < s.straps.bays)
    (hraw : (s.bay b).raw ≠ up) : exec (.seatInputChange b up) s =
      .next (s.setBay b { s.bay b with raw := up, debounce := some s.now }) := by
  have hin : s.bayInService b = true := decide_eq_true hb
  refine congrArg Host.Outcome.next ((State.live_of_released hh).trans (if_neg ?_))
  simp [hin, hraw]

/-- R73, R74: a level that is not new, or of a bay out of service, changes nothing. -/
theorem execSeatInputChange_of_same (hh : s.held = false)
    (hn : s.straps.bays ≤ b.val ∨ (s.bay b).raw = up) :
    exec (.seatInputChange b up) s = .next s := by
  refine congrArg Host.Outcome.next ((State.live_of_released hh).trans (if_pos ?_))
  exact hn.imp_left fun hle => decide_eq_false hle.not_gt

/-! ### What a seat event changes -/

/-- From `s` a seat event of bay `b` has been served: of the bays only the seat-lost mark of `b` has changed, and the
time base and the descriptors stand. -/
structure State.SeatServed (s t : State) (b : BayIx) : Prop where
  now : t.now = s.now
  turn : t.arb.turn = s.arb.turn
  models : t.models = s.models
  bay : ∃ lost, t.bay b = { s.bay b with seatLost := lost }
  bays : ∀ c, c ≠ b → t.bay c = s.bay c

/-- A change that leaves the bays leaves their seat-lost marks. -/
theorem State.SeatServed.of_bays (hnow : t.now = s.now) (hturn : t.arb.turn = s.arb.turn)
    (hmodels : t.models = s.models) (hbays : t.bays = s.bays) : s.SeatServed t b where
  now := hnow
  turn := hturn
  models := hmodels
  bay := ⟨(s.bay b).seatLost, congrArg (·.get b) hbays⟩
  bays c _ := congrArg (·.get c) hbays

theorem State.SeatServed.refl (s : State) (b : BayIx) : s.SeatServed s b := .of_bays rfl rfl rfl rfl

/-- R87: the seat-lost mark is set and the engine that holds the record is told: the mark and the engine's own
doings are all that changes. -/
theorem State.stopHolder_lost (s : State) (b : BayIx) (i : SlotIx) (r : ShelfRecord) (c : StopCause) :
    let t := (s.setBay b { s.bay b with seatLost := true }).stopHolder i r c
    t.now = s.now ∧ t.arb.turn = s.arb.turn ∧ t.models = s.models ∧ t.store = s.store ∧
      ∀ d, t.bay d = if d = b then { s.bay b with seatLost := true } else s.bay d := by
  intro t
  have hsh : t.shell = _ := State.stopHolder_shell ..
  exact ⟨(State.shell_now hsh :), (State.shell_turn hsh :), (State.shell_models hsh :),
    (State.shell_store hsh :), fun d =>
    (congrArg (·.get d) (State.shell_bays hsh)).trans (s.bay_setBay b d _)⟩

theorem State.seatServed_lost (s : State) (b : BayIx) (i : SlotIx) (r : ShelfRecord) (c : StopCause) :
    s.SeatServed ((s.setBay b { s.bay b with seatLost := true }).stopHolder i r c) b := by
  obtain ⟨hnow, hturn, hmodels, -, hbay⟩ := s.stopHolder_lost b i r c
  exact ⟨hnow, hturn, hmodels, ⟨true, (hbay b).trans (if_pos rfl)⟩,
    fun d hd => (hbay d).trans (if_neg hd)⟩

/-- R75: a seat event changes of the bays the seat-lost mark alone. -/
theorem State.seatEvent_served (s : State) (b : BayIx) (up : Bool) :
    s.SeatServed (s.seatEvent b up) b := by
  unfold State.seatEvent
  split
  · exact .refl s b
  split
  · exact .refl s b
  split
  · exact .of_bays rfl rfl rfl rfl
  · exact .of_bays rfl rfl rfl rfl
  · exact .of_bays rfl rfl rfl rfl
  · exact s.seatServed_lost ..
  · exact .refl s b

/-! ### The bound record, by its state (R75) -/

theorem State.seatEvent_unbound (hb : (s.bay b).binding = none) : s.seatEvent b up = s := by
  simp only [State.seatEvent, State.boundSlot, hb, Option.map_none]

theorem State.boundSlot_of_binding (hb : (s.bay b).binding = some (s.handleOf i)) :
    s.boundSlot b = some i := by
  rw [State.boundSlot, hb]
  rfl

section bound
variable (hb : (s.bay b).binding = some (s.handleOf i)) (hr : s.record i = some r)
include hb hr

theorem State.seatEvent_bound_up (hst : r.state = .bound) :
    s.seatEvent b true = s.writeRecord i { r with state := .ready } := by
  simp only [State.seatEvent, State.boundSlot_of_binding hb, hr, hst]

theorem State.seatEvent_ready_down (hst : r.state = .ready) :
    s.seatEvent b false = s.writeRecord i { r with state := .bound } := by
  simp only [State.seatEvent, State.boundSlot_of_binding hb, hr, hst]

theorem State.seatEvent_queued_down (hst : r.state = .queued) :
    s.seatEvent b false = s.holdQueued i r .unseated := by
  simp only [State.seatEvent, State.boundSlot_of_binding hb, hr, hst]

theorem State.seatEvent_running_down (hst : r.state = .running) :
    s.seatEvent b false =
      (s.setBay b { s.bay b with seatLost := true }).stopHolder i r .unseated := by
  simp only [State.seatEvent, State.boundSlot_of_binding hb, hr, hst]

/-- R75: a record that has ended, is held or is DOUBTFUL does not follow the seat, and a seat that comes up leaves a
QUEUED and a RUNNING one. -/
theorem State.seatEvent_stands (hst : r.state = .held ∨ r.state = .passed ∨ r.state = .failed ∨
    r.state = .doubtful ∨ (r.state = .running ∨ r.state = .queued) ∧ up = true) :
    s.seatEvent b up = s := by
  rcases hst with h | h | h | h | ⟨h | h, rfl⟩ <;>
    simp only [State.seatEvent, State.boundSlot_of_binding hb, hr, h]

/-- R75: a seat event writes no record but the bound one. -/
theorem State.seatEvent_otherSlots : s.OtherSlotsKept (s.seatEvent b up) i := by
  intro j hj
  have hwrite (r' : ShelfRecord) : (s.writeRecord i r').slot j = s.slot j :=
    (s.slot_writeRecord i j r').trans (if_neg hj)
  simp only [State.seatEvent, State.boundSlot_of_binding hb, hr]
  split
  · exact hwrite _
  · exact hwrite _
  · exact hwrite _
  · obtain ⟨-, -, -, hstore, -⟩ := s.stopHolder_lost b i r .unseated
    exact congrArg (·.slots.get j) hstore
  · rfl

/-- R87, R117: the engine on a load step of the record takes UNSEATED. -/
theorem State.seatEvent_unloads {e : EngineIx} {c : WorkingCopy} (hst : r.state = .running)
    (hen : r.engaged = some e) (hfree : (s.engine e).phase ≠ .free) (hc : c.handle = s.handleOf i)
    (hl : s.OnLoad e c) (hw : s.feed.waits = []) :
    ((s.seatEvent b false).engine e).stop = some .unseated ∧ s.Unloads (s.seatEvent b false) e := by
  have hload : (s.setBay b { s.bay b with seatLost := true }).OnLoad e c := hl
  have hstop : s.seatEvent b false =
      (s.setBay b { s.bay b with seatLost := true }).takeStop e .unseated :=
    (s.seatEvent_running_down hb hr hst).trans
      ((State.stopHolder_of_held (s := s.setBay b _) hen hl.1 hc hfree _).trans
        (State.stopEngine_onLoad _ e c _ hload hw))
  obtain ⟨hu, hs, -⟩ := State.takeStop_unloads _ e c .unseated hload
  rw [hstop]
  exact ⟨hs, hu.of_machine rfl rfl rfl rfl rfl⟩

end bound

/-! ### The debounced seat -/

/-- R74: the state in which a debounce timer has ended at a tick: the raw seat is taken. -/
def State.debounced (s : State) (b : BayIx) (k : Nat) (u : Option Turn) : State :=
  (s.atTime k u).setBay b { s.bay b with debounce := none, seated := (s.bay b).raw }

theorem State.debounced_bay (s : State) (b c : BayIx) (k : Nat) (u : Option Turn) :
    (s.debounced b k u).bay c =
      if c = b then { s.bay b with debounce := none, seated := (s.bay b).raw } else s.bay c :=
  (s.atTime k u).bay_setBay b c _

/-- R74: what the end of the timer does: the seat is taken, and a change of it is a seat event. -/
theorem execDebounceExpiry_of_running (hh : s.held = false) {z : Nat}
    (hz : (s.bay b).debounce = some z) (ho : s.ownWork = none) :
    ∃ k u, k = max s.now (z + 50) ∧ (z + 50 ≤ s.now → u = s.arb.turn) ∧ (s.now < z + 50 → u = none) ∧
      ((s.bay b).raw = (s.bay b).seated →
        exec (.debounceExpiry b) s = .next (s.debounced b k u)) ∧
      ((s.bay b).raw ≠ (s.bay b).seated →
        exec (.debounceExpiry b) s = .next ((s.debounced b k u).seatEvent b (s.bay b).raw)) := by
  obtain ⟨k, u, hat, hk, hsame, hnew⟩ := State.atTick_eq_atTime ho (z + Config.debounceMs)
  refine ⟨k, u, hk, hsame, hnew, fun hraw => ?_, fun hraw => ?_⟩
  · refine congrArg Host.Outcome.next ((State.live_of_released hh).trans ?_)
    simp only [hz, hat]
    refine (if_pos hraw).trans ?_
    rw [State.debounced, hraw]
    rfl
  · refine congrArg Host.Outcome.next ((State.live_of_released hh).trans ?_)
    simp only [hz, hat]
    exact if_neg hraw

/-- R74, R75: from the state with the debounced seat a seat event, or nothing, has been served. -/
theorem State.SeatServed.debounced {z k : Nat} {u : Option Turn} (h : (s.debounced b k u).SeatServed t b)
    (hk : k = max s.now (z + 50)) (hsame : z + 50 ≤ s.now → u = s.arb.turn)
    (hnew : s.now < z + 50 → u = none) :
    s.PassedTo t (z + 50) ∧ (t.bay b).seated = (s.bay b).raw ∧ (t.bay b).debounce = none ∧
      (t.bay b).raw = (s.bay b).raw ∧ (t.bay b).binding = (s.bay b).binding ∧
      (∀ c, c ≠ b → t.bay c = s.bay c) := by
  obtain ⟨lost, hbay⟩ := h.bay
  rw [State.debounced_bay, if_pos rfl] at hbay
  refine ⟨⟨h.now.trans hk, fun hle => h.turn.trans (hsame hle), fun hlt => h.turn.trans (hnew hlt)⟩, ?_, ?_,
    ?_, ?_, fun c hc => ?_⟩
  · rw [hbay]
  · rw [hbay]
  · rw [hbay]
  · rw [hbay]
  · rw [h.bays c hc, State.debounced_bay, if_neg hc]

/-- R87: the enable output of a bay is off while its seat-lost mark is set. -/
theorem State.enableOutput_of_lost (h : (t.bay b).seatLost = true) : t.enableOutput b = false := by
  simp [State.enableOutput, h]

/-- Settles O44, by the debounce of the seat and the state of the bound record. -/
theorem seatEventsFollowTheLifecycle : Obligations.SeatEventsFollowTheLifecycle := by
  intro s b hh
  refine ⟨fun up => execSeatInputChange_of_change hh, fun up => execSeatInputChange_of_same hh,
    fun z hz ho => ?_⟩
  obtain ⟨k, u, hk, hsame, hnew, hstay, hmove⟩ := execDebounceExpiry_of_running hh hz ho
  by_cases hraw : (s.bay b).raw = (s.bay b).seated
  · obtain ⟨hp, hseat, hdeb, hr, hbind, hbays⟩ :=
      (State.SeatServed.refl (s.debounced b k u) b).debounced hk hsame hnew
    exact ⟨_, hstay hraw, hp, hseat, hdeb, hr, hbind, hbays, fun _ => rfl,
      fun i r hne => absurd hraw hne⟩
  obtain ⟨hp, hseat, hdeb, hrawt, hbindt, hbays⟩ :=
    ((s.debounced b k u).seatEvent_served b (s.bay b).raw).debounced hk hsame hnew
  refine ⟨_, hmove hraw, hp, hseat, hdeb, hrawt, hbindt, hbays, fun hn => ?_, fun i r _ hbind hr => ?_⟩
  · have hnone : ((s.debounced b k u).bay b).binding = none := by
      rw [State.debounced_bay, if_pos rfl]
      exact hn.resolve_left hraw
    rw [State.seatEvent_unbound hnone]
    rfl
  have hb : ((s.debounced b k u).bay b).binding = some ((s.debounced b k u).handleOf i) := by
    rw [State.debounced_bay, if_pos rfl]
    exact hbind
  have hrec : (s.debounced b k u).record i = some r := hr
  refine ⟨State.seatEvent_otherSlots hb hrec, (State.seatEvent_served ..).models, fun hst hup => ?_,
    fun hst hup => ?_, fun hst hup => ?_, fun hst hup => ?_, fun hst => ?_,
    fun e c heng hl hw hup => ?_⟩
  · rw [hup, State.seatEvent_bound_up hb hrec hst]
    exact ⟨_, ShelfRecord.seal_intact _, (State.slot_writeRecord ..).trans (if_pos rfl), rfl⟩
  · rw [hup, State.seatEvent_ready_down hb hrec hst]
    exact ⟨_, ShelfRecord.seal_intact _, (State.slot_writeRecord ..).trans (if_pos rfl), rfl⟩
  · rw [hup, State.seatEvent_queued_down hb hrec hst]
    obtain ⟨-, hslot, hqueue, hatt, -⟩ := (s.debounced b k u).holdQueued_spec i r .unseated
    obtain ⟨y, hy, hyh, z, hyr⟩ := attendList_mem (s.handleOf i) Reasons.onlyHeld s.store.attention
    exact ⟨_, ShelfRecord.seal_intact _, (hslot i).trans (if_pos rfl), rfl, hqueue, y, hatt ▸ hy, hyh,
      by simp [hyr, Reasons.union, Reasons.onlyHeld]⟩
  · rw [hup, State.seatEvent_running_down hb hrec hst]
    obtain ⟨-, -, -, hstore, hbay⟩ := (s.debounced b k u).stopHolder_lost b i r .unseated
    have hlost := congrArg Bay.seatLost ((hbay b).trans (if_pos rfl))
    exact ⟨congrArg (·.slots.get i) hstore, hlost, State.enableOutput_of_lost hlost⟩
  · rw [State.seatEvent_stands hb hrec hst]
    rfl
  · obtain ⟨-, -, hst, hen, hfree, hc⟩ := heng
    rw [hl.1] at hc
    have hload : (s.debounced b k u).OnLoad e c := hl
    obtain ⟨hstop, hun⟩ := State.seatEvent_unloads hb hrec hst hen hfree (Option.some.inj hc) hload hw
    rw [hup]
    exact ⟨hstop, hun.of_machine rfl rfl rfl rfl rfl⟩

end Sys2Proof.Machine
end

section
/-! A verdict with or without banks, and the passage from a TRIP step into its RESTART step. -/

namespace Sys2Proof.Machine

variable {s t u : State} {e : EngineIx} {c : WorkingCopy} {v : Verdict}

/-! ### A verdict (R113) -/

theorem State.modEngine_modEngine (s : State) (e : EngineIx) (f g : Engine → Engine) :
    (s.modEngine e f).modEngine e g = s.modEngine e (g ∘ f) := by
  have hget : (s.modEngine e f).engine e = f (s.engine e) :=
    (State.engine_modEngine ..).trans (if_pos rfl)
  have hput : (s.modEngine e f).engines.put e (g ((s.modEngine e f).engine e)) =
      s.engines.put e (g (f (s.engine e))) := by
    rw [hget]
    exact Tab.put_put ..
  exact congrArg (fun x => { s with engines := x }) hput

/-- R116, R121: the close of an engine that alone has changed among the engines, with its outcome formed. -/
theorem State.closes_engineClose {x : Engine} (hx : u.engines = s.engines.put e x)
    (ho : u.outbox = s.outbox) (hc : x.copy = some c) (hout : x.outcome = some (v, false))
    (hr : u.feed.reservations = s.feed.reservations.filter (·.engine ≠ e)) :
    s.Closes (u.engineClose e) e c v.outcome v.value v.cause ∧ (u.engineClose e).feed = u.feed := by
  have hget : u.engine e = x := by rw [State.engine, hx, Tab.get_put_same]
  have hclose : u.engineClose e = (u.setEngine e Engine.free).send e
      (.close c.handle c.index c.kind v.outcome v.value v.cause c.attempt false) := by
    simp only [State.engineClose, hget, hc, hout]
  rw [hclose]
  refine ⟨⟨?_, ?_, hr⟩, rfl⟩
  · exact (congrArg (Tab.put · e Engine.free) hx).trans (Tab.put_put ..)
  · exact congrArg (fun o : Tab (List Message) 6 => o.put e (o.get e ++
      [.close c.handle c.index c.kind v.outcome v.value v.cause c.attempt false])) ho

/-- R113, R115: an engine whose grant is empty as it goes to CLOSE with a verdict. -/
def Engine.closing (en : Engine) (v : Verdict) : Engine :=
  { ({ en with verdict := some v } : Engine).unloading with reservation := .none }

theorem Engine.closing_outcome {en : Engine} (hs : en.stop = none) (v : Verdict) :
    (en.closing v).outcome = some (v, false) := by
  simp [Engine.closing, Engine.outcome, Engine.unloading, Engine.quiet, hs]

theorem State.reachVerdict_of_empty (hg : (s.engine e).grant = []) (v : Verdict) :
    s.reachVerdict e v =
      ((s.setFeed (s.feed.drop e)).setEngine e ((s.engine e).closing v)).engineClose e := by
  have hget : (s.modEngine e fun en => { en with verdict := some v }).engine e =
      { s.engine e with verdict := some v } := (State.engine_modEngine ..).trans (if_pos rfl)
  rw [State.reachVerdict, State.enterUnload_of_empty (by rw [hget]; exact hg),
    State.modEngine_modEngine, State.acquireExit]
  exact congrArg (State.engineClose · e) ((s.setFeed (s.feed.drop e)).modEngine_modEngine e _ _)

/-- R111, R113: a verdict at an engine with the empty grant of a step level of 0 closes its step at once. -/
theorem State.reachVerdict_closes (hc : (s.engine e).copy = some c) (hs : (s.engine e).stop = none)
    (hg : (s.engine e).grant = []) (v : Verdict) :
    s.Closes (s.reachVerdict e v) e c v.outcome v.value v.cause ∧
      (s.reachVerdict e v).feed = s.feed.drop e := by
  rw [State.reachVerdict_of_empty hg]
  exact State.closes_engineClose (s := s) rfl rfl hc (Engine.closing_outcome hs v) rfl

/-- R113: an engine without a stop cause reaches a verdict, and no submission joins or leaves the list. -/
theorem State.reaches_reachVerdict (hc : (s.engine e).copy = some c)
    (hs : (s.engine e).stop = none) (v : Verdict) :
    s.Reaches (s.reachVerdict e v) e c v ∧ (s.reachVerdict e v).feed.waits = s.feed.waits := by
  by_cases hg : (s.engine e).grant = []
  · obtain ⟨hcl, hf⟩ := State.reachVerdict_closes hc hs hg v
    exact ⟨⟨fun hne => absurd hg hne, fun _ => hcl⟩, (congrArg Feed.waits hf).trans (Feed.drop_waits ..)⟩
  · obtain ⟨hu, hv, ho, hw, -⟩ := s.reachVerdict_unloads e v hg
    exact ⟨⟨fun _ => ⟨hu, hv, ho⟩, fun he => absurd he hg⟩, hw⟩

/-- A verdict reached after a change of the engine beside its copy and its grant. -/
theorem State.Reaches.of_modEngine {f : Engine → Engine} (h : (s.modEngine e f).Reaches t e c v)
    (hc : (f (s.engine e)).copy = (s.engine e).copy)
    (hg : (f (s.engine e)).grant = (s.engine e).grant)
    (hj : ∀ n, (f (s.engine e)).justGranted n = (s.engine e).justGranted n) : s.Reaches t e c v := by
  have hget : ((s.modEngine e f).engine e).grant = (s.engine e).grant := by
    rw [State.engine_modEngine, if_pos rfl, hg]
  obtain ⟨hbanks, hnone⟩ := h
  rw [hget] at hbanks hnone
  refine ⟨fun hne => ?_, fun he => ?_⟩
  · obtain ⟨hu, hv, ho⟩ := hbanks hne
    exact ⟨hu.of_modEngine hc hg hj, hv, ho⟩
  · obtain ⟨heng, ho, hr⟩ := hnone he
    exact ⟨heng.trans (Tab.put_put ..), ho, hr⟩

/-! ### The passage (R114) -/

/-- R114, R134, R135 to R137: the engine as it begins the restart observation. -/
def Engine.passed (en : Engine) (c : WorkingCopy) (r : RestartParams) (now : Nat)
    (cause : DetectCause) : Engine :=
  { en.quiet with
    phase := .watch
    copy := some { c with index := c.index + 1, kind := .restart }
    verdict := none
    takeTick := now
    grant := en.grant.map fun g =>
      if g.load then { g with rezero := true } else { g with zeros := g.zeros + 1 }
    goodLevel := r.goodLevel
    lowSeen := cause = .collapse
    restartFrom := if r.mode = .hiccup then some now else none
    latchFrom := if r.mode = .latch then some now else none }

/-- From `s` the engine has passed from its TRIP step with elapsed time `n` into the RESTART step. -/
structure State.Passes (s u : State) (e : EngineIx) (c : WorkingCopy) (r : RestartParams) (n : Nat)
    (cause : DetectCause) : Prop where
  engine : ∃ x d, u.engine e =
    { (s.engine e).passed c r s.now cause with reservation := x, detection := d }
  engines : ∀ f, f ≠ e → u.engine f = s.engine f
  outbox : u.outbox.get e = s.outbox.get e ++ [.passage c.handle c.index n cause c.attempt]
  asked : ∀ g ∈ (s.engine e).grant, g.load = false → ⟨g.bank, .set 0, false⟩ ∈ u.arb.asked
  released : ∀ a, (s.engine e).grant = [] → (s.engine e).reservation = .held a →
    (u.engine e).reservation = .none ∧
      u.feed.reservations = s.feed.reservations.filter (·.engine ≠ e)
  waits : u.feed.waits = s.feed.waits

variable {r : RestartParams} {n : Nat} {cause : DetectCause}

/-- R114: with an empty grant no SET 0 is asked, so none is outstanding. -/
theorem State.passage_of_empty (hg : (s.engine e).grant = []) :
    let w := (s.send e (.passage c.handle c.index n cause c.attempt)).modEngine e
      (·.passed c r s.now cause)
    s.passage e c r n cause = w.passageAdvance e ∧
      w.engine e = (s.engine e).passed c r s.now cause ∧ (w.engine e).zerosDone = true := by
  intro w
  have hget : w.engine e = (s.engine e).passed c r s.now cause :=
    (State.engine_modEngine ..).trans (if_pos rfl)
  refine ⟨?_, hget, by simp [hget, Engine.zerosDone, Engine.passed, hg]⟩
  have hnone : ((s.engine e).grant.filter fun g => !g.load) = [] := by rw [hg]; rfl
  have hdef : s.passage e c r n cause = ((((s.engine e).grant.filter fun g => !g.load).foldl
      (fun t g => t.askSet g.bank 0 false)
      (s.send e (.passage c.handle c.index n cause c.attempt))).modEngine e
        (·.passed c r s.now cause)).passageAdvance e := rfl
  rw [hdef, hnone]
  rfl

/-- R114: a reservation that is held is released once every SET 0 of the passage has been answered. -/
theorem State.passageAdvance_of_zerosDone (hp : (s.engine e).phase = .watch)
    (hk : (s.engine e).copy.map (·.kind) = some .restart) (hz : (s.engine e).zerosDone = true) :
    (∀ a, (s.engine e).reservation = .held a → s.passageAdvance e = s.feedRelease e) ∧
      ((∀ a, (s.engine e).reservation ≠ .held a) → s.passageAdvance e = s) := by
  unfold State.passageAdvance
  simp only [hp, hk, hz, and_self, if_true]
  refine ⟨fun a ha => by rw [ha], fun hn => ?_⟩
  split
  next a ha => exact absurd ha (hn a)
  next => rfl

theorem State.passage_passes_of_empty (hg : (s.engine e).grant = []) :
    s.Passes (s.passage e c r n cause) e c r n cause := by
  obtain ⟨hdef, hget, hz⟩ := State.passage_of_empty (c := c) (r := r) (n := n) (cause := cause) hg
  generalize hw : (s.send e (.passage c.handle c.index n cause c.attempt)).modEngine e
    (·.passed c r s.now cause) = w at hdef hget hz
  obtain ⟨hheld, hfree⟩ := State.passageAdvance_of_zerosDone (by rw [hget]; rfl) (by rw [hget]; rfl) hz
  have hothers : ∀ f, f ≠ e → w.engine f = s.engine f := fun f hf => by
    rw [← hw, State.engine_modEngine, if_neg hf]
    rfl
  have hout : w.outbox.get e = s.outbox.get e ++
      [.passage c.handle c.index n cause c.attempt] := by
    rw [← hw]
    exact Tab.get_put_same ..
  have hfeed : w.feed = s.feed := by rw [← hw]; rfl
  have hres : (w.engine e).reservation = (s.engine e).reservation := by rw [hget]; rfl
  have hasked (t : State) : ∀ g ∈ (s.engine e).grant, g.load = false →
      ⟨g.bank, .set 0, false⟩ ∈ t.arb.asked := by simp [hg]
  rw [hdef]
  by_cases hr : ∃ a, (s.engine e).reservation = .held a
  · obtain ⟨a, ha⟩ := hr
    rw [hheld a (hres.trans ha)]
    have hrel : (w.feedRelease e).engine e = { w.engine e with reservation := .none } :=
      (State.engine_modEngine ..).trans (if_pos rfl)
    have hdrop : (w.feedRelease e).feed = s.feed.drop e := congrArg (Feed.drop · e) hfeed
    refine ⟨⟨.none, _, by rw [hrel, hget]⟩, fun f hf => ?_, hout, hasked _,
      fun _ _ _ => ⟨by rw [hrel], ?_⟩, ?_⟩
    · exact ((State.engine_modEngine ..).trans (if_neg hf)).trans (hothers f hf)
    · rw [hdrop, Feed.drop_reservations]
    · rw [hdrop, Feed.drop_waits]
  · rw [hfree fun a ha => hr ⟨a, hres.symm.trans ha⟩]
    exact ⟨⟨_, _, hget⟩, hothers, hout, hasked _, fun a _ ha => absurd ⟨a, ha⟩ hr,
      congrArg Feed.waits hfeed⟩

theorem State.passage_passes_of_banks (hg : (s.engine e).grant ≠ []) :
    s.Passes (s.passage e c r n cause) e c r n cause := by
  obtain ⟨heng, hothers, hfeed, hout, hasked⟩ := s.passage_held e c r n cause hg
  refine ⟨⟨_, _, heng⟩, hothers, ?_, fun g hm hl => ?_, fun a he => absurd he hg,
    congrArg Feed.waits hfeed⟩
  · rw [hout, Tab.get_put_same]
  · rw [hasked]
    refine List.mem_append_right _ (List.mem_map_of_mem (List.mem_filter.mpr ⟨hm, ?_⟩))
    simp [hl]

/-- R114: the passage, with banks or without. -/
theorem State.passage_passes (s : State) (e : EngineIx) (c : WorkingCopy) (r : RestartParams) (n : Nat)
    (cause : DetectCause) : s.Passes (s.passage e c r n cause) e c r n cause := by
  by_cases hg : (s.engine e).grant = []
  · exact State.passage_passes_of_empty hg
  · exact State.passage_passes_of_banks hg

end Sys2Proof.Machine
end

section
/-! An indicator event at the engine engaged on the bound record (R78, R99). -/

namespace Sys2Proof.Machine

variable {s t : State} {b : BayIx} {i : SlotIx} {r : ShelfRecord} {e : EngineIx} {c : WorkingCopy}

/-! ### Detection (R99) -/

/-- R99: what an engine with armed detection does leaves the submissions in the list. -/
theorem State.detect_waits (hd : (s.engine e).detection = .armed) (hc : (s.engine e).copy = some c)
    (hs : (s.engine e).stop = none) (cause : DetectCause) (tick : Nat) :
    (s.detect e cause tick).feed.waits = s.feed.waits := by
  have hget : (s.modEngine e fun en => { en with detection := .made cause tick }).engine e =
      { s.engine e with detection := .made cause tick } := (State.engine_modEngine ..).trans (if_pos rfl)
  have reaches (v : Verdict) := (State.reaches_reachVerdict
    (s := s.modEngine e fun en => { en with detection := .made cause tick })
    (c := c) (e := e) (by rw [hget]; exact hc) (by rw [hget]; exact hs) v).2
  unfold State.detect
  simp only [hd, hc]
  split
  · exact reaches _
  · exact reaches _
  · split
    · rfl
    split
    · rfl
    split
    · exact reaches _
    · exact (State.passage_passes ..).waits

/-- R113: a verdict reached on a detection that has been recorded. -/
theorem State.reaches_detected (hc : (s.engine e).copy = some c) (hs : (s.engine e).stop = none)
    (cause : DetectCause) (tick : Nat) (v : Verdict) :
    s.Reaches ((s.modEngine e fun en => { en with detection := .made cause tick }).reachVerdict e v)
      e c v := by
  have hget : (s.modEngine e fun en => { en with detection := .made cause tick }).engine e =
      { s.engine e with detection := .made cause tick } := (State.engine_modEngine ..).trans (if_pos rfl)
  exact (State.reaches_reachVerdict (by rw [hget]; exact hc) (by rw [hget]; exact hs) v).1.of_modEngine
    rfl rfl fun _ => rfl

/-- R114: a passage on a detection that has been recorded. -/
theorem State.Passes.of_detection {d : Detection} {p : RestartParams} {n : Nat} {cause : DetectCause}
    (h : (s.modEngine e fun en => { en with detection := d }).Passes t e c p n cause) :
    s.Passes t e c p n cause := by
  have hget : (s.modEngine e fun en => { en with detection := d }).engine e =
      { s.engine e with detection := d } := (State.engine_modEngine ..).trans (if_pos rfl)
  obtain ⟨⟨x, d', heng⟩, hothers, hout, hasked, hrel, hwaits⟩ := h
  rw [hget] at heng hasked hrel
  exact ⟨⟨x, d', heng⟩, fun f hf =>
    (hothers f hf).trans ((State.engine_modEngine ..).trans (if_neg hf)), hout, hasked, hrel, hwaits⟩

/-! ### The trip indicator (R78) -/

/-- R78: the state in which the level of a trip indicator has been stored. -/
def State.withIndicator (s : State) (b : BayIx) (a : Bool) : State :=
  s.setBay b { s.bay b with indicator := a }

theorem State.setBay_indicator (s : State) (b : BayIx) (a : Bool) :
    s.setBay b { s.bay b with indicator := a } = s.withIndicator b a := rfl

theorem State.withIndicator_binding (s : State) (b : BayIx) (a : Bool) :
    ((s.withIndicator b a).bay b).binding = (s.bay b).binding := by
  rw [State.withIndicator, State.bay_setBay, if_pos rfl]

theorem execTripIndicatorChange_out (hh : s.held = false) (hb : s.straps.bays ≤ b.val) (a : Bool) :
    exec (.tripIndicatorChange b a) s = .next s := by
  have hin : s.bayInService b = false := decide_eq_false hb.not_gt
  exact congrArg Host.Outcome.next ((State.live_of_released hh).trans (if_pos hin))

/-- R78: the engine that is engaged on the record of a bay takes its indicator events. -/
theorem State.EngagedOn.engagedAt (h : s.EngagedOn e i r b) : s.engagedAt b = some e := by
  obtain ⟨hb, hr, hst, hen, hfree, hc⟩ := h
  have hheld : s.holds e (s.handleOf i) = true := by simp [State.holds, hfree, hc]
  simp only [State.engagedAt, State.boundSlot_of_binding hb, hr, hst, if_true, hen,
    Option.filter_some, hheld]

theorem State.engagedAt_unbound (h : (s.bay b).binding = none) : s.engagedAt b = none := by
  simp only [State.engagedAt, State.boundSlot, h, Option.map_none]

/-- R78: a level that is no change to active, or at a bay with no record, is stored. -/
theorem execTripIndicatorChange_stores (hh : s.held = false) (hb : b.val < s.straps.bays) {a : Bool}
    (hn : a = false ∨ (s.bay b).indicator = true ∨ (s.bay b).binding = none) :
    exec (.tripIndicatorChange b a) s = .next (s.withIndicator b a) := by
  have hin : s.bayInService b = true := decide_eq_true hb
  refine congrArg Host.Outcome.next ((State.live_of_released hh).trans ?_)
  simp only [hin, Bool.true_eq_false, if_false, State.setBay_indicator]
  rcases hn with rfl | hi | hf
  · rfl
  · simp only [hi, Bool.not_true, Bool.and_false, Bool.false_eq_true, if_false]
  · have hbind : ((s.withIndicator b a).bay b).binding = none :=
      (s.withIndicator_binding b a).trans hf
    simp only [State.engagedAt_unbound hbind]
    exact ite_self _

/-- R78, R99: a change to active reaches the engaged engine. -/
theorem execTripIndicatorChange_detects (hh : s.held = false) (hb : b.val < s.straps.bays)
    (hi : (s.bay b).indicator = false) (he : s.EngagedOn e i r b) (hl : s.OnStep e c)
    (hd : (s.engine e).detection = .armed) (hw : s.feed.waits = []) :
    exec (.tripIndicatorChange b true) s =
      .next ((s.withIndicator b true).detect e .indicator s.now) := by
  have hin : s.bayInService b = true := decide_eq_true hb
  obtain ⟨hc, -, -, hs⟩ := hl
  have hat : (s.withIndicator b true).engagedAt b = some e := by
    obtain ⟨hbind, hrest⟩ := he
    exact State.EngagedOn.engagedAt (i := i) (r := r) ⟨(s.withIndicator_binding b true).trans hbind, hrest⟩
  have hwaits : ((s.withIndicator b true).detect e .indicator s.now).feed.waits = [] :=
    (State.detect_waits (s := s.withIndicator b true) hd hc hs _ _).trans hw
  refine congrArg Host.Outcome.next ((State.live_of_released hh).trans ?_)
  simp only [hin, Bool.true_eq_false, if_false, State.setBay_indicator, hi, Bool.not_false, Bool.and_true,
    if_true, hat]
  exact State.feedRetest_of_waits _ _ hwaits

/-- Settles O45, by the kind of the step and, in a TRIP step, the elapsed time. -/
theorem detectionEndsTheStep : Obligations.DetectionEndsTheStep := by
  intro s b hh
  refine ⟨fun a hb => execTripIndicatorChange_out hh hb a,
    fun a hb => execTripIndicatorChange_stores hh hb, fun i r e c hb hi he hl hd hw => ?_⟩
  refine ⟨_, execTripIndicatorChange_detects hh hb hi he hl hd hw, ?_⟩
  obtain ⟨hc, -, -, hs⟩ := hl
  have hsh := (s.withIndicator b true).detect_shell e .indicator s.now
  obtain ⟨hhold, hderate, htrip⟩ := (s.withIndicator b true).detect_armed e c .indicator
    s.now hd hc
  have reaches := State.reaches_detected (s := s.withIndicator b true) hc hs .indicator
    s.now
  have hbays : _ = s.bays.put b { s.bay b with indicator := true } := State.shell_bays hsh
  refine ⟨hbays, ?_, fun p hp => ?_, fun p hp => ?_, fun p k z hp hz => ⟨fun hlate => ?_,
    fun hle hlt => ?_, fun hle hge => ?_⟩⟩
  · rw [hbays]
    exact State.shell_frame hsh
  · rw [hhold p hp]
    exact reaches _
  · rw [hderate p hp]
    exact reaches _
  · rw [htrip p k z hp hz, if_pos hlate]
    exact ⟨rfl, rfl⟩
  · rw [htrip p k z hp hz, if_neg hle.not_gt, if_pos hlt]
    exact reaches _
  · rw [htrip p k z hp hz, if_neg hle.not_gt, if_neg hge.not_gt]
    obtain ⟨⟨x, d, hx⟩, hothers, hout, hasked, hrel, -⟩ := (State.passage_passes _ e c k (s.now - z)
      .indicator).of_detection (s := s.withIndicator b true)
    exact ⟨congrArg Engine.phase hx, congrArg Engine.verdict hx, congrArg Engine.copy hx,
      congrArg Engine.takeTick hx, congrArg Engine.lowSeen hx, congrArg Engine.goodLevel hx,
      congrArg Engine.restartFrom hx, congrArg Engine.latchFrom hx, hout, hrel, hasked, hothers⟩

end Sys2Proof.Machine
end

section
/-! The sense link: the checks of a bay frame, the sample that it stores, and a bay that goes STALE. -/

namespace Sys2Proof.Machine

variable {s : State} {b : BayIx} {bytes : List Byte} {f : BayFields} {e : EngineIx} {c : WorkingCopy}

/-! ### The checks of a bay frame (R92, R204, R206) -/

theorem crc8Ok_withCrc8 (bs : List Byte) : crc8Ok (withCrc8 bs) = true := by
  simp [crc8Ok, withCrc8]

/-- R92 check 1: a frame that has fields is of 12 bytes and of kind 0x01. -/
theorem readBayFields_shape (h : readBayFields bytes = some f) :
    bytes.length = 12 ∧ bytes.head? = some 0x01#8 := by
  unfold readBayFields at h
  split at h
  · split at h
    next hk => exact ⟨rfl, congrArg some hk⟩
    next => cases h
  · cases h

/-- R92: a frame is accepted when all four checks pass. -/
theorem State.acceptBay_eq_some : s.acceptBay bytes = some (b, f) ↔
    readBayFields bytes = some f ∧ f.bay = b.val ∧ crc8Ok bytes = true ∧ b.val < s.straps.bays ∧
      (s.sense b).seq ≠ some f.seq := by
  unfold State.acceptBay
  cases readBayFields bytes with
  | none => simp
  | some g =>
    by_cases hlt : g.bay < 24
    · simp only [hlt, dite_true, State.bayInService, decide_eq_true_eq]
      constructor
      · intro h
        split at h
        next hchecks =>
          obtain ⟨rfl, rfl⟩ := Prod.mk.inj (Option.some.inj h)
          exact ⟨rfl, rfl, hchecks⟩
        next => cases h
      · rintro ⟨hg, hb, hchecks⟩
        obtain rfl := Option.some.inj hg
        obtain rfl : (⟨g.bay, hlt⟩ : BayIx) = b := Fin.ext hb
        exact if_pos hchecks
    · simp only [hlt, dite_false, reduceCtorEq, false_iff]
      rintro ⟨hg, hb, -⟩
      obtain rfl := Option.some.inj hg
      exact hlt (hb ▸ b.isLt)

/-- R92: a frame for which some check fails of every bay is not accepted. -/
theorem State.acceptBay_eq_none (h : ∀ b f, readBayFields bytes = some f → f.bay = b.val →
    crc8Ok bytes = true → b.val < s.straps.bays → (s.sense b).seq = some f.seq) :
    s.acceptBay bytes = none := by
  refine Option.eq_none_iff_forall_ne_some.mpr fun ⟨b, f⟩ ha => ?_
  obtain ⟨hf, hb, hcrc, hin, hseq⟩ := State.acceptBay_eq_some.mp ha
  exact hseq (h b f hf hb hcrc hin)

/-- R204: the fields that the bytes of a bay frame spell. -/
def bayFieldsOf (bay v1 v0 i1 i0 t1 t0 n1 n0 fs : Byte) : BayFields where
  bay := bay.toNat
  vOut := signed16 (v1.toNat * 256 + v0.toNat)
  iOut := signed16 (i1.toNat * 256 + i0.toNat)
  temp := signed16 (t1.toNat * 256 + t0.toNat)
  vIn := signed16 (n1.toNat * 256 + n0.toNat)
  flagVin := fs.toNat.testBit 3
  flagT := fs.toNat.testBit 2
  flagI := fs.toNat.testBit 1
  flagV := fs.toNat.testBit 0
  seq := fs.toNat / 16

theorem readBayFields_withCrc8 (bay v1 v0 i1 i0 t1 t0 n1 n0 fs : Byte) :
    readBayFields (withCrc8 [0x01#8, bay, v1, v0, i1, i0, t1, t0, n1, n0, fs]) =
      some (bayFieldsOf bay v1 v0 i1 i0 t1 t0 n1 n0 fs) := rfl

/-! ### Clamps (R93) -/

theorem clampInt_eq {lo hi : Int} (h : lo ≤ hi) (z : Int) : clampInt lo hi z = max lo (min hi z) := by
  unfold clampInt
  split
  · omega
  · split <;> omega

theorem toNat_clampInt {hi : Int} (h : 0 ≤ hi) (z : Int) :
    ((clampInt 0 hi z).toNat : Int) = max 0 (min hi z) := by
  rw [clampInt_eq h]
  omega

/-- R93: a value is clamped when it lies outside the range. -/
theorem clampInt_ne_iff {lo hi : Int} (h : lo ≤ hi) (z : Int) :
    clampInt lo hi z ≠ z ↔ z < lo ∨ hi < z := by
  rw [clampInt_eq h]
  omega

theorem BayFields.stored_vOut (f : BayFields) : (f.stored.vOut : Int) = max 0 (min 6500 f.vOut) ∧
    f.stored.overV = (f.flagV || decide (f.vOut < 0 ∨ 6500 < f.vOut)) :=
  ⟨toNat_clampInt (by decide) _,
    congrArg (f.flagV || ·) (decide_eq_decide.mpr (clampInt_ne_iff (by decide) _))⟩

theorem BayFields.stored_iOut (f : BayFields) : (f.stored.iOut : Int) = max 0 (min 20000 f.iOut) ∧
    f.stored.overI = (f.flagI || decide (f.iOut < 0 ∨ 20000 < f.iOut)) :=
  ⟨toNat_clampInt (by decide) _,
    congrArg (f.flagI || ·) (decide_eq_decide.mpr (clampInt_ne_iff (by decide) _))⟩

theorem BayFields.stored_temp (f : BayFields) : f.stored.temp = max (-400) (min 1250 f.temp) ∧
    f.stored.overT = (f.flagT || decide (f.temp < -400 ∨ 1250 < f.temp)) :=
  ⟨clampInt_eq (by decide) _,
    congrArg (f.flagT || ·) (decide_eq_decide.mpr (clampInt_ne_iff (by decide) _))⟩

theorem BayFields.stored_vIn (f : BayFields) : (f.stored.vIn : Int) = max 0 (min 3000 f.vIn) ∧
    f.stored.overVin = (f.flagVin || decide (f.vIn < 0 ∨ 3000 < f.vIn)) :=
  ⟨toNat_clampInt (by decide) _,
    congrArg (f.flagVin || ·) (decide_eq_decide.mpr (clampInt_ne_iff (by decide) _))⟩

/-! ### BAY_FRAME (R92, R94, R98) -/

/-- R92, R194: a frame that fails a check changes nothing, held in reset or not. -/
theorem execBayFrame_refuses (ha : s.acceptBay bytes = none) : exec (.bayFrame bytes) s = .next s := by
  refine congrArg Host.Outcome.next ?_
  unfold State.live
  split
  · rfl
  · simp only [ha]

theorem State.watcher_setSense (s : State) (b d : BayIx) (x : BaySense) :
    (s.setSense b x).watcher d = s.watcher d := rfl

theorem State.watcher_storeBay (s : State) (b : BayIx) (f : BayFields) (d : BayIx) :
    (s.storeBay b f).watcher d = s.watcher d := s.watcher_setSense ..

theorem execBayFrame_stores (hh : s.held = false) (ha : s.acceptBay bytes = some (b, f))
    (hw : s.watcher b = none) : exec (.bayFrame bytes) s = .next (s.storeBay b f) := by
  refine congrArg Host.Outcome.next ((State.live_of_released hh).trans ?_)
  simp only [ha, State.watcher_storeBay, hw]

theorem execBayFrame_forwards (hh : s.held = false) (ha : s.acceptBay bytes = some (b, f))
    (hw : s.watcher b = some e) : exec (.bayFrame bytes) s =
      .next ((s.storeBay b f).feedRetest ((s.storeBay b f).forward e f.stored)) := by
  refine congrArg Host.Outcome.next ((State.live_of_released hh).trans ?_)
  simp only [ha, State.watcher_storeBay, hw]

/-! ### BAY_STALE (R94, R98) -/

/-- R94: the state in which bay `b` has gone STALE, at a tick and with a turn of the load link. -/
def State.staled (s : State) (b : BayIx) (k : Nat) (u : Option Turn) : State :=
  (s.atTime k u).setSense b { s.sense b with sense := .stale }

theorem State.watcher_atTime (s : State) (k : Nat) (u : Option Turn) (d : BayIx) :
    (s.atTime k u).watcher d = s.watcher d := rfl

theorem execBayStale_of_not_fresh (hh : s.held = false) (hf : (s.sense b).sense ≠ .fresh) :
    exec (.bayStale b) s = .next s :=
  congrArg Host.Outcome.next ((State.live_of_released hh).trans (if_pos hf))

/-- R94, R98: at an age of 21 the bay is STALE, which the engine that watches it is told. -/
theorem execBayStale_of_fresh (hh : s.held = false) (hf : (s.sense b).sense = .fresh)
    (ho : s.ownWork = none) : ∃ k u, s.PassedTo (s.staled b k u) ((s.sense b).arrival + 21) ∧
      (s.watcher b = none → exec (.bayStale b) s = .next (s.staled b k u)) ∧
      (∀ e, s.watcher b = some e →
        exec (.bayStale b) s = .next ((s.staled b k u).stopEngine e .senseLost)) := by
  obtain ⟨k, u, hat, hk, hsame, hnew⟩ :=
    State.atTick_eq_atTime ho ((s.sense b).arrival + Config.bayStaleMs + 1)
  refine ⟨k, u, ⟨hk, hsame, hnew⟩, fun hn => ?_, fun e he => ?_⟩
  · refine congrArg Host.Outcome.next ((State.live_of_released hh).trans ((if_neg (· hf)).trans ?_))
    simp only [hat, State.watcher_setSense, State.watcher_atTime, hn]
    rfl
  · refine congrArg Host.Outcome.next ((State.live_of_released hh).trans ((if_neg (· hf)).trans ?_))
    simp only [hat, State.watcher_setSense, State.watcher_atTime, he]
    rfl

/-- R98, R117: what the stop of the watching engine leaves: the time, the bay's sense store and the rest. -/
theorem State.stopEngine_staled (s : State) (b : BayIx) (k : Nat) (u : Option Turn) (e : EngineIx) :
    let t := (s.staled b k u).stopEngine e .senseLost
    t.now = k ∧ t.arb.turn = u ∧
      t.senses = s.senses.put b { s.sense b with sense := .stale } := by
  intro t
  have hsh : t.shell = (s.staled b k u).shell := State.stopEngine_shell ..
  exact ⟨State.shell_now hsh, State.shell_turn hsh, State.shell_senses hsh⟩

/-- R98, R117: an engine on a load step that watches the bay takes SENSE_LOST and unloads. -/
theorem State.stopEngine_staled_unloads {k : Nat} {u : Option Turn} (hl : s.OnLoad e c)
    (hw : s.feed.waits = []) :
    let t := (s.staled b k u).stopEngine e .senseLost
    (t.engine e).stop = some .senseLost ∧ s.Unloads t e ∧
      t = { s with now := t.now, senses := t.senses, engines := t.engines, feed := t.feed,
                   arb := t.arb } := by
  have hload : (s.staled b k u).OnLoad e c := hl
  obtain ⟨hun, hstop, -, hout, -⟩ := State.takeStop_unloads _ e c .senseLost hload
  have hsh : ((s.staled b k u).takeStop e .senseLost).shell = (s.staled b k u).shell :=
    State.takeStop_shell ..
  intro t
  have ht : t = (s.staled b k u).takeStop e .senseLost := State.stopEngine_onLoad _ e c _ hload hw
  rw [ht]
  refine ⟨hstop, hun.of_machine rfl rfl rfl rfl rfl, ?_⟩
  rw [State.shell_now hsh, State.shell_senses hsh]
  refine (State.shell_frame hsh).trans ?_
  rw [hout]
  rfl

/-- Settles O46, by the checks of a frame and by the watch of a bay that goes STALE. -/
theorem bayFramesAreStored : Obligations.BayFramesAreStored := by
  refine ⟨fun s bytes hbad => ?_, fun s bay v1 v0 i1 i0 t1 t0 n1 n0 fs hh => ⟨fun hout => ?_,
    fun b hb hin => ⟨fun hseq => ?_, fun hseq hw => ?_⟩⟩, fun s b hh =>
    ⟨execBayStale_of_not_fresh hh, fun hf ho => ?_⟩⟩
  · refine execBayFrame_refuses (State.acceptBay_eq_none fun b f hf _ hcrc _ => ?_)
    obtain ⟨hlen, hkind⟩ := readBayFields_shape hf
    simp [hcrc, hlen, hkind] at hbad
  · refine execBayFrame_refuses (State.acceptBay_eq_none fun b f hf hb _ hin => ?_)
    rw [readBayFields_withCrc8] at hf
    obtain rfl := Option.some.inj hf
    have hval : bay.toNat = b.val := hb
    omega
  · refine execBayFrame_refuses (State.acceptBay_eq_none fun d f hf hd _ _ => ?_)
    rw [readBayFields_withCrc8] at hf
    obtain rfl := Option.some.inj hf
    obtain rfl : d = b := Fin.ext (hd.symm.trans hb)
    exact hseq
  · have ha := State.acceptBay_eq_some.mpr ⟨readBayFields_withCrc8 bay v1 v0 i1 i0 t1 t0 n1 n0 fs, hb,
      crc8Ok_withCrc8 _, hin, hseq⟩
    exact ⟨_, execBayFrame_stores hh ha hw, BayFields.stored_vOut _, BayFields.stored_iOut _,
      BayFields.stored_temp _, BayFields.stored_vIn _⟩
  · obtain ⟨k, u, hp, hnone, hsome⟩ := execBayStale_of_fresh hh hf ho
    cases hw : s.watcher b with
    | none => exact ⟨_, hnone hw, hp, rfl, fun _ => rfl,
        fun e c he => absurd he.symm (Option.some_ne_none e)⟩
    | some e =>
      obtain ⟨hnow, hturn, hsenses⟩ := s.stopEngine_staled b k u e
      obtain ⟨hk, hsame, hnew⟩ := hp
      refine ⟨_, hsome e hw, ⟨hnow.trans hk, fun hle => hturn.trans (hsame hle),
        fun hlt => hturn.trans (hnew hlt)⟩, hsenses, fun hn => absurd hn (Option.some_ne_none e),
        fun e' c he hl hwaits => ?_⟩
      obtain rfl := Option.some.inj he
      exact State.stopEngine_staled_unloads hl hwaits

end Sys2Proof.Machine
end

section
/-! A forwarded bay sample: what the watching engine does with it, by the kind of its step (R98, R99, R135 to R138,
R151 to R153). -/

namespace Sys2Proof.Machine

variable {s t u : State} {e : EngineIx} {c : WorkingCopy} {x : Sample}

/-! ### A stop cause with or without banks (R118) -/

/-- R118: an engine on a step takes a stop cause, and no submission joins or leaves the list. -/
theorem State.stopsWith_takeStop (h : s.OnStep e c) (why : StopCause) :
    s.StopsWith (s.takeStop e why) e c why ∧ (s.takeStop e why).feed.waits = s.feed.waits := by
  obtain ⟨hc, hp, hv, hs⟩ := h
  by_cases hg : (s.engine e).grant = []
  · obtain ⟨hcl, hf, -⟩ := State.takeStop_empty_closes (why := why) hc hv hs hp hg
    exact ⟨⟨fun hne => absurd hg hne, fun _ => hcl⟩, (congrArg Feed.waits hf).trans (Feed.drop_waits ..)⟩
  · obtain ⟨hu, hst, -, ho, hw, -⟩ := s.takeStop_unloads e c why ⟨hc, hp, hv, hs, hg⟩
    exact ⟨⟨fun _ => ⟨hu, hst, ho⟩, fun he => absurd he hg⟩, hw⟩

/-- The engines, their messages, the reservations of the feed and the lists of the arbiter are all that may have
changed: no submission has joined or left the feed's list. -/
structure State.RestKept (s t : State) : Prop where
  shell : t.shell = s.shell
  waits : t.feed.waits = s.feed.waits

theorem State.RestKept.refl (s : State) : s.RestKept s := ⟨rfl, rfl⟩

theorem State.RestKept.trans (h : s.RestKept t) (h' : t.RestKept u) : s.RestKept u :=
  ⟨h'.shell.trans h.shell, h'.waits.trans h.waits⟩

theorem State.RestKept.takeStop (h : s.OnStep e c) (why : StopCause) :
    s.RestKept (s.takeStop e why) :=
  ⟨State.takeStop_shell .., (State.stopsWith_takeStop h why).2⟩

theorem State.RestKept.reachVerdict (h : s.OnStep e c) (v : Verdict) :
    s.RestKept (s.reachVerdict e v) := by
  obtain ⟨hc, -, -, hs⟩ := h
  exact ⟨State.reachVerdict_shell .., (State.reaches_reachVerdict hc hs v).2⟩

/-! ### A detection by collapse (R99) -/

theorem State.collapseSample_above {v : Nat} (h : v ≤ x.vOut) : s.collapseSample e v x = s :=
  if_neg h.not_gt

theorem State.collapseSample_below {v : Nat} (h : x.vOut < v) :
    s.collapseSample e v x = s.detect e .collapse s.now := if_pos h

/-- R131, R132: a detection in a TRIP step, by its elapsed time. -/
theorem State.detect_trip {p : TripParams} {r : RestartParams} {z : Nat} (h : s.OnStep e c)
    (hd : (s.engine e).detection = .armed) (hp : c.params = .trip p r)
    (hz : (s.engine e).tripFrom = some z) (cause : DetectCause) (tick : Nat) :
    (p.tMax < tick - z → s.detect e cause tick = s) ∧
    (tick - z ≤ p.tMax → tick - z < p.tMin →
      s.Reaches (s.detect e cause tick) e c ⟨.tripEarly, some (tick - z), some cause⟩) ∧
    (tick - z ≤ p.tMax → p.tMin ≤ tick - z →
      s.Passes (s.detect e cause tick) e c r (tick - z) cause) := by
  obtain ⟨hc, -, -, hs⟩ := h
  obtain ⟨-, -, htrip⟩ := s.detect_armed e c cause tick hd hc
  rw [htrip p r z hp hz]
  refine ⟨fun hlate => if_pos hlate, fun hle hlt => ?_, fun hle hge => ?_⟩
  · rw [if_neg hle.not_gt, if_pos hlt]
    exact State.reaches_detected hc hs cause tick _
  · rw [if_neg hle.not_gt, if_neg hge.not_gt]
    exact (State.passage_passes _ e c r (tick - z) cause).of_detection

/-- R99: at an engine on a step a detection changes no more than a verdict does, armed or not. -/
theorem State.RestKept.detect (h : s.OnStep e c) (cause : DetectCause) (tick : Nat) :
    s.RestKept (s.detect e cause tick) := by
  refine ⟨State.detect_shell .., ?_⟩
  by_cases hd : (s.engine e).detection = .armed
  · obtain ⟨hc, -, -, hs⟩ := h
    exact State.detect_waits hd hc hs cause tick
  · unfold State.detect
    dsimp only
    split
    next harmed _ => exact absurd harmed hd
    next => rfl

theorem State.RestKept.collapseSample (h : s.OnStep e c) (v : Nat) (x : Sample) :
    s.RestKept (s.collapseSample e v x) := by
  unfold State.collapseSample
  split
  · exact .detect h ..
  · exact .refl s

/-! ### The restart observation (R135 to R138) -/

theorem State.restartSample_low {r : RestartParams} (h : x.vOut < (s.engine e).goodLevel) :
    s.restartSample e r x = s.setEngine e { s.engine e with lowSeen := true } := if_pos h

section good
variable {r : RestartParams} (h : (s.engine e).goodLevel ≤ x.vOut)
include h

theorem State.restartSample_unseen (hl : (s.engine e).lowSeen = false) : s.restartSample e r x = s := by
  simp [State.restartSample, h.not_gt, hl]

theorem State.restartSample_hiccup (hl : (s.engine e).lowSeen = true) {z : Nat}
    (hz : (s.engine e).restartFrom = some z) : s.restartSample e r x =
      if s.now - z ≤ r.window then s.reachVerdict e ⟨.pass, some (s.now - z), none⟩ else s := by
  simp only [State.restartSample, h.not_gt, hl, hz, if_false, if_true]

theorem State.restartSample_latch (hl : (s.engine e).lowSeen = true)
    (hr : (s.engine e).restartFrom = none) {z w : Nat} (hz : (s.engine e).latchFrom = some z)
    (hw : r.latchObserve = some w) : s.restartSample e r x =
      if s.now - z ≤ w then s.reachVerdict e ⟨.unlatched, some (s.now - z), none⟩ else s := by
  simp only [State.restartSample, h.not_gt, hl, hr, hz, hw, if_false, if_true]

end good

theorem State.RestKept.restartSample (h : s.OnStep e c) (r : RestartParams) (x : Sample) :
    s.RestKept (s.restartSample e r x) := by
  unfold State.restartSample
  dsimp only
  split
  · exact ⟨rfl, rfl⟩
  split
  · split
    · split
      · exact .reachVerdict h _
      · exact .refl s
    · split
      · split
        · exact .reachVerdict h _
        · exact .refl s
      · exact .refl s
    · exact .refl s
  · exact .refl s

/-! ### The checks of a DERATE step (R151 to R153) -/

/-- R151 check 1: the conditions fail at a flag of the temperature or of the input, or at a drift above the
bound. -/
theorem conditionsHold_eq_false {p : DerateParams} {captured : Int} :
    conditionsHold p captured x = false ↔
      x.overT = true ∨ x.overVin = true ∨ p.drift < (x.temp - captured).natAbs := by
  simp only [conditionsHold, Bool.and_eq_false_iff, Bool.not_eq_false', decide_eq_false_iff_not, not_le,
    or_assoc]

section derate
variable {p : DerateParams}

theorem State.derateSample_out (h : conditionsHold p (s.engine e).captured x = false) :
    s.derateSample e p x = s.takeStop e .outOfConditions := if_pos h

theorem State.derateSample_collapse (h : ¬conditionsHold p (s.engine e).captured x = false)
    (hd : (s.engine e).detection = .armed) (hv : x.vOut < p.vCollapse) :
    s.derateSample e p x = s.detect e .collapse s.now := (if_neg h).trans (if_pos ⟨hd, hv⟩)

theorem State.derateSample_counts (h : ¬conditionsHold p (s.engine e).captured x = false)
    (hv : p.vCollapse ≤ x.vOut) : s.derateSample e p x = s.countSample e p x :=
  (if_neg h).trans (if_neg fun hc => hv.not_gt hc.2)

theorem State.countSample_idle (h : (s.engine e).collection = none) : s.countSample e p x = s := by
  simp only [State.countSample, h]

/-- R101: an engine on a step is on it with a sample counted. -/
theorem State.OnStep.counted (h : s.OnStep e c) (k : Option Collection) :
    (s.modEngine e fun en => { en with collection := k }).OnStep e c := by
  have hget : (s.modEngine e fun en => { en with collection := k }).engine e =
      { s.engine e with collection := k } := (State.engine_modEngine ..).trans (if_pos rfl)
  unfold State.OnStep
  rw [hget]
  exact h

section collecting
variable {k : Collection} (h : (s.engine e).collection = some k)
include h

theorem State.countSample_over (ho : x.overV = true ∨ x.overI = true) :
    s.countSample e p x = s.takeStop e .outOfConditions := by
  simp only [State.countSample, h, Bool.or_eq_true, ho, if_true]

/-- R101: the engine with a sample counted goes on, or has the verdict of its averages. -/
theorem State.countSample_counts (hv : x.overV = false) (hi : x.overI = false) :
    s.countSample e p x =
      if p.window ≤ k.count + 1 then
        (s.modEngine e fun en => { en with collection := some (k.count1 x) }).reachVerdict e
          (derateVerdict (derateTol p (s.engine e).pExp) (s.engine e).pExp
            (measuredPower (k.count1 x) p.window))
      else s.modEngine e fun en => { en with collection := some (k.count1 x) } := by
  simp only [State.countSample, h, hv, hi, Bool.or_self, Bool.false_eq_true, if_false]
  rfl

end collecting

/-- R113: a verdict reached with a sample counted. -/
theorem State.reaches_counted (h : s.OnStep e c) (k : Option Collection) (v : Verdict) :
    s.Reaches ((s.modEngine e fun en => { en with collection := k }).reachVerdict e v) e c v :=
  (State.reaches_reachVerdict (h.counted k).1 (h.counted k).2.2.2 v).1.of_modEngine rfl rfl fun _ => rfl

theorem State.RestKept.countSample (h : s.OnStep e c) (p : DerateParams) (x : Sample) :
    s.RestKept (s.countSample e p x) := by
  unfold State.countSample
  split
  · exact .refl s
  split
  · exact .takeStop h _
  have hcount (k : Collection) :
      s.RestKept (s.modEngine e fun en => { en with collection := some k }) := ⟨rfl, rfl⟩
  dsimp only
  split
  · exact (hcount _).trans (.reachVerdict (h.counted _) _)
  · exact hcount _

theorem State.RestKept.derateSample (h : s.OnStep e c) (p : DerateParams) (x : Sample) :
    s.RestKept (s.derateSample e p x) := by
  unfold State.derateSample
  split
  · exact .takeStop h _
  split
  · exact .detect h ..
  · exact .countSample h ..

end derate

/-- R153: the verdict by the measured power: above the tolerance, below it, or within it. -/
theorem derateVerdict_cases (tol pExp pMeas : Nat) :
    (pExp + tol < pMeas → derateVerdict tol pExp pMeas = ⟨.derateHigh, some pMeas, none⟩) ∧
    (pMeas + tol < pExp → derateVerdict tol pExp pMeas = ⟨.derateLow, some pMeas, none⟩) ∧
    (pMeas ≤ pExp + tol → pExp ≤ pMeas + tol →
      derateVerdict tol pExp pMeas = ⟨.pass, some pMeas, none⟩) := by
  unfold derateVerdict
  refine ⟨fun hhigh => if_pos hhigh, fun hlow => ?_, fun hle hge => ?_⟩
  · rw [if_neg (by omega), if_pos hlow]
  · rw [if_neg hle.not_gt, if_neg hge.not_gt]

/-! ### The sample at the engine, by its step (R98) -/

section kinds
variable (hc : (s.engine e).copy = some c)
include hc

theorem State.forward_hold {p : HoldParams} (hk : c.kind = .hold) (hp : c.params = .hold p) :
    s.forward e x = s.collapseSample e p.vCollapse x := by
  simp only [State.forward, hc, hk, hp]
  rfl

theorem State.forward_trip {p : TripParams} {k : RestartParams} (hk : c.kind = .trip)
    (hp : c.params = .trip p k) : s.forward e x = s.collapseSample e p.vCollapse x := by
  simp only [State.forward, hc, hk, hp]
  rfl

theorem State.forward_restart {p : TripParams} {k : RestartParams} (hk : c.kind = .restart)
    (hp : c.params = .trip p k) : s.forward e x = s.restartSample e k x := by
  simp only [State.forward, hc, hk, hp]

theorem State.forward_derate {p : DerateParams} (hk : c.kind = .derate) (hp : c.params = .derate p)
    (hw : (s.engine e).phase = .watch) : s.forward e x = s.derateSample e p x := by
  simp only [State.forward, hc, hk, hp, hw, if_true]

end kinds

/-- R98: what a forwarded sample leaves. -/
theorem State.RestKept.forward (h : s.OnStep e c) (x : Sample) : s.RestKept (s.forward e x) := by
  unfold State.forward
  split
  · exact .refl s
  split
  · exact .restartSample h ..
  · split
    · exact .derateSample h ..
    · exact .collapseSample h ..
  · exact .collapseSample h ..

/-! ### BAY_FRAME at an engine on a step (R98) -/

/-- R94, R98: the sample is stored and the watching engine takes it; nothing beside the engines, their messages, the
feed and the arbiter changes with it. -/
theorem execBayFrame_onStep {bytes : List Byte} {b : BayIx} {f : BayFields} (hh : s.held = false)
    (ha : s.acceptBay bytes = some (b, f)) (hw : s.watcher b = some e) (h : s.OnStep e c)
    (hwaits : s.feed.waits = []) :
    let t := (s.storeBay b f).forward e f.stored
    exec (.bayFrame bytes) s = .next t ∧
      t.senses = s.senses.put b ⟨.fresh, some f.stored, some f.seq, s.now⟩ ∧
      t = { s with senses := t.senses, engines := t.engines, feed := t.feed, arb := t.arb,
                   outbox := t.outbox } := by
  intro t
  have hon : (s.storeBay b f).OnStep e c := h
  obtain ⟨hsh, hkept⟩ : (s.storeBay b f).RestKept t := .forward hon _
  have hsenses : t.senses = (s.storeBay b f).senses := State.shell_senses hsh
  refine ⟨(execBayFrame_forwards hh ha hw).trans (congrArg Host.Outcome.next ?_), hsenses, ?_⟩
  · exact State.feedRetest_of_waits _ _ (hkept.trans hwaits)
  · rw [hsenses]
    exact State.shell_frame hsh

end Sys2Proof.Machine
end

section
/-! The four kinds of step at a forwarded sample. -/

namespace Sys2Proof.Machine

variable {s : State} {e : EngineIx} {c : WorkingCopy} {x : Sample}

theorem State.forward_hold_reaches {p : HoldParams} (h : s.OnStep e c) (hk : c.kind = .hold)
    (hp : c.params = .hold p) (hd : (s.engine e).detection = .armed) :
    (x.vOut < p.vCollapse → s.Reaches (s.forward e x) e c ⟨.holdTripped, none, some .collapse⟩) ∧
    (p.vCollapse ≤ x.vOut → s.forward e x = s) := by
  obtain ⟨hc, -, -, hs⟩ := h
  rw [State.forward_hold hc hk hp]
  refine ⟨fun hlt => ?_, State.collapseSample_above⟩
  rw [State.collapseSample_below hlt, (s.detect_armed e c .collapse s.now hd hc).1 p hp]
  exact State.reaches_detected hc hs ..

theorem State.forward_trip_detects {p : TripParams} {k : RestartParams}
    (hc : (s.engine e).copy = some c) (hk : c.kind = .trip) (hp : c.params = .trip p k) :
    (p.vCollapse ≤ x.vOut → s.forward e x = s) ∧
    (x.vOut < p.vCollapse → s.forward e x = s.detect e .collapse s.now) := by
  rw [State.forward_trip hc hk hp]
  exact ⟨State.collapseSample_above, State.collapseSample_below⟩

/-- R135: a RESTART step before the comparison for good: the low-seen mark. -/
theorem State.forward_restart_marks {p : TripParams} {k : RestartParams}
    (hc : (s.engine e).copy = some c) (hk : c.kind = .restart) (hp : c.params = .trip p k) :
    (x.vOut < (s.engine e).goodLevel →
      s.forward e x = s.setEngine e { s.engine e with lowSeen := true }) ∧
    ((s.engine e).goodLevel ≤ x.vOut → (s.engine e).lowSeen = false → s.forward e x = s) := by
  rw [State.forward_restart hc hk hp]
  exact ⟨State.restartSample_low, State.restartSample_unseen⟩

/-- R136 to R138: a RESTART step with its low-seen mark set, at a good sample. -/
theorem State.forward_restart_good {p : TripParams} {k : RestartParams} {z : Nat} (h : s.OnStep e c)
    (hk : c.kind = .restart) (hp : c.params = .trip p k) (hg : (s.engine e).goodLevel ≤ x.vOut)
    (hl : (s.engine e).lowSeen = true) :
    ((s.engine e).restartFrom = some z →
      (s.now - z ≤ k.window → s.Reaches (s.forward e x) e c ⟨.pass, some (s.now - z), none⟩) ∧
      (k.window < s.now - z → s.forward e x = s)) ∧
    (∀ w, (s.engine e).restartFrom = none → (s.engine e).latchFrom = some z →
      k.latchObserve = some w →
      (s.now - z ≤ w → s.Reaches (s.forward e x) e c ⟨.unlatched, some (s.now - z), none⟩) ∧
      (w < s.now - z → s.forward e x = s)) := by
  obtain ⟨hc, -, -, hs⟩ := h
  rw [State.forward_restart hc hk hp]
  refine ⟨fun hz => ?_, fun w hr hz hw => ?_⟩
  · rw [State.restartSample_hiccup hg hl hz]
    refine ⟨fun hle => ?_, fun hlt => if_neg hlt.not_ge⟩
    rw [if_pos hle]
    exact (State.reaches_reachVerdict hc hs _).1
  · rw [State.restartSample_latch hg hl hr hz hw]
    refine ⟨fun hle => ?_, fun hlt => if_neg hlt.not_ge⟩
    rw [if_pos hle]
    exact (State.reaches_reachVerdict hc hs _).1

/-- R151: the checks of a sample in WATCH, in order. -/
theorem State.forward_derate_checks {p : DerateParams} (h : s.OnStep e c) (hk : c.kind = .derate)
    (hp : c.params = .derate p) (hw : (s.engine e).phase = .watch) :
    let out := x.overT = true ∨ x.overVin = true ∨ p.drift < (x.temp - (s.engine e).captured).natAbs
    (out → s.StopsWith (s.forward e x) e c .outOfConditions) ∧
    (¬out → (s.engine e).detection = .armed → x.vOut < p.vCollapse →
      s.Reaches (s.forward e x) e c ⟨.derateTripped, none, some .collapse⟩) ∧
    (¬out → p.vCollapse ≤ x.vOut → s.forward e x = s.countSample e p x) := by
  intro out
  have hcond : conditionsHold p (s.engine e).captured x = false ↔ out := conditionsHold_eq_false
  have hstop := State.stopsWith_takeStop h .outOfConditions
  obtain ⟨hc, -, -, hs⟩ := h
  rw [State.forward_derate hc hk hp hw]
  refine ⟨fun ho => ?_, fun hno hd hlt => ?_, fun hno => State.derateSample_counts (mt hcond.mp hno)⟩
  · rw [State.derateSample_out (hcond.mpr ho)]
    exact hstop.1
  · rw [State.derateSample_collapse (mt hcond.mp hno) hd hlt,
      (s.detect_armed e c .collapse s.now hd hc).2.1 p hp]
    exact State.reaches_detected hc hs ..

/-- R101, R102, R152, R153: a sample that counts into the collection of a DERATE step. -/
theorem State.countSample_decides {p : DerateParams} {k : Collection} (h : s.OnStep e c)
    (hk : (s.engine e).collection = some k) (hv : x.overV = false) (hi : x.overI = false) :
    let pMeas := (k.sumV + x.vOut) / p.window * ((k.sumI + x.iOut) / p.window) / 1000
    let pExp := (s.engine e).pExp
    let tol := max p.tolAbs (pExp * p.tolPpt / 1000)
    let t := s.countSample e p x
    (k.count + 1 < p.window → t = s.setEngine e { s.engine e with
      collection := some ⟨k.count + 1, k.sumV + x.vOut, k.sumI + x.iOut⟩ }) ∧
    (k.count + 1 = p.window →
      (pExp + tol < pMeas → s.Reaches t e c ⟨.derateHigh, some pMeas, none⟩) ∧
      (pMeas + tol < pExp → s.Reaches t e c ⟨.derateLow, some pMeas, none⟩) ∧
      (pMeas ≤ pExp + tol → pExp ≤ pMeas + tol → s.Reaches t e c ⟨.pass, some pMeas, none⟩)) := by
  intro pMeas pExp tol t
  have ht : t = _ := State.countSample_counts hk hv hi
  refine ⟨fun hlt => ht.trans (if_neg hlt.not_ge), fun heq => ?_⟩
  rw [if_pos heq.ge] at ht
  obtain ⟨hhigh, hlow, hwithin⟩ := derateVerdict_cases tol pExp pMeas
  have reaches {v : Verdict} (hverdict : derateVerdict tol pExp pMeas = v) : s.Reaches t e c v := by
    rw [ht, ← hverdict]
    exact State.reaches_counted h _ _
  exact ⟨fun h₁ => reaches (hhigh h₁), fun h₁ => reaches (hlow h₁), fun h₁ h₂ => reaches (hwithin h₁ h₂)⟩

/-- Settles O47, by the kind of the step that the watching engine is on. -/
theorem forwardedSamplesDecideTheStep : Obligations.ForwardedSamplesDecideTheStep := by
  intro s bytes b f e c hh ha hw h hwaits
  obtain ⟨hexec, hsenses, hframe⟩ := execBayFrame_onStep hh ha hw h hwaits
  have hon : (s.storeBay b f).OnStep e c := h
  refine ⟨_, hexec, hsenses, hframe, fun p hk hp hd => ?_, fun p k z hk hp hd hz => ?_,
    fun p k hk hp => ?_, fun p hk hp hw => ?_⟩
  · obtain ⟨hbelow, habove⟩ := State.forward_hold_reaches (x := f.stored) hon hk hp hd
    exact ⟨hbelow, fun hle => (congrArg State.engines (habove hle) :)⟩
  · obtain ⟨habove, hbelow⟩ := State.forward_trip_detects (x := f.stored) hon.1 hk hp
    obtain ⟨hlate, hearly, hpass⟩ := State.detect_trip hon hd hp hz .collapse s.now
    refine ⟨fun hle => ?_, fun hlt => ?_⟩
    · rw [habove hle]
      exact ⟨rfl, rfl⟩
    rw [hbelow hlt]
    refine ⟨fun hover => ?_, hearly, fun hle hge => ?_⟩
    · exact ⟨(congrArg State.engines (hlate hover) :), (congrArg State.outbox (hlate hover) :)⟩
    · obtain ⟨⟨r, d, hx⟩, hothers, hout, hasked, hrel, -⟩ := hpass hle hge
      exact ⟨congrArg Engine.phase hx, congrArg Engine.verdict hx, congrArg Engine.copy hx,
        congrArg Engine.takeTick hx, congrArg Engine.lowSeen hx, congrArg Engine.goodLevel hx,
        congrArg Engine.restartFrom hx, congrArg Engine.latchFrom hx, hout, hrel, hasked, hothers⟩
  · obtain ⟨hlow, hunseen⟩ := State.forward_restart_marks (x := f.stored) hon.1 hk hp
    refine ⟨fun h => (congrArg State.engines (hlow h) :),
      fun hg hl => (congrArg State.engines (hunseen hg hl) :), fun z hg hl hz => ?_,
      fun z w hg hl hr hz hob => ?_⟩
    · obtain ⟨hin, hlate⟩ := (State.forward_restart_good hon hk hp hg hl).1 hz
      exact ⟨hin, fun hlt => (congrArg State.engines (hlate hlt) :)⟩
    · obtain ⟨hin, hlate⟩ := (State.forward_restart_good hon hk hp hg hl).2 w hr hz hob
      exact ⟨hin, fun hlt => (congrArg State.engines (hlate hlt) :)⟩
  · obtain ⟨hout, htrip, hcount⟩ := State.forward_derate_checks (x := f.stored) hon hk hp hw
    refine ⟨hout, htrip, fun hno hle => ?_⟩
    rw [hcount hno hle]
    refine ⟨fun hidle => ?_, fun k hcol => ⟨fun hover => ?_, fun hv hi => ?_⟩⟩
    · rw [State.countSample_idle (s := s.storeBay b f) hidle]
      rfl
    · rw [State.countSample_over (s := s.storeBay b f) hcol hover]
      exact (State.stopsWith_takeStop hon _).1
    · obtain ⟨hmore, hdone⟩ := State.countSample_decides (p := p) hon hcol hv hi
      exact ⟨fun hlt => (congrArg State.engines (hmore hlt) :), hdone⟩

end Sys2Proof.Machine
end

section
/-! What a step does with a command, or with none: the queue, the own work, the step that is due and the passing of a
tick (logs 1, 2 and 37). -/

namespace Sys2Proof.Machine

variable {s t : State} {c : Instr}

theorem step_of_pending {rest : List Instr} (h : s.pending = c :: rest) :
    step s = exec c { s with pending := rest } := by
  simp [step, h]

theorem step_of_empty (h : s.pending = []) : step s = idle s := by
  simp [step, h]

theorem State.tick_eq (s : State) :
    s.tick = { s with now := s.now + 1, arb := { s.arb with turn := none } } :=
  if_pos s.now.lt_succ_self

theorem idle_of_held (h : s.held = true) : idle s = .next s.tick := by
  simp [idle, h]

theorem idle_of_ownWork (hh : s.held = false) (ho : s.ownWork = some t) : idle s = .next t := by
  simp [idle, hh, ho]

theorem idle_of_due (hh : s.held = false) (ho : s.ownWork = none) (hd : s.due = some c) :
    idle s = exec c s := by
  simp [idle, hh, ho, hd]

theorem idle_of_nothing_due (hh : s.held = false) (ho : s.ownWork = none) (hd : s.due = none) :
    idle s = .next s.tick := by
  simp [idle, hh, ho, hd]

/-- Settles O1, by the cases of the queue and, with no command in it, of what the block has to do. -/
theorem stepRunsFrontCommand : Obligations.StepRunsFrontCommand := by
  refine ⟨fun c s rest h => step_of_pending h, fun s h => ?_⟩
  rw [step_of_empty h, ← s.tick_eq]
  exact ⟨idle_of_held, fun t => idle_of_ownWork, idle_of_nothing_due, fun c => idle_of_due⟩

end Sys2Proof.Machine
end

section
/-! The submission of an engine in RESERVE, and the supervisor's test of it (R110, R176). -/

namespace Sys2Proof.Machine

variable {s : State} {e : EngineIx} {c : WorkingCopy} {n : Nat}

/-! ### The engine whose turn it is -/

/-- The lowest number that passes a test is the one found. -/
theorem find?_finRange_eq_some {n : Nat} {p : Fin n → Bool} {i : Fin n} (hi : p i = true)
    (hlt : ∀ j, j < i → p j = false) : (List.finRange n).find? p = some i := by
  refine List.find?_eq_some_iff_getElem.mpr ⟨hi, i.val, by simp, by simp, fun j hj => ?_⟩
  simp [hlt ⟨j, by omega⟩ hj]

/-- R111: with no admitted engine left to ask, none asks for banks. -/
theorem State.bankAsker_eq_none (h : ∀ r ∈ s.feed.reservations, s.asksBanks r.engine = false) :
    s.bankAsker = none := by
  simpa [State.bankAsker, List.find?_eq_none] using h

/-- R110: only an engine in RESERVE submits. -/
theorem Engine.submission_of_not_reserve {en : Engine} (h : en.phase ≠ .reserve) :
    en.submission = none := by
  unfold Engine.submission
  split
  · exact absurd ‹_› h
  · rfl

/-- R110, R127: an engine in RESERVE with its load prepared submits the reservation of its step level. -/
theorem Engine.submission_of_reserve {en : Engine} {p : Nat × Nat} (hp : en.phase = .reserve)
    (hr : en.reservation = .none) (hc : en.copy = some c) (ht : c.params.loadTerms = some p) :
    en.submission = some (c, reservationOf (stepPower en.stepLevel p.1) p.2) := by
  simp [Engine.submission, hp, hr, hc, ht]

/-- R127: the reservation of a HOLD or TRIP step, rounded up. -/
theorem reservationOf_stepPower (level vNom eff : Nat) :
    reservationOf (stepPower level vNom) eff = (level * vNom / 1000 * 100 + eff - 1) / eff := rfl

/-- R110: the lowest engine in RESERVE that has not submitted does so when no engine has to ask for banks. -/
theorem State.ownWork_submits (hb : ∀ r ∈ s.feed.reservations, s.asksBanks r.engine = false)
    (hlt : ∀ f, f < e → (s.engine f).phase ≠ .reserve)
    (he : (s.engine e).submission = some (c, n)) : s.ownWork = some (s.submit e c n) := by
  have hsub : s.submitter = some e :=
    find?_finRange_eq_some (by simp [he]) fun f hf => by
      simp [Engine.submission_of_not_reserve (hlt f hf)]
  simp [State.ownWork, State.bankAsker_eq_none hb, hsub, he]

/-- R110, R176: an engine in RESERVE with its load prepared submits, on an empty queue, as its own next step. -/
theorem step_submits (hp : s.pending = []) (hh : s.held = false)
    (hb : ∀ r ∈ s.feed.reservations, s.asksBanks r.engine = false)
    (hlt : ∀ f, f < e → (s.engine f).phase ≠ .reserve)
    (he : (s.engine e).submission = some (c, n)) : step s = .next (s.submit e c n) := by
  rw [step_of_empty hp]
  exact idle_of_ownWork hh (State.ownWork_submits hb hlt he)

/-! ### The submission joins the list, which is tested -/

/-- R176: the entry with which an engine joins the feed wait list. -/
def State.feedEntry (s : State) (e : EngineIx) (c : WorkingCopy) (n : Nat) : FeedWait :=
  ⟨e, n, c.priority, c.bay, s.feed.nextJoin⟩

theorem State.joinFeedWaits_waits (s : State) (e : EngineIx) (c : WorkingCopy) (n : Nat) :
    (s.joinFeedWaits e c n).feed.waits =
      insertRanked FeedWait.before (s.feedEntry e c n) s.feed.waits := rfl

/-- R176: a submission to an empty list that fits is admitted, and its engine is in ACQUIRE. -/
theorem State.submit_of_fits (hw : s.feed.waits = [])
    (hf : s.feed.fits (s.feedEntry e c n) = true) :
    s.submit e c n = { s with
      engines := s.engines.put e { s.engine e with reservation := .held n, phase := .acquire }
      feed := { s.feed with
        nextJoin := s.feed.nextJoin + 1
        reservations := s.feed.reservations ++ [⟨e, n, c.priority, s.feed.nextNumber, false⟩]
        total := s.feed.total + n
        nextNumber := s.feed.nextNumber + 1 } } := by
  let u := s.joinFeedWaits e c n
  have hwaits : u.feed.waits = [s.feedEntry e c n] := by
    rw [State.joinFeedWaits_waits, hw]
    rfl
  have hfits : u.feed.fits (s.feedEntry e c n) = true := hf
  have hadmit : s.submit e c n = u.admitHead (s.feedEntry e c n) := by
    show u.feedTest = _
    simp [State.feedTest, State.feedTestUpTo, hwaits, hfits]
  have hfeed : u.feed.admitted (s.feedEntry e c n) = { s.feed with
      nextJoin := s.feed.nextJoin + 1
      reservations := s.feed.reservations ++ [⟨e, n, c.priority, s.feed.nextNumber, false⟩]
      total := s.feed.total + n
      nextNumber := s.feed.nextNumber + 1 } := by
    simp only [Feed.admitted, hwaits, hw]
    simp [State.feedEntry, u, State.joinFeedWaits, Feed.join]
  have hmod := State.modEngine_modEngine (s.setFeed (u.feed.admitted (s.feedEntry e c n))) e
    (fun en => { en with reservation := .waiting n })
    (fun en => { en with reservation := .held n, phase := .acquire })
  rw [hfeed] at hmod
  rw [hadmit, State.admitHead, hfeed]
  exact hmod

/-- R176: while nothing that waits fits, a submission joins the list and stays in it. -/
theorem State.submit_of_unfit
    (hf : ∀ w ∈ s.feedEntry e c n :: s.feed.waits, s.feed.fits w = false) :
    s.submit e c n = s.joinFeedWaits e c n :=
  State.feedTest_of_unfit fun w hw =>
    hf w ((insertRanked_perm _ _ _).mem_iff.mp (s.joinFeedWaits_waits e c n ▸ hw))

/-- R176: a submission that joins an ordered list leaves it ordered. -/
theorem State.WaitListsOrdered.joinFeedWaits (h : s.WaitListsOrdered) (e : EngineIx)
    (c : WorkingCopy) (n : Nat) : (s.joinFeedWaits e c n).WaitListsOrdered := by
  obtain ⟨hfeed, hbank⟩ := h
  exact ⟨insertRanked_pairwise (before := FeedWait.before) (fun _ _ => ranksBefore_asymm_of_age _ _ _ _ _ _)
    (fun _ _ _ => ranksBefore_trans_of_age _ _ _ _ _ _ _ _ _) _ hfeed, hbank⟩

end Sys2Proof.Machine
end

section
/-! The take of the head of the start queue by the lowest FREE engine (R105, R106, R109, R110). -/

namespace Sys2Proof.Machine

variable {s : State} {e : EngineIx} {i : SlotIx} {r : ShelfRecord} {m : ModelIx} {x : Model} {b : BayIx}
  {k : StepKind} {p : StepParams}

/-! ### Whether a take happens (R105) -/

theorem State.freeEngine_eq_some (he : (s.engine e).phase = .free)
    (hlt : ∀ f, f < e → (s.engine f).phase ≠ .free) : s.freeEngine = some e :=
  find?_finRange_eq_some (by simpa using he) fun f hf => by simpa using hlt f hf

theorem State.freeEngine_eq_none (h : ∀ e, (s.engine e).phase ≠ .free) : s.freeEngine = none := by
  simpa [State.freeEngine, List.find?_eq_none] using h

/-- R105: with no record queued, the feed in FAULT or no engine FREE, no take happens. -/
theorem execEngineTake_idle (hh : s.held = false) (ho : s.ownWork = none)
    (h : s.store.queue = [] ∨ s.feed.window = .fault ∨ ∀ e, (s.engine e).phase ≠ .free) :
    exec .engineTake s = .next s := by
  show execEngineTake s = _
  simp only [execEngineTake, State.live_of_released hh, State.settled_of_ownWork ho]
  split
  next hq hfree =>
    obtain h | h | h := h
    · rw [h] at hq; cases hq
    · rw [if_pos h]
    · rw [State.freeEngine_eq_none h] at hfree; cases hfree
  · rfl

/-- R105: otherwise the lowest FREE engine takes the head. -/
theorem execEngineTake_takes {rest : List SlotIx} (hh : s.held = false) (ho : s.ownWork = none)
    (hq : s.store.queue = i :: rest) (hw : s.feed.window ≠ .fault)
    (he : (s.engine e).phase = .free) (hlt : ∀ f, f < e → (s.engine f).phase ≠ .free) :
    exec .engineTake s = .next (s.takeHead e i) := by
  show execEngineTake s = _
  simp [execEngineTake, State.live_of_released hh, State.settled_of_ownWork ho, hq,
    State.freeEngine_eq_some he hlt, hw]

/-! ### A mismatch at the take (R24, R46, R106) -/

theorem State.takeHead_of_damaged (hr : s.record i = some r) (hi : r.intact = false) :
    s.takeHead e i = s.doubtRecord i := by
  simp [State.takeHead, hr, hi]

theorem State.takeHead_of_damagedModel (hr : s.record i = some r) (hi : r.intact = true)
    (hm : r.model = s.modelHandleOf m) (hx : s.model m = some x) (hxi : x.intact = false) :
    s.takeHead e i = s.doubtModel m := by
  simp [State.takeHead, hr, hi, hm, hx, hxi]

theorem State.takeHead_of_supplied {c : WorkingCopy} (hr : s.record i = some r)
    (hi : r.intact = true) (hm : r.model = s.modelHandleOf m) (hx : s.model m = some x)
    (hxi : x.intact = true) (hc : s.supplyCopy i r x = some c) :
    s.takeHead e i = (s.takeRecord e i r c).prepare e c := by
  simp [State.takeHead, hr, hi, hm, hx, hxi, hc]

/-- R24: a record that stands in the start queue is not already DOUBTFUL (log 32). -/
theorem State.alreadyDoubtful_of_mem_queue (hi : i ∈ s.store.queue) :
    s.alreadyDoubtful i r = false := by
  simp [State.alreadyDoubtful, hi]

theorem State.holds_of_engines {t : State} (h : t.engines = s.engines) (f : EngineIx) (k : Handle) :
    t.holds f k = s.holds f k := by
  have hen : t.engine f = s.engine f := congrArg (·.get f) h
  rw [State.holds, State.holds, hen]

/-- R24: a mismatch of a record that no engine holds reaches no engine, no list of the feed and no bank. -/
theorem State.doubtRecord_of_unheld (hr : s.record i = some r) (hd : s.alreadyDoubtful i r = false)
    (hf : ∀ f, s.holds f (s.handleOf i) = false) :
    (s.doubtRecord i).engines = s.engines ∧ (s.doubtRecord i).feed = s.feed ∧
      (s.doubtRecord i).arb = s.arb := by
  obtain ⟨heng, harb, hfeed, -⟩ := s.doubtStore_machine i r
  have hholder : (s.doubtStore i r).holder (s.handleOf i) = none := by
    refine List.find?_eq_none.mpr fun f _ => ?_
    rw [State.holds_of_engines heng, hf f]
    simp
  have hstop : (s.doubtStore i r).stopDoubted (s.handleOf i) = s.doubtStore i r := by
    simp [State.stopDoubted, hholder]
  rw [State.doubtRecord_of_fresh hr hd, hstop, State.completeLookups_frame]
  exact ⟨heng, hfeed, harb⟩

/-- R46: a mismatch of a model that a QUEUED record names, or that does not read DOUBTFUL, is a new one
(log 32). -/
theorem State.modelAlreadyDoubtful_of_queued (hr : s.record i = some r)
    (hm : r.model = s.modelHandleOf m) (h : x.state ≠ .doubtful ∨ r.state = .queued) :
    s.modelAlreadyDoubtful m x = false := by
  refine Bool.eq_false_iff.mpr fun hd => ?_
  obtain ⟨hx, hnone⟩ := State.modelAlreadyDoubtful_iff.mp hd
  obtain h | h := h
  · exact h hx
  · exact hnone i r hr h hm

/-- R46: a mismatch of a model reaches no engine, no list of the feed and no bank. -/
theorem State.doubtModel_machine (s : State) (m : ModelIx) :
    (s.doubtModel m).engines = s.engines ∧ (s.doubtModel m).feed = s.feed ∧
      (s.doubtModel m).arb = s.arb := by
  have h := s.doubtModel_beside m
  exact ⟨(congrArg State.engines h :), (congrArg State.feed h :), (congrArg State.arb h :)⟩

/-- R46: a QUEUED record that names a model found to mismatch leaves the start queue. -/
theorem State.doubtModel_queue {j : SlotIx} (hx : s.model m = some x)
    (hd : s.modelAlreadyDoubtful m x = false) (hr : s.record j = some r)
    (hm : r.model = s.modelHandleOf m) (hq : r.state = .queued) :
    j ∉ (s.doubtModel m).store.queue := by
  rw [State.doubtModel_of_fresh hx hd]
  exact State.foldl_holdForModel_queue hq _ _ hr
    (hm.trans (State.writeModel_modelHandleOf ..).symm) (List.mem_finRange j)

/-- R46: a QUEUED record that names a model found to mismatch is HELD with reason MODEL_DOUBT. -/
theorem State.slot_doubtModel_of_queued {j : SlotIx} (hx : s.model m = some x)
    (hd : s.modelAlreadyDoubtful m x = false) (hr : s.record j = some r)
    (hm : r.model = s.modelHandleOf m) (hq : r.state = .queued) :
    (s.doubtModel m).slot j = ⟨(s.slot j).gen,
      some { r with state := .held, hold := some .modelDoubt : ShelfRecord }.seal⟩ := by
  have hs : s.slot j = ⟨(s.slot j).gen, some r⟩ := congrArg (ShelfSlot.mk _) hr
  rw [State.slot_doubtModel hx hd, hs, ShelfSlot.heldFor_queued ⟨hm, hq⟩]

/-! ### The working copy and the load (R109, R110) -/

/-- R109: the working copy of the step of kind `k` with the parameters `p`, for a record bound to bay `b`. -/
def State.copyOf (s : State) (i : SlotIx) (r : ShelfRecord) (b : BayIx) (k : StepKind) (p : StepParams) :
    WorkingCopy :=
  { handle := s.handleOf i, bay := b, priority := r.priority, index := r.cursor, kind := k,
    params := p, mPresent := r.mPresent, attempt := r.retry + 1 }

theorem State.supplyCopy_of_stepAt (hb : r.bay = some b) (hs : x.stepAt r.cursor = some (k, p)) :
    s.supplyCopy i r x = some (s.copyOf i r b k p) := by
  simp [State.supplyCopy, hb, hs, State.copyOf]

theorem Model.stepAt_hold {n lv d : Nat} (h : x.plan[n]? = some (.hold lv d)) :
    x.stepAt n = some (.hold, .hold (x.holdParams lv d)) := by
  simp [Model.stepAt, h]

theorem Model.stepAt_trip {n lv : Nat} (h : x.plan[n]? = some (.trip lv))
    (hr : x.plan[n + 1]? = some .restart) :
    x.stepAt n = some (.trip, .trip (x.tripParams lv) x.restartParams) := by
  simp [Model.stepAt, h, hr]

theorem Model.stepAt_derate {n : Nat} (h : x.plan[n]? = some .derate) :
    x.stepAt n = some (.derate, .derate x.derateParams) := by
  simp [Model.stepAt, h]

/-- R126: the step level that an engine prepares; that of a DERATE step is left to the evaluator. -/
def WorkingCopy.preparedLevel (c : WorkingCopy) : Nat :=
  match c.params with
  | .hold p => stepLevelOf p.iMod c.mPresent p.levelPpt
  | .trip p _ => stepLevelOf p.iMod c.mPresent p.levelPpt
  | .derate _ => 0

/-- R110: the engine of a DERATE step asks the evaluator. -/
def WorkingCopy.asksEvaluator (c : WorkingCopy) : Bool :=
  match c.params with
  | .derate _ => true
  | _ => false

/-- R106, R110: an engine that has taken a record at the tick `now` and has prepared its load. -/
def Engine.reserved (c : WorkingCopy) (now : Nat) : Engine :=
  { Engine.free with phase := .reserve, copy := some c, takeTick := now,
                     stepLevel := c.preparedLevel, evalAsked := c.asksEvaluator }

/-! ### The take (R106) -/

/-- R106: the record of slot `i` is RUNNING with engine `e` and out of the start queue, and the engine is in
RESERVE with its working copy and its load prepared. -/
def State.taken (s : State) (e : EngineIx) (i : SlotIx) (r : ShelfRecord) (c : WorkingCopy) : State :=
  ((s.writeRecord i { r with state := .running, engaged := some e }).leaveQueue i).setEngine e
    (Engine.reserved c s.now)

/-- R106, R110: the take, by the kind of the step that it prepares. -/
theorem State.takeRecord_prepare (s : State) (e : EngineIx) (i : SlotIx) (r : ShelfRecord)
    (c : WorkingCopy) : (s.takeRecord e i r c).prepare e c = s.taken e i r c := by
  have hmod (f : Engine → Engine) (hf : f { Engine.free with
      phase := .reserve, copy := some c, takeTick := s.now } = Engine.reserved c s.now) :
      (s.takeRecord e i r c).modEngine e f = s.taken e i r c :=
    (State.modEngine_modEngine _ e (fun _ => _) f).trans (congrArg (State.setEngine _ e) hf)
  cases hp : c.params with
  | hold p | trip p _ | derate p =>
    simp only [State.prepare, State.prepareLoad, hp]
    refine hmod _ ?_
    simp only [Engine.reserved, WorkingCopy.preparedLevel, WorkingCopy.asksEvaluator, hp, Engine.free]

theorem State.slot_taken (s : State) (e : EngineIx) (i j : SlotIx) (r : ShelfRecord) (c : WorkingCopy) :
    (s.taken e i r c).slot j = if j = i then
      ⟨(s.slot i).gen, some { r with state := .running, engaged := some e : ShelfRecord }.seal⟩
      else s.slot j := s.slot_writeRecord i j _

theorem State.engine_taken (s : State) (e f : EngineIx) (i : SlotIx) (r : ShelfRecord) (c : WorkingCopy) :
    (s.taken e i r c).engine f = if f = e then Engine.reserved c s.now else s.engine f :=
  State.engine_setEngine ..

/-- R76: the enable output of a seated bay is on while its record is RUNNING. -/
theorem State.taken_enableOutput {c : WorkingCopy} {y : BayIx} (hh : s.held = false)
    (hy : s.SeatedAt y (s.handleOf i)) : (s.taken e i r c).enableOutput y = true := by
  obtain ⟨hin, hbind, hup, hlost, hrearm⟩ := hy
  have hbay : (s.taken e i r c).bay y = s.bay y := rfl
  have hheld : (s.taken e i r c).held = false := hh
  have hserv : (s.taken e i r c).bayInService y = true := decide_eq_true hin
  have hrec : ((s.taken e i r c).boundSlot y).bind (s.taken e i r c).record =
      some { r with state := .running, engaged := some e : ShelfRecord }.seal := by
    rw [State.boundSlot, hbay, hbind]
    exact congrArg ShelfSlot.record ((s.slot_taken e i i r c).trans (if_pos rfl))
  simp [State.enableOutput, hheld, hserv, hbay, hup, hlost, hrearm, hrec]

/-- R106, R109: a take that finds no mismatch makes the working copy of the step at the cursor. -/
theorem State.takeHead_eq_taken (hr : s.record i = some r) (hi : r.intact = true)
    (hm : r.model = s.modelHandleOf m) (hx : s.model m = some x) (hxi : x.intact = true)
    (hb : r.bay = some b) (hs : x.stepAt r.cursor = some (k, p)) :
    s.takeHead e i = s.taken e i r (s.copyOf i r b k p) := by
  rw [State.takeHead_of_supplied hr hi hm hx hxi (State.supplyCopy_of_stepAt hb hs),
    State.takeRecord_prepare]

/-- Settles O50: the submission by whether it fits, and the take by what it finds of the record and of its model
and by the step at the cursor. -/
theorem engineTakesTheHead : Obligations.EngineTakesTheHead := by
  refine ⟨fun s e c vNom eff hp hh hb hlt hres hnone hc hparams => ?_, fun s hh ho =>
    ⟨execEngineTake_idle hh ho, fun e i rest r hq hw he hlt hr => ?_⟩⟩
  · intro amount asked fits
    have hterms : c.params.loadTerms = some (vNom, eff) := by
      obtain ⟨p, hp, rfl, rfl⟩ | ⟨p, k, hp, rfl, rfl⟩ := hparams
      · rw [hp, StepParams.loadTerms]
      · rw [hp, StepParams.loadTerms]
    have hsub : (s.engine e).submission = some (c, amount) := by
      rw [Engine.submission_of_reserve hres hnone hc hterms, reservationOf_stepPower]
    clear_value amount
    have hstep : step s = .next (s.submit e c amount) := step_submits hp hh hb hlt hsub
    have hfits (w : FeedWait) : s.feed.fits w = true ↔ fits w := by simp [Feed.fits, fits]
    refine ⟨fun hw hf => ?_, fun hf => ?_⟩
    · rw [hstep, State.submit_of_fits hw ((hfits asked).mpr hf)]
    · rw [State.submit_of_unfit fun w hw => Bool.eq_false_iff.mpr fun h =>
        hf w hw ((hfits w).mp h)] at hstep
      exact ⟨_, hstep, insertRanked_perm .., fun ho => ho.joinFeedWaits e c amount, rfl⟩
  have hexec := execEngineTake_takes hh ho hq hw he hlt
  have hmem : i ∈ s.store.queue := hq ▸ List.mem_cons_self
  have hqueue : s.store.queue.filter (· ≠ i) = rest.filter (· ≠ i) := by simp [hq]
  refine ⟨fun hi hf => ?_, fun m x hi hm hx => ⟨fun hxi hst => ?_, ?_⟩⟩
  · have hd := State.alreadyDoubtful_of_mem_queue (r := r) hmem
    rw [State.takeHead_of_damaged hr hi] at hexec
    obtain ⟨r', hslot, hintact, hr', hothers, hleft, hlisted, hmodels⟩ :=
      State.doubtRecord_doubted hr hd
    obtain ⟨heng, hfeed, harb⟩ := State.doubtRecord_of_unheld hr hd hf
    exact ⟨_, r', hexec, hslot, hr', hintact, hothers, hleft.trans hqueue, hlisted, heng, hfeed, harb,
      hmodels⟩
  · have hd := State.modelAlreadyDoubtful_of_queued hr hm hst
    rw [State.takeHead_of_damagedModel hr hi hm hx hxi] at hexec
    obtain ⟨⟨y, hslot, hintact, hy⟩, hothers, -⟩ := State.doubtModel_doubted hx hd
    obtain ⟨heng, hfeed, harb⟩ := s.doubtModel_machine m
    refine ⟨_, y, hexec, hslot, hy, hintact, hothers, heng, hfeed, harb,
      fun j u hu hum huq => ⟨State.doubtModel_queue hx hd hu hum huq, _,
        State.slot_doubtModel_of_queued hx hd hu hum huq, ShelfRecord.seal_intact _, rfl⟩,
      fun j hj => ?_⟩
    rw [State.slot_doubtModel hx hd, ShelfSlot.heldFor_other hj]
  · intro b iMod vNom eff hxi hb hiMod hvNom heff took level q
    have htook (k : StepKind) (p : StepParams) (hs : x.stepAt r.cursor = some (k, p)) :
        took (s.taken e i r (s.copyOf i r b k p)) k p ∧
          (s.taken e i r (s.copyOf i r b k p)).engine e =
            Engine.reserved (s.copyOf i r b k p) s.now := by
      have hslot := fun j => s.slot_taken e i j r (s.copyOf i r b k p)
      have hengine := fun f => s.engine_taken e f i r (s.copyOf i r b k p)
      have he := (hengine e).trans (if_pos rfl)
      rw [State.takeHead_eq_taken hr hi hm hx hxi hb hs] at hexec
      exact ⟨⟨_, s.copyOf i r b k p, hexec, (hslot i).trans (if_pos rfl), ShelfRecord.seal_intact _, rfl,
        hqueue, fun j hj => (hslot j).trans (if_neg hj), fun f hf => (hengine f).trans (if_neg hf),
        congrArg Engine.phase he, congrArg Engine.takeTick he, congrArg Engine.verdict he,
        congrArg Engine.stop he, congrArg Engine.grant he, congrArg Engine.watch he,
        congrArg Engine.copy he, rfl, rfl, rfl, rfl, rfl, rfl, rfl, rfl,
        congrArg Engine.reservation he, fun y hy => State.taken_enableOutput hh hy, rfl⟩, he⟩
    refine ⟨fun lv d hs => ?hold, fun lv hs hnext => ?trip, fun hs => ?derate⟩
    case hold =>
      obtain ⟨ht, hen⟩ := htook _ _ (Model.stepAt_hold hs)
      simp only [Model.holdParams, hiMod, hvNom, heff, Option.getD_some] at ht hen
      exact ⟨_, ht, congrArg Engine.stepLevel hen, congrArg Engine.evalAsked hen⟩
    case trip =>
      obtain ⟨ht, hen⟩ := htook _ _ (Model.stepAt_trip hs hnext)
      simp only [Model.tripParams, Model.restartParams, hiMod, hvNom, heff, Option.getD_some] at ht hen
      exact ⟨_, ht, congrArg Engine.stepLevel hen, congrArg Engine.evalAsked hen⟩
    case derate =>
      obtain ⟨ht, hen⟩ := htook _ _ (Model.stepAt_derate hs)
      simp only [Model.derateParams, hvNom, heff, Option.getD_some] at ht hen
      exact ⟨_, ht, congrArg Engine.evalAsked hen⟩

end Sys2Proof.Machine
end

section
/-! The ends of the duration of a HOLD step, of the window of a TRIP step and of that of a RESTART step (R130, R131,
R136, R138). -/

namespace Sys2Proof.Machine

variable {s : State} {e : EngineIx} {c : WorkingCopy} {p : HoldParams} {q : TripParams}
  {k : RestartParams} {z : Nat}

/-- R113: detection is disarmed and the timers of the step are stopped. -/
structure Engine.Stilled (en : Engine) : Prop where
  holdFrom : en.holdFrom = none
  tripFrom : en.tripFrom = none
  restartFrom : en.restartFrom = none
  detection : en.detection ≠ .armed

theorem Engine.stilled_free : Engine.free.Stilled :=
  ⟨rfl, rfl, rfl, nofun⟩

/-- R113: a verdict stops the timers of the step, whether the engine unloads or closes at once. -/
theorem State.reachVerdict_stilled (hc : (s.engine e).copy = some c) (hs : (s.engine e).stop = none)
    (v : Verdict) : ((s.reachVerdict e v).engine e).Stilled := by
  by_cases hg : (s.engine e).grant = []
  · obtain ⟨⟨heng, -, -⟩, -⟩ := State.reachVerdict_closes hc hs hg v
    have hfree : (s.reachVerdict e v).engine e = Engine.free := by
      rw [State.engine, heng, Tab.get_put_same]
    exact hfree ▸ Engine.stilled_free
  · obtain ⟨-, -, -, -, -, -, hdet, hhold, htrip, hrestart⟩ := s.reachVerdict_unloads e v hg
    exact ⟨hhold, htrip, hrestart, hdet⟩

/-- R113, R177: with no submission waiting, a verdict gives the supervisor nothing to admit. -/
theorem State.concludeStep_of_onStep (h : s.OnStep e c) (hw : s.feed.waits = []) (v : Verdict) :
    s.concludeStep e v = s.reachVerdict e v :=
  State.feedRetest_of_waits _ _ ((State.RestKept.reachVerdict h v).waits.trans hw)

/-- From `s` the time has passed to tick `n`, at which the engine has reached a verdict that stops its timers;
beside the engines, their messages, the feed and the arbiter nothing has changed. -/
structure State.ConcludesAt (s t : State) (e : EngineIx) (c : WorkingCopy) (n : Nat) (v : Verdict) :
    Prop where
  passed : s.PassedTo t n
  reaches : s.Reaches t e c v
  stilled : (t.engine e).Stilled
  frame : t = { s with now := t.now, engines := t.engines, feed := t.feed, arb := t.arb,
                       outbox := t.outbox }

/-- R113: an engine on a step concludes it with a verdict at a tick that the time base passes to. -/
theorem State.concludeStep_concludesAt (h : s.OnStep e c) (hw : s.feed.waits = [])
    (ho : s.ownWork = none) (n : Nat) (v : Verdict) :
    s.ConcludesAt ((s.atTick n).concludeStep e v) e c n v := by
  obtain ⟨m, u, hat, hm, hsame, hnew⟩ := State.atTick_eq_atTime ho n
  have hon : (s.atTime m u).OnStep e c := h
  rw [hat, State.concludeStep_of_onStep hon hw]
  obtain ⟨hc, -, -, hs⟩ := hon
  have hsh := (s.atTime m u).reachVerdict_shell e v
  have hnow : _ = m := State.shell_now hsh
  have hturn : _ = u := State.shell_turn hsh
  refine ⟨⟨hnow.trans hm, fun hle => hturn.trans (hsame hle), fun hlt => hturn.trans (hnew hlt)⟩,
    (State.reaches_reachVerdict hc hs v).1, State.reachVerdict_stilled hc hs v, ?_⟩
  rw [hnow]
  exact State.shell_frame hsh

/-! ### The commands of the three timers -/

theorem execHoldDurationExpiry_of_running (hh : s.held = false) (hc : (s.engine e).copy = some c)
    (hp : c.params = .hold p) (hz : (s.engine e).holdFrom = some z) :
    exec (.holdDurationExpiry e) s =
      .next ((s.atTick (z + p.duration)).concludeStep e ⟨.pass, none, none⟩) :=
  congrArg Host.Outcome.next ((State.live_of_released hh).trans (by simp only [hz, hc, hp]))

theorem execTripWindowClose_of_running (hh : s.held = false) (hc : (s.engine e).copy = some c)
    (hp : c.params = .trip q k) (hz : (s.engine e).tripFrom = some z) :
    exec (.tripWindowClose e) s =
      .next ((s.atTick (z + q.tMax + 1)).concludeStep e ⟨.noTrip, none, none⟩) :=
  congrArg Host.Outcome.next ((State.live_of_released hh).trans (by simp only [hz, hc, hp]))

theorem execRestartWindowClose_of_running (hh : s.held = false) (hc : (s.engine e).copy = some c)
    (hp : c.params = .trip q k) (hz : (s.engine e).restartFrom = some z) :
    exec (.restartWindowClose e) s =
      .next ((s.atTick (z + k.window + 1)).concludeStep e ⟨.noRestart, none, none⟩) :=
  congrArg Host.Outcome.next ((State.live_of_released hh).trans (by simp only [hz, hc, hp]))

/-- Settles O58: each of the three timers concludes the step with its verdict at its tick. -/
theorem stepTimersGiveVerdicts : Obligations.StepTimersGiveVerdicts := by
  intro s e c z hh h hw ho ends
  have concludes {cmd : Instr} {n : Nat} {o : StepOutcome}
      (hexec : exec cmd s = .next ((s.atTick n).concludeStep e ⟨o, none, none⟩)) : ends cmd n o := by
    obtain ⟨hpassed, hreaches, ⟨hhold, htrip, hrestart, hdet⟩, hframe⟩ :=
      State.concludeStep_concludesAt h hw ho n ⟨o, none, none⟩
    exact ⟨_, hexec, hpassed, hreaches, hhold, htrip, hrestart, hdet, hframe⟩
  have hc := h.1
  exact ⟨fun p hp hz => concludes (execHoldDurationExpiry_of_running hh hc hp hz),
    fun p k hp hz => concludes (execTripWindowClose_of_running hh hc hp hz),
    fun p k hp hz => concludes (execRestartWindowClose_of_running hh hc hp hz)⟩

end Sys2Proof.Machine
end

section
/-! The ends of the settle time, the latch observe time, the re-arm pulse and the attention pulse (R76, R77, R137, R138,
R150, R192). -/

namespace Sys2Proof.Machine

variable {s : State} {b : BayIx} {i : SlotIx} {r : ShelfRecord} {e : EngineIx} {c : WorkingCopy} {z : Nat}

/-- With no own work waiting, the time base passes to the tick of a timer and nothing else changes but the turn. -/
theorem State.atTick_passes (h : s.ownWork = none) (n : Nat) :
    ∃ k u, s.atTick n = s.atTime k u ∧ s.PassedTo (s.atTime k u) n := by
  obtain ⟨k, u, hat, hpassed⟩ := State.atTick_eq_atTime h n
  exact ⟨k, u, hat, hpassed⟩

/-! ### The settle time (R150) -/

theorem execSettleExpiry_of_running {p : DerateParams} (hh : s.held = false)
    (hc : (s.engine e).copy = some c) (hp : c.params = .derate p)
    (hz : (s.engine e).settleFrom = some z) :
    exec (.settleExpiry e) s = .next ((s.atTick (z + p.settleMs)).modEngine e fun en =>
      { en with settleFrom := none, collection := some ⟨0, 0, 0⟩ }) :=
  congrArg Host.Outcome.next ((State.live_of_released hh).trans (by simp only [hz, hc, hp]))

/-! ### The latch observe time (R137) -/

/-- R77: an engine stays engaged on a record while its phase and its copy stand. -/
theorem State.EngagedOn.modEngine {f : Engine → Engine} (h : s.EngagedOn e i r b)
    (hphase : (f (s.engine e)).phase = (s.engine e).phase)
    (hcopy : (f (s.engine e)).copy = (s.engine e).copy) : (s.modEngine e f).EngagedOn e i r b := by
  have hget : (s.modEngine e f).engine e = f (s.engine e) :=
    (State.engine_modEngine ..).trans (if_pos rfl)
  obtain ⟨hbind, hrec, hst, hen, hfree, hc⟩ := h
  refine ⟨hbind, hrec, hst, hen, ?_, ?_⟩
  · rwa [hget, hphase]
  · rwa [hget, hcopy]

/-- R77: the request of an engaged engine starts the re-arm timer. -/
theorem State.askRearm_of_engaged (h : s.EngagedOn e i r b) :
    s.askRearm e b = s.setBay b { s.bay b with rearm := some (s.now, e) } :=
  if_pos h.engagedAt

theorem execLatchObserveExpiry_of_running {p : TripParams} {k : RestartParams} {w : Nat}
    (hh : s.held = false) (hc : (s.engine e).copy = some c) (hp : c.params = .trip p k)
    (hw : k.latchObserve = some w) (hz : (s.engine e).latchFrom = some z) :
    exec (.latchObserveExpiry e) s = .next (((s.atTick (z + w + 1)).modEngine e fun en =>
      { en with latchFrom := none, awaitRearm := true }).askRearm e c.bay) :=
  congrArg Host.Outcome.next ((State.live_of_released hh).trans (by simp only [hz, hc, hp, hw]))

/-- R76: the enable output of a bay is off while its re-arm timer runs. -/
theorem State.enableOutput_of_rearm {y : Nat × EngineIx} (h : (s.bay b).rearm = some y) :
    s.enableOutput b = false := by
  simp [State.enableOutput, h]

/-! ### The re-arm pulse (R77, R138) -/

/-- R77: the state in which the re-arm timer of a bay has ended at a tick. -/
def State.rearmEnded (s : State) (b : BayIx) (k : Nat) (u : Option Turn) : State :=
  (s.atTime k u).setBay b { s.bay b with rearm := none }

theorem State.rearmEnded_bay (s : State) (b : BayIx) (k : Nat) (u : Option Turn) :
    (s.rearmEnded b k u).bay b = { s.bay b with rearm := none } :=
  ((s.atTime k u).bay_setBay b b _).trans (if_pos rfl)

theorem execRearmPulseEnd_of_running (hh : s.held = false) (hz : (s.bay b).rearm = some (z, e))
    (ho : s.ownWork = none) : ∃ k u, s.PassedTo (s.atTime k u) (z + 500) ∧
      exec (.rearmPulseEnd b) s = .next ((s.rearmEnded b k u).rearmReport e b) := by
  obtain ⟨k, u, hat, hpassed⟩ := State.atTick_passes ho (z + Config.rearmMs)
  refine ⟨k, u, hpassed, congrArg Host.Outcome.next ((State.live_of_released hh).trans ?_)⟩
  simp only [hz, hat]
  rfl

/-- R138: the report of the pulse's end changes no more than the engines. -/
theorem State.rearmReport_frame (s : State) (e : EngineIx) (b : BayIx) :
    s.rearmReport e b = { s with engines := (s.rearmReport e b).engines } := by
  unfold State.rearmReport
  dsimp only
  split <;> rfl

theorem State.rearmReport_of_waiting (hw : (s.engine e).awaitRearm = true)
    (hb : (s.engine e).copy.map (·.bay) = some b) :
    s.rearmReport e b =
      s.setEngine e { s.engine e with awaitRearm := false, restartFrom := some s.now } :=
  if_pos ⟨hw, hb⟩

theorem State.rearmReport_of_other
    (h : (s.engine e).awaitRearm = false ∨ (s.engine e).copy.map (·.bay) ≠ some b) :
    s.rearmReport e b = s :=
  if_neg fun ⟨hw, hb⟩ => h.elim (fun hf => Bool.noConfusion (hf.symm.trans hw)) (· hb)

theorem State.rearmReport_enableOutput (s : State) (e : EngineIx) (b d : BayIx) :
    (s.rearmReport e b).enableOutput d = s.enableOutput d := by
  rw [State.rearmReport_frame]
  rfl

/-- R76, R77: the end of the pulse turns the output of a seated bay on when its record is RUNNING. -/
theorem State.rearmEnded_enableOutput (hh : s.held = false) (he : s.EngagedOn e i r b)
    (hin : b.val < s.straps.bays) (hseat : (s.bay b).seated = true)
    (hlost : (s.bay b).seatLost = false) (k : Nat) (u : Option Turn) :
    (s.rearmEnded b k u).enableOutput b = true := by
  obtain ⟨hbind, hrec, hst, -⟩ := he
  have hheld : (s.rearmEnded b k u).held = false := hh
  have hserv : (s.rearmEnded b k u).bayInService b = true := decide_eq_true hin
  have hbound : ((s.rearmEnded b k u).boundSlot b).bind (s.rearmEnded b k u).record = some r := by
    rw [State.boundSlot, State.rearmEnded_bay, hbind]
    exact hrec
  simp [State.enableOutput, hheld, hserv, State.rearmEnded_bay, hseat, hlost, hbound, hst]

/-! ### The attention pulse (R192) -/

theorem execAttentionPulseEnd_of_running (hh : s.held = false) (hz : s.store.pulse = some z)
    (ho : s.ownWork = none) : ∃ k u, s.PassedTo (s.atTime k u) (z + 1) ∧
      exec .attentionPulseEnd s =
        .next { s.atTime k u with store := { s.store with pulse := none } } := by
  obtain ⟨k, u, hat, hpassed⟩ := State.atTick_passes ho (z + Config.pulseMs)
  refine ⟨k, u, hpassed, congrArg Host.Outcome.next ((State.live_of_released hh).trans ?_)⟩
  simp only [hz, hat]
  rfl

/-- R192: in pulse mode the attention line is inactive while no pulse runs. -/
theorem State.attentionActive_of_no_pulse (hp : s.straps.pulse = true) (h : s.store.pulse = none) :
    s.attentionActive = false := by
  simp [State.attentionActive, hp, h]

/-- Settles O59: each of the four timers at its tick, by the command that ends it. -/
theorem settleLatchAndPulseTimers : Obligations.SettleLatchAndPulseTimers := by
  refine ⟨fun s e c z hh ho hc => ⟨fun p hp hz => ?settle, fun p k w i r hp hw hz he => ?latch⟩,
    fun s b z e hh hz ho => ?rearm, fun s z hh hz ho => ?attention⟩
  case settle =>
    obtain ⟨k, u, hat, hpassed⟩ := State.atTick_passes ho (z + p.settleMs)
    have hexec := execSettleExpiry_of_running hh hc hp hz
    rw [hat] at hexec
    exact ⟨_, hexec, hpassed, rfl⟩
  case latch =>
    obtain ⟨n, u, hat, hpassed⟩ := State.atTick_passes ho (z + w + 1)
    have hexec := execLatchObserveExpiry_of_running hh hc hp hw hz
    have hengaged : (s.atTime n u).EngagedOn e i r c.bay := he
    rw [hat, State.askRearm_of_engaged (hengaged.modEngine rfl rfl)] at hexec
    exact ⟨_, hexec, hpassed,
      State.enableOutput_of_rearm (congrArg Bay.rearm ((State.bay_setBay ..).trans (if_pos rfl))), rfl⟩
  case rearm =>
    obtain ⟨k, u, hpassed, hexec⟩ := execRearmPulseEnd_of_running hh hz ho
    have hframe := (s.rearmEnded b k u).rearmReport_frame e b
    refine ⟨_, hexec, ?_, ?_, fun f i r he hin hseat hlost =>
      ⟨State.enableOutput_of_rearm hz, ?_⟩, ?_, fun hw hb => ?_, fun hne => ?_⟩
    · rw [hframe]
      exact hpassed
    · rw [hframe]
      rfl
    · rw [State.rearmReport_enableOutput]
      exact State.rearmEnded_enableOutput hh he hin hseat hlost k u
    · rw [hframe]
      rfl
    · rw [State.rearmReport_of_waiting (s := s.rearmEnded b k u) hw hb]
      rfl
    · rw [State.rearmReport_of_other (s := s.rearmEnded b k u) hne]
      rfl
  case attention =>
    obtain ⟨k, u, hpassed, hexec⟩ := execAttentionPulseEnd_of_running hh hz ho
    exact ⟨_, hexec, hpassed, rfl, fun hp => State.attentionActive_of_no_pulse hp rfl⟩

end Sys2Proof.Machine
end

section
/-! The power that a derating curve allows at a temperature, and the line factor (R144, R145). -/

namespace Sys2Proof.Machine

variable {k k' q : Knot} {ks : List Knot} {T : Int} {n : Nat}

/-! ### The segment of a curve (R144) -/

/-- R144: the change of the power from a knot to a temperature on the segment to the next knot. -/
def segmentStep (k k' : Knot) (T : Int) : Int :=
  (((k'.power : Int) - k.power) * (T - k.temp)).tdiv (k'.temp - k.temp)

theorem segmentStep_at_knot (k k' : Knot) : segmentStep k k' k.temp = 0 := by
  simp [segmentStep]

/-- Along a segment a rise of the power is taken from 0 up to the whole of it. -/
theorem tdiv_share_le {a x d : Int} (ha : 0 ≤ a) (hx : 0 ≤ x) (hd : x < d) :
    0 ≤ (a * x).tdiv d ∧ (a * x).tdiv d ≤ a ∧ (a * x).tdiv d * d ≤ a * x := by
  have hpos : 0 < d := by omega
  have hax : 0 ≤ a * x := Int.mul_nonneg ha hx
  rw [Int.tdiv_eq_ediv_of_nonneg hax]
  exact ⟨Int.ediv_nonneg hax hpos.le,
    Int.ediv_le_of_le_mul hpos (Int.mul_le_mul_of_nonneg_left hd.le ha),
    Int.ediv_mul_le _ hpos.ne'⟩

theorem segmentStep_of_rise (hp : k.power ≤ k'.power) (hT : k.temp ≤ T) (hT' : T < k'.temp) :
    0 ≤ segmentStep k k' T ∧ segmentStep k k' T ≤ (k'.power : Int) - k.power := by
  obtain ⟨h₀, h₁, -⟩ := tdiv_share_le (a := (k'.power : Int) - k.power) (x := T - k.temp)
    (d := k'.temp - k.temp) (by omega) (by omega) (by omega)
  exact ⟨h₀, h₁⟩

/-- R144: on a falling segment the quotient truncates toward zero. -/
theorem segmentStep_of_fall (hp : k'.power < k.power) (hT : k.temp ≤ T) (hT' : T < k'.temp) :
    (k'.power : Int) - k.power ≤ segmentStep k k' T ∧ segmentStep k k' T ≤ 0 ∧
      ((k'.power : Int) - k.power) * (T - k.temp) ≤ segmentStep k k' T * (k'.temp - k.temp) := by
  obtain ⟨h₀, h₁, h₂⟩ := tdiv_share_le (a := (k.power : Int) - k'.power) (x := T - k.temp)
    (d := k'.temp - k.temp) (by omega) (by omega) (by omega)
  have hneg : segmentStep k k' T =
      -(((k.power : Int) - k'.power) * (T - k.temp)).tdiv (k'.temp - k.temp) := by
    rw [segmentStep, ← Int.neg_tdiv, ← Int.neg_mul, Int.neg_sub]
  have hprod : ((k'.power : Int) - k.power) * (T - k.temp) =
      -(((k.power : Int) - k'.power) * (T - k.temp)) := by
    rw [← Int.neg_mul, Int.neg_sub]
  rw [hneg, hprod, Int.neg_mul]
  exact ⟨by omega, by omega, Int.neg_le_neg h₂⟩

/-- R144: the power on a segment lies between those of its knots. -/
theorem segmentStep_between (hT : k.temp ≤ T) (hT' : T < k'.temp) :
    min (k.power : Int) k'.power ≤ k.power + segmentStep k k' T ∧
      k.power + segmentStep k k' T ≤ max (k.power : Int) k'.power ∧
      (segmentStep k k' T).natAbs ≤ ((k'.power : Int) - k.power).natAbs := by
  obtain hp | hp := Nat.lt_or_ge k'.power k.power
  · obtain ⟨h₀, h₁, -⟩ := segmentStep_of_fall hp hT hT'
    omega
  · obtain ⟨h₀, h₁⟩ := segmentStep_of_rise hp hT hT'
    omega

/-- R33, R144: the ranges of the knots bound the product that the quotient is taken of. -/
theorem segment_product_le (hk : k.inRange = true) (hk' : k'.inRange = true) (hT : k.temp ≤ T)
    (hT' : T < k'.temp) :
    (((k'.power : Int) - k.power) * (T - k.temp)).natAbs ≤ 197880000 := by
  simp only [Knot.inRange, Bool.and_eq_true, decide_eq_true_eq] at hk hk'
  rw [Int.natAbs_mul]
  exact Nat.mul_le_mul (show _ ≤ 120000 by omega) (show _ ≤ 1649 by omega)

/-! ### The curve (R144) -/

/-- R33: the knots of a curve rise in temperature. -/
def KnotsRise (ks : List Knot) : Prop := ks.Pairwise fun a b => a.temp < b.temp

theorem curvePower_of_le_head (hk : ks.head? = some k) (hT : T ≤ k.temp) :
    curvePower ks T = k.power := by
  match ks, hk with
  | [_], rfl => rfl
  | _ :: _ :: _, rfl => exact if_pos hT

theorem curvePower_on_segment (hT : k.temp < T) (hT' : T < k'.temp) :
    curvePower (k :: k' :: ks) T = k.power + segmentStep k k' T :=
  (if_neg hT.not_ge).trans (if_pos hT')

theorem curvePower_past_segment (hT : k.temp < T) (hT' : k'.temp ≤ T) :
    curvePower (k :: k' :: ks) T = curvePower (k' :: ks) T :=
  (if_neg hT.not_ge).trans (if_neg hT'.not_gt)

/-- R144: at or above a knot behind the first segment, the first segment is passed. -/
theorem curvePower_above (hr : KnotsRise (k :: k' :: ks)) (hq : q ∈ k' :: ks) (hT : q.temp ≤ T) :
    curvePower (k :: k' :: ks) T = curvePower (k' :: ks) T := by
  obtain ⟨hk, hr'⟩ := List.pairwise_cons.mp hr
  have hkT := hk k' List.mem_cons_self
  have hT' : k'.temp ≤ T := by
    obtain rfl | hq := List.mem_cons.mp hq
    · exact hT
    · have := (List.pairwise_cons.mp hr').1 q hq
      omega
  exact curvePower_past_segment (by omega) hT'

theorem curvePower_of_last_le (hr : KnotsRise ks) (hk : ks.getLast? = some k) (hT : k.temp ≤ T) :
    curvePower ks T = k.power := by
  induction ks with
  | nil => cases hk
  | cons a ks ih =>
    cases ks with
    | nil =>
      cases hk
      rfl
    | cons b ks =>
      rw [List.getLast?_cons_cons] at hk
      rw [curvePower_above hr (List.mem_of_getLast? hk) hT]
      exact ih (List.pairwise_cons.mp hr).2 hk

theorem curvePower_of_segment (hr : KnotsRise ks) (hk : ks[n]? = some k) (hk' : ks[n + 1]? = some k')
    (hT : k.temp ≤ T) (hT' : T < k'.temp) : curvePower ks T = k.power + segmentStep k k' T := by
  induction ks generalizing n with
  | nil => cases hk
  | cons a ks ih =>
    cases ks with
    | nil => cases hk'
    | cons b ks =>
      cases n with
      | zero =>
        cases hk
        cases hk'
        obtain hlt | rfl := hT.lt_or_eq
        · exact curvePower_on_segment hlt hT'
        · rw [curvePower_of_le_head rfl le_rfl, segmentStep_at_knot, Int.add_zero]
      | succ n =>
        rw [curvePower_above hr (List.mem_of_getElem? hk) hT]
        exact ih (List.pairwise_cons.mp hr).2 hk hk'

theorem curvePower_at_knot (hr : KnotsRise ks) (hk : ks[n]? = some k) :
    curvePower ks k.temp = k.power := by
  obtain hn | hn := Nat.lt_or_ge (n + 1) ks.length
  · have hk' : ks[n + 1]? = some ks[n + 1] := List.getElem?_eq_getElem hn
    obtain ⟨hlt, rfl⟩ := List.getElem?_eq_some_iff.mp hk
    have hrise := List.pairwise_iff_getElem.mp hr n (n + 1) hlt hn n.lt_succ_self
    rw [curvePower_of_segment hr hk hk' le_rfl hrise, segmentStep_at_knot, Int.add_zero]
  · have hlast : n = ks.length - 1 := by
      have := (List.getElem?_eq_some_iff.mp hk).1
      omega
    exact curvePower_of_last_le hr (by rw [List.getLast?_eq_getElem?, ← hlast, hk]) le_rfl

/-- R144: a curve stays below a cap that its knots keep to (R33), and allows no negative power. -/
theorem curvePower_le_cap {pCap : Nat} (hcap : ∀ k ∈ ks, k.power ≤ pCap) :
    0 ≤ curvePower ks T ∧ curvePower ks T ≤ pCap := by
  induction ks with
  | nil => exact ⟨le_rfl, Int.natCast_nonneg pCap⟩
  | cons a ks ih =>
    have ha : a.power ≤ pCap := hcap a List.mem_cons_self
    have hrest : ∀ k ∈ ks, k.power ≤ pCap := fun k hk => hcap k (List.mem_cons_of_mem a hk)
    cases ks with
    | nil =>
      rw [curvePower]
      omega
    | cons b ks =>
      obtain hT | hT := le_or_gt T a.temp
      · rw [curvePower_of_le_head rfl hT]
        omega
      obtain hT' | hT' := le_or_gt b.temp T
      · rw [curvePower_past_segment hT hT']
        exact ih hrest
      · have hb : b.power ≤ pCap := hrest b List.mem_cons_self
        obtain ⟨hlow, hhigh, -⟩ := segmentStep_between hT.le hT'
        rw [curvePower_on_segment hT hT']
        omega

/-! ### The line factor (R145) -/

theorem linePower_of_knee_le {pT vIn vKnee : Nat} (h : vKnee ≤ vIn) : linePower pT vIn vKnee = pT :=
  if_pos h

theorem linePower_of_lt_knee {pT vIn vKnee : Nat} (h : vIn < vKnee) :
    linePower pT vIn vKnee = pT * vIn / vKnee :=
  if_neg h.not_ge

theorem linePower_le (pT vIn vKnee : Nat) : linePower pT vIn vKnee ≤ pT := by
  obtain h | h := Nat.lt_or_ge vIn vKnee
  · rw [linePower_of_lt_knee h]
    exact Nat.div_le_of_le_mul (Nat.mul_comm pT vIn ▸ Nat.mul_le_mul_right pT h.le)
  · exact (linePower_of_knee_le h).le

/-! ### The start conditions (R143) and the voltages of a model (R39) -/

/-- R143: the evaluator goes on with the sample of a FRESH bay that meets the conditions. -/
theorem startConditions_eq_some_iff {p : DerateParams} {y : BaySense} {x : Sample} :
    startConditions p y = some x ↔ y.sense = .fresh ∧ y.sample = some x ∧
      x.overT = false ∧ x.overVin = false ∧ p.vMin ≤ x.vIn := by
  unfold startConditions
  split
  next z hs hz =>
    simp only [hs, hz, Option.some.injEq, true_and]
    constructor
    · intro h
      split at h
      · cases h
      · next hgood =>
        cases h
        simpa [not_or, and_assoc] using hgood
    · rintro ⟨rfl, hT, hV, hv⟩
      simp [hT, hV, hv.not_gt]
  next hno => simpa using fun hs hx => absurd hx (hno x hs)

/-- R39: a model without a fault has its minimum input voltage below the knee. -/
theorem Model.vMin_lt_vKnee {x : Model} (h : x.firstFault = none) :
    x.derateParams.vMin < x.derateParams.vKnee := by
  have hpass := x.firstFault_eq_none_iff.mp h
  obtain ⟨hknee, hmin⟩ := hpass 16
  obtain ⟨a, ha⟩ := Option.ne_none_iff_exists'.mp hmin
  obtain ⟨b, hb⟩ := Option.ne_none_iff_exists'.mp hknee
  have hlt : a < b := hpass 17 a b ha hb
  simpa only [Model.derateParams, ha, hb, Option.getD_some] using hlt

/-- Settles O52: the curve by the place of the temperature among its knots, the line factor by the side of the knee. -/
theorem curveAndLineFactor : Obligations.CurveAndLineFactor := by
  refine ⟨fun ks T _ _ hr => ⟨fun k => curvePower_of_le_head, fun k => curvePower_of_last_le hr,
      fun n k hk hT => hT ▸ curvePower_at_knot hr hk, fun n k k' hk hk' hT hT' => ?segment,
      fun pCap => curvePower_le_cap⟩,
    fun pT vIn vKnee => ⟨linePower_of_knee_le, fun h => ⟨linePower_of_lt_knee h, by omega⟩,
      linePower_le pT vIn vKnee, linePower_of_knee_le le_rfl, fun hpT hlt hknee => ?product⟩,
    fun p y x h => ?conditions,
    fun x pT h => ⟨Model.vMin_lt_vKnee h, linePower_of_lt_knee (Model.vMin_lt_vKnee h)⟩⟩
  case segment =>
    obtain ⟨hlow, hhigh, habs⟩ := segmentStep_between hT hT'
    have hpower := curvePower_of_segment hr hk hk' hT hT'
    intro product quotient
    rw [hpower]
    refine ⟨rfl, by omega, habs, hlow, hhigh, fun hfall => ?_, fun hin hin' =>
      segment_product_le hin hin' hT hT'⟩
    rw [add_sub_cancel_left]
    exact (segmentStep_of_fall hfall hT hT').2.2
  case product =>
    calc pT * vIn ≤ 120000 * 2999 := Nat.mul_le_mul hpT (by omega)
      _ < 360000000 := by decide
  case conditions =>
    obtain ⟨-, -, -, -, hv⟩ := startConditions_eq_some_iff.mp h
    exact hv

end Sys2Proof.Machine
end

section
/-! The answer of the derate evaluator, and what the engine in RESERVE that asked does with it (R142 to R149). -/

namespace Sys2Proof.Machine

variable {s : State} {e : EngineIx} {c : WorkingCopy} {p : DerateParams} {y : BaySense} {x : Sample}
  {why : StopCause} {mPresent online n : Nat}

/-! ### The answer (R143 to R148) -/

/-- R143: no sample passes the conditions when every one that a FRESH bay holds breaks one of them. -/
theorem startConditions_eq_none
    (h : ∀ x, y.sense = .fresh → y.sample = some x → x.overT = true ∨ x.overVin = true ∨ x.vIn < p.vMin) :
    startConditions p y = none := by
  refine Option.eq_none_iff_forall_ne_some.mpr fun x hx => ?_
  obtain ⟨hs, hy, hT, hV, hv⟩ := startConditions_eq_some_iff.mp hx
  obtain hbad | hbad | hbad := h x hs hy
  · exact Bool.noConfusion (hT.symm.trans hbad)
  · exact Bool.noConfusion (hV.symm.trans hbad)
  · exact absurd hv hbad.not_ge

/-- R144 to R146: the expected derated power at a sample. -/
def DerateParams.expectedAt (p : DerateParams) (mPresent : Nat) (x : Sample) : Nat :=
  expectedPower (linePower (curvePower p.curve x.temp).toNat x.vIn p.vKnee) mPresent p.mRated p.pCap

/-- R147: the load setting at a sample. -/
def DerateParams.settingAt (p : DerateParams) (mPresent : Nat) (x : Sample) : Nat :=
  loadSetting (p.expectedAt mPresent x) p.overPpt p.vNom

/-- R148: the reservation of the load setting at a sample. -/
def DerateParams.reservationAt (p : DerateParams) (mPresent : Nat) (x : Sample) : Nat :=
  reservationOf (stepPower (p.settingAt mPresent x) p.vNom) p.effPpt

theorem evaluate_of_conditions_broken (h : startConditions p y = none) :
    evaluate p mPresent y online = .outOfConditions 1 := by
  simp only [evaluate, h]

/-- R146 to R148: behind the conditions the expected power and the load setting decide the answer. -/
theorem evaluate_of_conditions_met (h : startConditions p y = some x) :
    evaluate p mPresent y online =
      if p.expectedAt mPresent x = 0 then .outOfConditions 4
      else if online < p.settingAt mPresent x then .noCapacity
      else .evaluated x.temp (p.expectedAt mPresent x) (p.settingAt mPresent x)
        (stepPower (p.settingAt mPresent x) p.vNom) (p.reservationAt mPresent x) := by
  simp only [evaluate, h]
  rfl

/-- R142: the engine that asked takes the answer, the work of the others being done (log 37). -/
theorem execDerateEvaluation_of_asked (hh : s.held = false) (ho : s.ownWork = none)
    (hask : (s.engine e).evalAsked = true) (hc : (s.engine e).copy = some c)
    (hp : c.params = .derate p) :
    exec (.derateEvaluation e) s =
      .next (s.takeEvaluation e c (evaluate p c.mPresent (s.sense c.bay) s.totalOnline)) :=
  congrArg Host.Outcome.next ((State.live_of_released hh).trans
    (by simp only [State.settled_of_ownWork ho, hask, hc, hp]))

/-! ### A stop cause in RESERVE (R118) -/

/-- R116: the step is closed with an outcome that comes from a stop cause: the engine is FREE and its close is sent
to the record store. -/
def State.stepClosed (s : State) (e : EngineIx) (c : WorkingCopy) (o : StepOutcome) : State :=
  (s.setEngine e Engine.free).send e (.close c.handle c.index c.kind o none none c.attempt false)

theorem State.stepClosed_engine (s : State) (e f : EngineIx) (c : WorkingCopy) (o : StepOutcome) :
    (s.stepClosed e c o).engine f = if f = e then Engine.free else s.engine f :=
  s.engine_setEngine e f Engine.free

/-- R118: an engine in RESERVE with a stop cause, its submission withdrawn. -/
def Engine.stoppedInReserve (en : Engine) (why : StopCause) : Engine :=
  { en.quiet with stop := some why, reservation := .none }

/-- R118: with an empty feed wait list there is no submission to take out of it. -/
theorem State.stopped_feedWithdraw (hw : s.feed.waits = []) :
    (s.stopped e why).feedWithdraw e = s.setEngine e ((s.engine e).stoppedInReserve why) := by
  have hfeed : s.feed.withdraw e = s.feed := by
    rw [Feed.withdraw, hw, List.filter_nil, ← hw]
  calc (s.stopped e why).feedWithdraw e
    _ = ((s.stopped e why).setFeed s.feed).modEngine e fun en => { en with reservation := .none } :=
      congrArg (fun f => ((s.stopped e why).setFeed f).modEngine e _) hfeed
    _ = s.setEngine e ((s.engine e).stoppedInReserve why) :=
      s.modEngine_modEngine e (fun en => { en.quiet with stop := some why })
        fun en => { en with reservation := .none }

/-- R116, R121: an engine that holds a stop cause and no verdict closes with it. -/
theorem State.engineClose_stoppedInReserve (hc : (s.engine e).copy = some c)
    (hv : (s.engine e).verdict = none) :
    (s.setEngine e ((s.engine e).stoppedInReserve why)).engineClose e =
      s.stepClosed e c why.outcome := by
  have hget := s.engine_setEngine e e ((s.engine e).stoppedInReserve why)
  rw [if_pos rfl] at hget
  have hcopy : ((s.engine e).stoppedInReserve why).copy = some c := hc
  have hout : ((s.engine e).stoppedInReserve why).outcome =
      some (⟨why.outcome, none, none⟩, false) := by
    simp [Engine.outcome, Engine.stoppedInReserve, Engine.quiet, hv]
  simp only [State.engineClose, hget, hcopy, hout, State.stepClosed]
  exact congrArg (fun t => State.send { s with engines := t } e _) (Tab.put_put ..)

/-- R118: a stop cause closes the step of an engine in RESERVE, and leaves the supervisor nothing to test. -/
theorem State.stopEngine_reserve (hphase : (s.engine e).phase = .reserve)
    (hc : (s.engine e).copy = some c) (hv : (s.engine e).verdict = none)
    (hs : (s.engine e).stop = none) (hw : s.feed.waits = []) :
    s.stopEngine e why = s.stepClosed e c why.outcome := by
  have hstop : s.takeStop e why = s.stepClosed e c why.outcome := by
    rw [State.takeStop_reserve hv hs hphase, State.stopped_feedWithdraw hw,
      State.engineClose_stoppedInReserve hc hv]
  exact (State.stopEngine_of_feed (by rw [hstop]; rfl)).trans hstop

/-! ### The load and its reservation (R110, R148, R149) -/

/-- R142: an engine with the evaluator's answer. -/
def Engine.evaluated (en : Engine) (temp : Int) (pExp iSet : Nat) : Engine :=
  { en with evalAsked := false, captured := temp, pExp := pExp, stepLevel := iSet }

/-- R176: a submission fits in NORMAL, within the budget less the guard. -/
theorem Feed.fits_iff {f : Feed} {w : FeedWait} :
    f.fits w = true ↔ f.window = .normal ∧ f.total + w.amount ≤ f.budget - f.guard := by
  simp [Feed.fits]

/-- R176: an answer whose reservation fits is admitted, and its engine is in ACQUIRE. -/
theorem State.takeEvaluation_of_fits {temp : Int} {pExp iSet pStep : Nat} (hw : s.feed.waits = [])
    (hf : s.feed.fits (s.feedEntry e c n) = true) :
    let t := s.takeEvaluation e c (.evaluated temp pExp iSet pStep n)
    t = { s with engines := t.engines, feed := t.feed } ∧
    t.engines = s.engines.put e { (s.engine e).evaluated temp pExp iSet with
      reservation := .held n, phase := .acquire } ∧
    t.feed = { s.feed with
      nextJoin := s.feed.nextJoin + 1
      reservations := s.feed.reservations ++ [⟨e, n, c.priority, s.feed.nextNumber, false⟩]
      total := s.feed.total + n
      nextNumber := s.feed.nextNumber + 1 } := by
  let u := s.modEngine e (·.evaluated temp pExp iSet)
  have hsubmit : s.takeEvaluation e c (.evaluated temp pExp iSet pStep n) = _ :=
    State.submit_of_fits (s := u) hw hf
  rw [hsubmit]
  exact ⟨rfl, congrArg State.engines (s.modEngine_modEngine e (·.evaluated temp pExp iSet)
    fun en => { en with reservation := .held n, phase := .acquire }), rfl⟩

/-- R176: an answer whose reservation does not fit joins the empty list and waits. -/
theorem State.takeEvaluation_of_unfit {temp : Int} {pExp iSet pStep : Nat} (hw : s.feed.waits = [])
    (hf : s.feed.fits (s.feedEntry e c n) = false) :
    let t := s.takeEvaluation e c (.evaluated temp pExp iSet pStep n)
    t = { s with engines := t.engines, feed := t.feed } ∧
    t.engines = s.engines.put e { (s.engine e).evaluated temp pExp iSet with
      reservation := .waiting n } ∧
    t.feed = { s.feed with
      waits := [s.feedEntry e c n], nextJoin := s.feed.nextJoin + 1 } := by
  let u := s.modEngine e (·.evaluated temp pExp iSet)
  have hunfit : ∀ w ∈ s.feedEntry e c n :: s.feed.waits, s.feed.fits w = false := by
    simp [hw, hf]
  have hsubmit : s.takeEvaluation e c (.evaluated temp pExp iSet pStep n) = u.joinFeedWaits e c n :=
    State.submit_of_unfit (s := u) hunfit
  have hfeed : s.feed.join e n c.priority c.bay =
      { s.feed with waits := [s.feedEntry e c n], nextJoin := s.feed.nextJoin + 1 } := by
    rw [Feed.join, hw]
    rfl
  rw [hsubmit]
  exact ⟨rfl, congrArg State.engines (s.modEngine_modEngine e (·.evaluated temp pExp iSet)
    fun en => { en with reservation := .waiting n }), hfeed⟩

/-- Settles O51: the answer by the start conditions, the expected power and the load setting, and the submission by
whether it fits. -/
theorem evaluatorAnswersTheEngine : Obligations.EvaluatorAnswersTheEngine := by
  intro s e c p hh hphase hask hc hp hv hs hw ho closed
  have hexec := execDerateEvaluation_of_asked hh ho hask hc hp
  have closes {why : StopCause} (hstop : exec (.derateEvaluation e) s = .next (s.stopEngine e why)) :
      closed why.outcome := by
    rw [State.stopEngine_reserve hphase hc hv hs hw] at hstop
    exact ⟨_, hstop, (s.stepClosed_engine ..).trans (if_pos rfl),
      fun f hf => (s.stepClosed_engine ..).trans (if_neg hf), rfl, rfl⟩
  have broken (h : startConditions p (s.sense c.bay) = none) : closed .outOfConditions := by
    rw [evaluate_of_conditions_broken h] at hexec
    exact closes hexec
  refine ⟨fun h => broken (startConditions_eq_none fun x hf hx => ?_), fun x hf hx =>
    ⟨fun h => broken (startConditions_eq_none fun y _ hy => ?_), fun hT hV hvIn => ?_⟩⟩
  · exact h.elim (absurd hf) fun hn => nomatch hn.symm.trans hx
  · exact Option.some.inj (hx.symm.trans hy) ▸ h
  intro pT pTV pExp iSet amount
  rw [evaluate_of_conditions_met (startConditions_eq_some_iff.mpr ⟨hf, hx, hT, hV, hvIn⟩)] at hexec
  have hpExp : p.expectedAt c.mPresent x = pExp := rfl
  have hiSet : p.settingAt c.mPresent x = iSet := rfl
  have hamount : p.reservationAt c.mPresent x = amount := rfl
  rw [hpExp, hiSet, hamount] at hexec
  refine ⟨fun h₀ => ?dark, fun h₀ hlt => ?short, fun h₀ hle => ?load⟩
  case dark =>
    rw [if_pos h₀] at hexec
    exact closes hexec
  case short =>
    rw [if_neg h₀, if_pos hlt] at hexec
    exact closes hexec
  case load =>
    rw [if_neg h₀, if_neg hle.not_gt] at hexec
    cases hfits : s.feed.fits (s.feedEntry e c amount) with
    | true =>
      obtain ⟨hframe, hengines, hfeed⟩ := State.takeEvaluation_of_fits (e := e) (c := c)
        (temp := x.temp) (pExp := pExp) (iSet := iSet) hw hfits
      obtain ⟨hwin, hroom⟩ := Feed.fits_iff.mp hfits
      exact ⟨_, hexec, hframe, fun h => h.elim (absurd hwin) (absurd hroom ·.not_ge),
        fun _ _ => ⟨hengines, hfeed⟩⟩
    | false =>
      obtain ⟨hframe, hengines, hfeed⟩ := State.takeEvaluation_of_unfit (e := e) (c := c)
        (temp := x.temp) (pExp := pExp) (iSet := iSet) hw hfits
      exact ⟨_, hexec, hframe, fun _ => ⟨hengines, hfeed⟩, fun hwin hroom =>
        Bool.noConfusion (hfits.symm.trans (Feed.fits_iff.mpr ⟨hwin, hroom⟩))⟩

end Sys2Proof.Machine
end

section
/-! BANK_STATUS and STATION_STATUS: what they answer is the settled state, which they leave as it is. -/

namespace Sys2Proof.Machine

variable {s : State} {l : Link} {q : Request}

/-- R188: a station request with no body, at tier 0, is served by its own part. -/
theorem State.serveStation_of_serving {code : ReqCode} (hs : s.Serving l code q) (hb : q.body = [])
    (ht : q.tier = 0) (f : State → State) : s.serveStation l code f = f s := by
  rw [State.serveStation, State.serve_of_serving hs, if_neg (by simpa using hb), if_neg (by omega)]

/-- R188: the engines' own work leaves the pending requests. -/
theorem State.settled_link (s : State) (l : Link) : s.settled.link l = s.link l := by
  cases l
  · exact State.shell_execLink s.settled_shell
  · exact State.shell_consoleLink s.settled_shell

/-- R170: which engine's request is in service, as BANK_STATUS carries it. -/
theorem State.optBytes_engineInService (s : State) :
    optBytes (fun e => [byteOf e.val]) s.engineInService = match s.arb.service with
      | some v => if v.status = .failed then [0x00#8] else [0x01#8, byteOf v.engine.val]
      | none => [0x00#8] := by
  unfold State.engineInService
  cases s.arb.service with
  | none => rfl
  | some v => by_cases hv : v.status = .failed <;> simp [hv, optBytes]

/-- R196: an engine in FREE is carried by its phase alone. -/
theorem engineBytes_eq (en : Engine) : engineBytes en = byteOf en.phase.code ::
    match en.copy with
    | some c => if en.phase = .free then []
        else c.handle.bytes ++ [byteOf c.index, byteOf c.kind.code]
    | none => [] := by
  unfold engineBytes
  cases en.copy <;> cases en.phase <;> rfl

/-- A report of the settled state: its answer changes the links alone. -/
theorem State.answers_settled (h : (s.link l).request = some q) (body : List Byte) :
    let t := s.settled.answer l .ok body
    s.settled.Answers t l q .ok body ∧
      t = { s.settled with execLink := t.execLink, consoleLink := t.consoleLink } :=
  ⟨State.answer_answers (fun _ => rfl) rfl ((congrArg _ (s.settled_link l)).trans h) .ok body,
    s.settled.answer_frame l .ok body⟩

/-- Settles O37: both bodies, written out, are what the settled state answers. -/
theorem stationReportsReadTheState : Obligations.StationReportsReadTheState := by
  intro l s₀ q ht hb s
  refine ⟨fun hs => ?_, fun hs => ?_⟩
  · obtain ⟨hans, hframe⟩ := State.answers_settled hs.request s.bankStatusBody
    refine ⟨_, congrArg Host.Outcome.next (State.serveStation_of_serving hs hb ht _), ?_, hframe⟩
    refine Eq.mp (congrArg (s.Answers _ l q .ok) ?_) hans
    rw [State.bankStatusBody, s.optBytes_engineInService]
    simp only [bankBytes, listBytes, List.append_assoc, List.singleton_append] <;> rfl
  · obtain ⟨hans, hframe⟩ := State.answers_settled hs.request s.stationStatusBody
    refine ⟨_, congrArg Host.Outcome.next (State.serveStation_of_serving hs hb ht _), ?_, hframe⟩
    refine Eq.mp (congrArg (s.Answers _ l q .ok) ?_) hans
    simp only [State.stationStatusBody, engineBytes_eq] <;> rfl

end Sys2Proof.Machine
end

section
/-! SUPPORT. The shares of a grant (R167), and the banks that the arbiter chooses (R163). -/

namespace Sys2Proof.Machine

/-! ### Shares (R167) -/

/-- The share of one bank of a grant, before the remainder is handed out. -/
def baseShares (need : Nat) (caps : List Nat) : List Nat := caps.map fun c => need * c / caps.sum

/-- What truncation leaves of the need. -/
def shareRest (need : Nat) (caps : List Nat) : Nat := need - (baseShares need caps).sum

/-- One count each to the first `r` entries, of which `k` stood ahead of the list. -/
theorem sum_zipIdx_handed (r : Nat) (l : List Nat) (k : Nat) :
    ((l.zipIdx k).map fun p => if p.2 < r then p.1 + 1 else p.1).sum =
      l.sum + min l.length (r - k) := by
  induction l generalizing k with
  | nil => simp
  | cons a l ih =>
    simp only [List.zipIdx_cons, List.map_cons, List.sum_cons, ih, List.length_cons]
    split <;> omega

/-- A sum of quotients is short of the quotient of the sum by less than one for each of them. -/
theorem sum_quotients_bounds {total : Nat} (ht : 0 < total) (need : Nat) (l : List Nat) :
    (l.map fun c => need * c / total).sum * total ≤ need * l.sum ∧
      need * l.sum + l.length ≤ ((l.map fun c => need * c / total).sum + l.length) * total := by
  induction l with
  | nil => simp
  | cons c l ih =>
    obtain ⟨hle, hge⟩ := ih
    have hdiv := Nat.div_add_mod (need * c) total
    have hmod := Nat.mod_lt (need * c) ht
    simp only [List.map_cons, List.sum_cons, List.length_cons, Nat.add_mul, Nat.mul_add,
      Nat.mul_comm total] at *
    omega

theorem sharesOf_getElem? {need n c : Nat} {caps : List Nat} (h : caps[n]? = some c) :
    (State.sharesOf need caps)[n]? =
      some (need * c / caps.sum + if n < shareRest need caps then 1 else 0) := by
  have hbase : (State.sharesOf need caps)[n]? = some
      (if n < shareRest need caps then need * c / caps.sum + 1 else need * c / caps.sum) := by
    simp [State.sharesOf, shareRest, baseShares, h] <;> rfl
  rw [hbase]
  split <;> rfl

@[simp] theorem sharesOf_length (need : Nat) (caps : List Nat) :
    (State.sharesOf need caps).length = caps.length := by
  simp [State.sharesOf]

section grant

variable {need : Nat} {caps : List Nat} (hne : caps ≠ []) (hpos : ∀ c ∈ caps, 0 < c)
include hne hpos

theorem sum_caps_pos : 0 < caps.sum := by
  obtain ⟨c, cs, rfl⟩ := List.exists_cons_of_ne_nil hne
  have := hpos c (by simp)
  rw [List.sum_cons]
  omega

/-- R167: the remainder is less than one count for each bank. -/
theorem shareRest_lt : (baseShares need caps).sum ≤ need ∧ shareRest need caps < caps.length := by
  have hsum := sum_caps_pos hne hpos
  obtain ⟨hle, hge⟩ := sum_quotients_bounds hsum need caps
  have hlen : 0 < caps.length := List.length_pos_iff.mpr hne
  refine ⟨Nat.le_of_mul_le_mul_right hle hsum, ?_⟩
  have hlt : need * caps.sum < ((baseShares need caps).sum + caps.length) * caps.sum :=
    Nat.lt_of_lt_of_le (by omega) hge
  have := Nat.lt_of_mul_lt_mul_right hlt
  rw [shareRest]
  omega

theorem sharesOf_sum : (State.sharesOf need caps).sum = need := by
  obtain ⟨hle, hlt⟩ := shareRest_lt (need := need) hne hpos
  have hsum : (State.sharesOf need caps).sum = (baseShares need caps).sum +
      min (baseShares need caps).length (shareRest need caps - 0) :=
    sum_zipIdx_handed (shareRest need caps) (baseShares need caps) 0
  have hlen : (baseShares need caps).length = caps.length := List.length_map _
  rw [hsum, hlen]
  rw [shareRest] at hlt ⊢
  omega

/-- R167: a need that takes all capabilities takes each of them whole. -/
theorem baseShares_of_all (h : need = caps.sum) : baseShares need caps = caps ∧
    shareRest need caps = 0 := by
  have hbase : baseShares need caps = caps := by
    have hself : ∀ c ∈ caps, need * c / caps.sum = c := fun c _ => by
      rw [h, Nat.mul_div_cancel_left _ (sum_caps_pos hne hpos)]
    exact (List.map_congr_left hself).trans (List.map_id _)
  exact ⟨hbase, by rw [shareRest, hbase, h, Nat.sub_self]⟩

/-- R167: no share is above the capability of its bank. -/
theorem share_le_cap (hle : need ≤ caps.sum) {n c : Nat} (h : caps[n]? = some c) :
    need * c / caps.sum + (if n < shareRest need caps then 1 else 0) ≤ c := by
  have hsum := sum_caps_pos hne hpos
  have hc := hpos c (List.mem_of_getElem? h)
  rcases Nat.eq_or_lt_of_le hle with heq | hlt
  · rw [(baseShares_of_all hne hpos heq).2, heq, Nat.mul_div_cancel_left _ hsum]
    simp
  · have : need * c / caps.sum < c :=
      Nat.div_lt_of_lt_mul (Nat.mul_lt_mul_of_pos_right hlt hc)
    split <;> omega

theorem sharesOf_of_all (h : need = caps.sum) : State.sharesOf need caps = caps := by
  obtain ⟨hbase, hrest⟩ := baseShares_of_all hne hpos h
  refine List.ext_getElem? fun n => ?_
  cases hn : caps[n]? with
  | none =>
    rw [List.getElem?_eq_none_iff, sharesOf_length]
    exact List.getElem?_eq_none_iff.mp hn
  | some c =>
    rw [sharesOf_getElem? hn, hrest, h, Nat.mul_div_cancel_left _ (sum_caps_pos hne hpos)]
    rfl

end grant

/-! ### Banks in the order of choice (R163) -/

variable {s : State} {need : Nat}

/-- R163: of two banks, the one that is chosen first. -/
def State.chosenBefore (s : State) (a b : BankIx) : Prop :=
  (s.bank b).cap < (s.bank a).cap ∨ ((s.bank a).cap = (s.bank b).cap ∧ a < b)

theorem State.insertBank_pairwise {b : BankIx} {l : List BankIx} (hl : l.Pairwise s.chosenBefore)
    (hb : ∀ c ∈ l, c < b) : (s.insertBank b l).Pairwise s.chosenBefore := by
  induction l with
  | nil => exact List.pairwise_singleton _ b
  | cons c cs ih =>
    obtain ⟨hc, hcs⟩ := List.pairwise_cons.mp hl
    unfold State.insertBank
    split
    next hlt =>
      refine List.pairwise_cons.mpr ⟨fun d hd => .inl ?_, hl⟩
      rcases List.mem_cons.mp hd with rfl | hd
      · exact hlt
      · obtain h | ⟨h, -⟩ := hc d hd
        · exact h.trans hlt
        · exact h ▸ hlt
    next hge =>
      refine List.pairwise_cons.mpr ⟨fun d hd => ?_, ih hcs fun d hd => hb d (.tail c hd)⟩
      rcases List.mem_cons.mp ((s.insertBank_perm b cs).mem_iff.mp hd) with rfl | hd
      · exact (Nat.lt_or_eq_of_le (Nat.le_of_not_lt hge)).imp_right fun heq =>
          ⟨heq.symm, hb c (.head cs)⟩
      · exact hc d hd

theorem State.foldl_insertBank_pairwise {l acc : List BankIx} (hl : l.Pairwise (· < ·))
    (hacc : acc.Pairwise s.chosenBefore) (hlt : ∀ a ∈ acc, ∀ b ∈ l, a < b) :
    (l.foldl (fun l b => s.insertBank b l) acc).Pairwise s.chosenBefore := by
  induction l generalizing acc with
  | nil => exact hacc
  | cons b l ih =>
    obtain ⟨hb, hl⟩ := List.pairwise_cons.mp hl
    refine ih hl (State.insertBank_pairwise hacc fun c hc => hlt c hc b (.head l)) fun a ha d hd => ?_
    rcases List.mem_cons.mp ((s.insertBank_perm b acc).mem_iff.mp ha) with rfl | ha
    · exact hb d hd
    · exact hlt a ha d (.tail b hd)

theorem State.idleBanks_perm (s : State) : s.idleBanks.Perm
    (s.addresses.filter fun b => (s.bank b).state = .idle && 0 < (s.bank b).cap) := by
  have h := s.foldl_insertBank_perm
    (s.addresses.filter fun b => (s.bank b).state = .idle && 0 < (s.bank b).cap) []
  rwa [List.append_nil] at h

theorem State.mem_addresses {b : BankIx} : b ∈ s.addresses ↔ b.val < s.straps.banks := by
  simp [State.addresses]

theorem State.mem_idleBanks {b : BankIx} : b ∈ s.idleBanks ↔
    b.val < s.straps.banks ∧ (s.bank b).state = .idle ∧ 0 < (s.bank b).cap := by
  simp [s.idleBanks_perm.mem_iff, State.mem_addresses]

theorem State.idleBanks_pairwise (s : State) : s.idleBanks.Pairwise s.chosenBefore :=
  State.foldl_insertBank_pairwise (((List.sortedLT_finRange 8).pairwise.filter _).filter _)
    List.Pairwise.nil (by simp)

/-- Entries that weigh nothing do not count in a sum. -/
theorem sum_filter_pos {α : Type} (p : α → Bool) (f : α → Nat) (l : List α) :
    ((l.filter fun a => p a && 0 < f a).map f).sum = ((l.filter p).map f).sum := by
  induction l with
  | nil => rfl
  | cons a l ih =>
    by_cases hp : p a = true
    · by_cases hf : 0 < f a
      · simp [hp, hf, ih]
      · have hf : f a = 0 := by omega
        simp [hp, hf, ih]
    · simp [hp, ih]

/-- R163: the banks in the order of choice reach what all IDLE banks reach. -/
theorem State.idleBanks_sum (s : State) : (s.idleBanks.map fun b => (s.bank b).cap).sum =
    ((s.addresses.filter fun b => (s.bank b).state = .idle).map fun b => (s.bank b).cap).sum :=
  ((s.idleBanks_perm.map fun b => (s.bank b).cap).sum_eq).trans (sum_filter_pos ..)

/-! ### How many are chosen (R163) -/

/-- R163: the banks chosen are the first ones in the order of choice that reach the need, and without the last of
them the need is not reached. -/
theorem State.chooseBanks_spec {acc : Nat} {l banks : List BankIx}
    (h : s.chooseBanks need acc l = some banks) :
    (∃ rest, l = banks ++ rest) ∧ need ≤ acc + (banks.map fun b => (s.bank b).cap).sum ∧
      ∀ front last, banks = front ++ [last] →
        acc + (front.map fun b => (s.bank b).cap).sum < need := by
  induction l generalizing acc banks with
  | nil =>
    by_cases hle : need ≤ acc
    · simp only [State.chooseBanks, hle, if_true, Option.some.injEq] at h
      subst h
      simp [hle]
    · simp [State.chooseBanks, hle] at h
  | cons b bs ih =>
    by_cases hle : need ≤ acc
    · simp only [State.chooseBanks, hle, if_true, Option.some.injEq] at h
      subst h
      simp [hle]
    · simp only [State.chooseBanks, hle, if_false, Option.map_eq_some_iff] at h
      obtain ⟨cs, hcs, rfl⟩ := h
      obtain ⟨⟨rest, rfl⟩, hneed, hmin⟩ := ih hcs
      refine ⟨⟨rest, rfl⟩, by simpa [Nat.add_assoc] using hneed, fun front last hl => ?_⟩
      cases front with
      | nil => simpa using hle
      | cons c front =>
        obtain ⟨rfl, hl⟩ := List.cons.inj hl
        have := hmin front last
        simp_all [Nat.add_assoc]

theorem State.chooseBanks_none {acc : Nat} {l : List BankIx} (h : s.chooseBanks need acc l = none) :
    acc + (l.map fun b => (s.bank b).cap).sum < need := by
  induction l generalizing acc with
  | nil => simpa [State.chooseBanks] using h
  | cons b bs ih =>
    have hlt : ¬need ≤ acc := fun hle => by simp [State.chooseBanks, hle] at h
    simp only [State.chooseBanks, hlt, if_false, Option.map_eq_none_iff] at h
    simpa [Nat.add_assoc] using ih h

/-- R163: IDLE banks that reach a need above 0 give a first bank to connect. -/
theorem State.chooseBanks_of_met (hn : need ≠ 0) (h : need ≤
    ((s.addresses.filter fun b => (s.bank b).state = .idle).map fun b => (s.bank b).cap).sum) :
    ∃ b bs, s.chooseBanks need 0 s.idleBanks = some (b :: bs) := by
  cases hch : s.chooseBanks need 0 s.idleBanks with
  | none =>
    have := State.chooseBanks_none hch
    rw [s.idleBanks_sum] at this
    omega
  | some banks =>
    cases banks with
    | nil =>
      obtain ⟨-, hneed, -⟩ := State.chooseBanks_spec hch
      simp at hneed
      omega
    | cons b bs => exact ⟨b, bs, rfl⟩

/-- R163: each bank chosen is IDLE, in service and of a capability above 0. -/
theorem State.mem_chosen {banks : List BankIx} {b : BankIx}
    (h : s.chooseBanks need 0 s.idleBanks = some banks) (hb : b ∈ banks) :
    b.val < s.straps.banks ∧ (s.bank b).state = .idle ∧ 0 < (s.bank b).cap := by
  obtain ⟨⟨rest, hrest⟩, -⟩ := State.chooseBanks_spec h
  exact State.mem_idleBanks.mp (hrest ▸ List.mem_append_left rest hb)

end Sys2Proof.Machine
end

section
/-! SUPPORT. The entry into LOAD with an empty grant, the arming of detection, and steps that close (R111, R112, R116). -/

namespace Sys2Proof.Machine

variable {s t u : State} {e : EngineIx} {c : WorkingCopy} {o : StepOutcome} {value : Option Nat}
  {cause : Option DetectCause}

theorem State.engine_setEngine_same (s : State) (e : EngineIx) (x : Engine) :
    (s.setEngine e x).engine e = x := Tab.get_put_same ..

theorem State.feedRetest_of_feed (h : t.feed = s.feed) : s.feedRetest t = t :=
  if_pos ⟨congrArg Feed.reservations h, congrArg Feed.waits h⟩

@[simp] theorem State.engineClose_arb (s : State) (e : EngineIx) : (s.engineClose e).arb = s.arb := by
  unfold State.engineClose
  dsimp only
  split <;> rfl

@[simp] theorem State.engineClose_feed (s : State) (e : EngineIx) :
    (s.engineClose e).feed = s.feed := by
  unfold State.engineClose
  dsimp only
  split <;> rfl

@[simp] theorem State.acquireExit_arb (s : State) (e : EngineIx) : (s.acquireExit e).arb = s.arb :=
  State.engineClose_arb ..

@[simp] theorem State.acquireExit_feed (s : State) (e : EngineIx) :
    (s.acquireExit e).feed = s.feed.drop e := State.engineClose_feed ..

/-! ### Steps that close -/

/-- A change of the engine before it closes does not change what `Closes` says. -/
theorem State.Closes.of_setEngine {x : Engine} (h : (s.setEngine e x).Closes t e c o value cause) :
    s.Closes t e c o value cause := by
  obtain ⟨heng, hout, hres⟩ := h
  exact ⟨heng.trans (Tab.put_put ..), hout, hres⟩

theorem State.Closes.engine (h : s.Closes t e c o value cause) : t.engine e = Engine.free :=
  (congrArg (·.get e) h.1).trans (Tab.get_put_same ..)

/-- With the arbiter left alone, a step that closes changes the engine, its messages and the feed. -/
theorem State.frame_of_arb (hsh : t.shell = s.shell) (ha : t.arb = s.arb) :
    t = { s with engines := t.engines, outbox := t.outbox, feed := t.feed } := by
  have h := State.shell_frame hsh
  rwa [ha] at h

/-- R113: a verdict at an engine with an empty grant leaves the arbiter alone. -/
theorem State.reachVerdict_arb_of_empty (hg : (s.engine e).grant = []) (v : Verdict) :
    (s.reachVerdict e v).arb = s.arb := by
  rw [State.reachVerdict_of_empty hg, State.engineClose_arb]
  rfl

/-! ### Arming (R112, R128, R131, R149) -/

/-- R112: the engine as the first SET of its load step is sent at tick `now`. -/
def Engine.armedAt (en : Engine) (c : WorkingCopy) (now : Nat) : Engine :=
  { en with
    setSent := true
    detection := .armed
    tripFrom := if c.kind = .trip then some now else none }

theorem State.arms_of_copy (hc : (s.engine e).copy = some c) : s.arm e =
    let s1 := s.setEngine e ((s.engine e).armedAt c s.now)
    if (s.bay c.bay).indicator then s1.detect e .indicator s.now else s1 := by
  simp only [State.arm, hc]
  rfl

/-- R99: a detection at the tick at which detection is armed, by the kind of the step. -/
theorem State.detect_at_arming (hc : (s.engine e).copy = some c) :
    let s1 := s.setEngine e ((s.engine e).armedAt c s.now)
    let s2 := s1.modEngine e fun en => { en with detection := .made .indicator s.now }
    let t := s1.detect e .indicator s.now
    (∀ p, c.params = .hold p → t = s2.reachVerdict e ⟨.holdTripped, none, some .indicator⟩) ∧
    (∀ p, c.params = .derate p → t = s2.reachVerdict e ⟨.derateTripped, none, some .indicator⟩) ∧
    (∀ p k, c.kind = .trip → c.params = .trip p k →
      (0 < p.tMin → t = s2.reachVerdict e ⟨.tripEarly, some 0, some .indicator⟩) ∧
      (p.tMin = 0 → t = s2.passage e c k 0 .indicator)) := by
  intro s1 s2 t
  have hget : s1.engine e = (s.engine e).armedAt c s.now := s.engine_setEngine_same ..
  obtain ⟨hhold, hderate, htrip⟩ := s1.detect_armed e c .indicator s.now (by rw [hget]; rfl)
    (by rw [hget]; exact hc)
  refine ⟨hhold, hderate, fun p k hk hp => ?_⟩
  have hfrom : (s1.engine e).tripFrom = some s.now := by
    rw [hget]
    exact if_pos hk
  have ht := htrip p k s.now hp hfrom
  rw [Nat.sub_self, if_neg (Nat.not_lt_zero _)] at ht
  exact ⟨fun h₀ => ht.trans (if_pos h₀), fun h₀ => ht.trans (if_neg h₀.not_gt)⟩

/-- R131: a TRIP step whose copy names another kind has no window, so no detection is taken. -/
theorem State.detect_of_no_window {p : TripParams} {r : RestartParams}
    (hc : (s.engine e).copy = some c) (hk : c.kind ≠ .trip) (hp : c.params = .trip p r) :
    let s1 := s.setEngine e ((s.engine e).armedAt c s.now)
    s1.detect e .indicator s.now = s1 := by
  intro s1
  have hget : s1.engine e = (s.engine e).armedAt c s.now := s.engine_setEngine_same ..
  have hcopy : ((s.engine e).armedAt c s.now).copy = some c := hc
  have hfrom : ((s.engine e).armedAt c s.now).tripFrom = none := if_neg hk
  have hdet : ((s.engine e).armedAt c s.now).detection = .armed := rfl
  simp only [State.detect, hget, hcopy, hdet, hp, hfrom]

/-! ### A step level of 0 (R111) -/

/-- R111: the engine as it enters LOAD with an empty grant. -/
def Engine.loadedEmpty (en : Engine) (now : Nat) : Engine :=
  { en with phase := .load, watch := true, bankReq := .notMade, grant := [], granted := some now }

/-- R111: an engine that has made no bank request has made none afterwards. -/
theorem Engine.loadedEmpty_of_unasked {en : Engine} (h : en.bankReq = .notMade) (now : Nat) :
    en.loadedEmpty now = { en with phase := .load, watch := true, grant := [], granted := some now } := by
  rw [Engine.loadedEmpty, ← h]

theorem State.enterLoad_empty (hc : (s.engine e).copy = some c) : s.enterLoad e [] =
    let s1 := s.setEngine e ((s.engine e).loadedEmpty s.now)
    if (s.sense c.bay).sense ≠ .fresh then s1.takeStop e .senseLost
    else if ((s1.arm e).engine e).phase = .load then (s1.arm e).enterWatch e else s1.arm e := by
  simp only [State.enterLoad, hc]
  rfl

section level

variable (hc : (s.engine e).copy = some c) (hv : (s.engine e).verdict = none)
  (hs : (s.engine e).stop = none)
include hc

/-- R111, R149: with the bay FRESH and the indicator inactive the engine goes on to WATCH at once. -/
theorem State.enterLoad_empty_watches (hf : (s.sense c.bay).sense = .fresh)
    (hi : (s.bay c.bay).indicator = false) :
    s.enterLoad e [] = s.setEngine e { ((s.engine e).loadedEmpty s.now).armedAt c s.now with
      phase := .watch
      holdFrom := if c.kind = .hold then some s.now else (s.engine e).holdFrom
      settleFrom := if c.kind = .derate then some s.now else (s.engine e).settleFrom } := by
  let s1 := s.setEngine e ((s.engine e).loadedEmpty s.now)
  have hget : s1.engine e = (s.engine e).loadedEmpty s.now := s.engine_setEngine_same ..
  have harm : s1.arm e = s.setEngine e (((s.engine e).loadedEmpty s.now).armedAt c s.now) := by
    have hbay : (s1.bay c.bay).indicator = false := hi
    rw [State.arms_of_copy (by rw [hget]; exact hc), hget, hbay]
    exact congrArg (fun x => { s with engines := x }) (Tab.put_put ..)
  have hget2 := s.engine_setEngine_same e (((s.engine e).loadedEmpty s.now).armedAt c s.now)
  rw [State.enterLoad_empty hc, if_neg (not_not_intro hf)]
  show (if ((s1.arm e).engine e).phase = .load then (s1.arm e).enterWatch e else s1.arm e) = _
  rw [harm, hget2, if_pos (by rfl), State.enterWatch, State.modEngine, hget2]
  refine (congrArg (fun x => { s with engines := x }) (Tab.put_put ..)).trans ?_
  have hcopy : (((s.engine e).loadedEmpty s.now).armedAt c s.now).copy = some c := hc
  simp only [hcopy, Option.map_some, Option.some.injEq]
  rfl

include hv hs

/-- R98, R100: a bay that is not FRESH ends the step with SENSE_LOST (log 38). -/
theorem State.enterLoad_empty_stale (hf : (s.sense c.bay).sense ≠ .fresh) :
    let t := s.enterLoad e []
    s.Closes t e c .senseLost none none ∧ t.feed = s.feed.drop e ∧ t.arb = s.arb := by
  have hget := s.engine_setEngine_same e ((s.engine e).loadedEmpty s.now)
  obtain ⟨hcl, hrest⟩ := State.takeStop_empty_closes (why := .senseLost)
    (s := s.setEngine e ((s.engine e).loadedEmpty s.now)) (c := c) (by rw [hget]; exact hc)
    (by rw [hget]; exact hv) (by rw [hget]; exact hs) (by rw [hget]; exact .inl rfl)
    (by rw [hget]; rfl)
  rw [State.enterLoad_empty hc, if_pos hf]
  exact ⟨hcl.of_setEngine, hrest⟩

omit hv in
/-- R128, R131, R149: an indicator that is active already ends the step. -/
theorem State.enterLoad_empty_trips (hf : (s.sense c.bay).sense = .fresh)
    (hi : (s.bay c.bay).indicator = true) {v : Verdict}
    (hd : let s1 := s.setEngine e (((s.engine e).loadedEmpty s.now).armedAt c s.now)
      s1.detect e .indicator s.now = (s1.modEngine e fun en =>
        { en with detection := .made .indicator s.now }).reachVerdict e v) :
    let t := s.enterLoad e []
    s.Closes t e c v.outcome v.value v.cause ∧ t.feed = s.feed.drop e ∧ t.arb = s.arb := by
  let s1 := s.setEngine e ((s.engine e).loadedEmpty s.now)
  let s2 := s.setEngine e (((s.engine e).loadedEmpty s.now).armedAt c s.now)
  let s3 := s2.modEngine e fun en => { en with detection := .made .indicator s.now }
  have hget : s1.engine e = (s.engine e).loadedEmpty s.now := s.engine_setEngine_same ..
  have hget2 : s2.engine e = ((s.engine e).loadedEmpty s.now).armedAt c s.now :=
    s.engine_setEngine_same ..
  have hget3 : s3.engine e = { s2.engine e with detection := .made .indicator s.now } :=
    s2.engine_setEngine_same ..
  have harm : s1.arm e = s3.reachVerdict e v := by
    have hbay : (s1.bay c.bay).indicator = true := hi
    have hput : s1.setEngine e ((s1.engine e).armedAt c s.now) = s2 := by
      rw [hget]
      exact congrArg (fun x => { s with engines := x }) (Tab.put_put ..)
    rw [State.arms_of_copy (by rw [hget]; exact hc), hbay]
    exact (congrArg (State.detect · e .indicator s.now) hput).trans hd
  have hg : (s3.engine e).grant = [] := by rw [hget3, hget2]; rfl
  obtain ⟨hcl, hfeed⟩ := State.reachVerdict_closes (s := s3) (e := e) (c := c)
    (by rw [hget3, hget2]; exact hc) (by rw [hget3, hget2]; exact hs) hg v
  have hcls : s.Closes (s1.arm e) e c v.outcome v.value v.cause := by
    rw [harm]
    exact hcl.of_setEngine.of_setEngine
  have hwatch : s.enterLoad e [] = s1.arm e := by
    rw [State.enterLoad_empty hc, if_neg (not_not_intro hf)]
    exact if_neg (by rw [hcls.engine]; decide)
  dsimp only
  rw [hwatch]
  refine ⟨hcls, ?_, ?_⟩ <;> rw [harm]
  · exact hfeed
  · exact State.reachVerdict_arb_of_empty hg v

end level

end Sys2Proof.Machine
end

section
/-! The shares of a grant, the banks chosen, and the bank request that an admitted engine makes by itself. -/

namespace Sys2Proof.Machine

variable {s t : State} {e : EngineIx} {c : WorkingCopy}

/-! ### The engine that asks for banks (R111, log 37) -/

/-- R111: of the engines that have not asked for banks, the one admitted first does. -/
theorem State.bankAsker_of_first {pre post : List Reservation} {r : Reservation}
    (hr : s.feed.reservations = pre ++ r :: post)
    (hpre : ∀ y ∈ pre, s.asksBanks y.engine = false) (hask : s.asksBanks r.engine = true) :
    s.bankAsker = some r.engine := by
  have hnone : (pre.map (·.engine)).find? s.asksBanks = none :=
    List.find?_eq_none.mpr fun e he => by
      obtain ⟨y, hy, rfl⟩ := List.mem_map.mp he
      simp [hpre y hy]
  rw [State.bankAsker, hr, List.map_append, List.map_cons, List.find?_append, hnone,
    List.find?_cons_of_pos hask, Option.none_or]

theorem step_asksBanks (hp : s.pending = []) (hh : s.held = false) (he : s.bankAsker = some e) :
    step s = .next (s.feedRetest (s.askBanks e)) := by
  rw [step_of_empty hp]
  exact idle_of_ownWork hh (by simp only [State.ownWork, he])

theorem State.askBanks_zero (hc : (s.engine e).copy = some c) (hl : (s.engine e).stepLevel = 0) :
    s.askBanks e = s.enterLoad e [] := by
  simp only [State.askBanks, hc, hl, if_true]

theorem State.askBanks_request (hc : (s.engine e).copy = some c) (hl : (s.engine e).stepLevel ≠ 0) :
    s.askBanks e = s.bankRequest e c (s.engine e).stepLevel := by
  simp only [State.askBanks, hc, hl, if_false]

/-! ### The request at the arbiter (R162) -/

/-- R162: the entry with which an engine joins the bank wait list. -/
def State.bankEntry (s : State) (e : EngineIx) (c : WorkingCopy) (need : Nat) : BankWait :=
  ⟨e, need, c.priority, c.bay, s.arb.nextJoin⟩

/-- R162: the request stands in the wait list and has not been tested. -/
def State.bankJoined (s : State) (e : EngineIx) (c : WorkingCopy) (need : Nat) : State :=
  { s with
    engines := s.engines.put e { s.engine e with bankReq := .waiting }
    arb := { s.arb with
      waits := insertRanked BankWait.before (s.bankEntry e c need) s.arb.waits
      nextJoin := s.arb.nextJoin + 1 } }

theorem State.bankRequest_joins {need : Nat} (h : need ≤ s.totalOnline) :
    s.bankRequest e c need = (s.bankJoined e c need).bankTest := if_neg h.not_gt

/-- R162: a request that joins an ordered list leaves it ordered. -/
theorem State.WaitListsOrdered.bankJoined (h : s.WaitListsOrdered) (e : EngineIx)
    (c : WorkingCopy) (need : Nat) : (s.bankJoined e c need).WaitListsOrdered := by
  obtain ⟨hfeed, hbank⟩ := h
  exact ⟨hfeed, insertRanked_pairwise (before := BankWait.before)
    (fun _ _ => ranksBefore_asymm_of_age _ _ _ _ _ _)
    (fun _ _ _ => ranksBefore_trans_of_age _ _ _ _ _ _ _ _ _) _ hbank⟩

/-- R163: a request that is the only one and can be met is in service. -/
theorem State.bankJoined_serves {need : Nat} {b : BankIx} {bs : List BankIx}
    (hs : s.arb.service = none) (hw : s.arb.waits = [])
    (hch : s.chooseBanks need 0 s.idleBanks = some (b :: bs)) :
    let t := (s.bankJoined e c need).bankTest
    (∀ y, t.bank y =
      if y ∈ b :: bs then { s.bank y with state := .connecting } else s.bank y) ∧
    t = { s with
      engines := s.engines.put e { s.engine e with bankReq := .connecting }
      arb := { s.arb with
        roster := t.arb.roster
        nextJoin := s.arb.nextJoin + 1
        asked := s.arb.asked ++ [⟨b, .connect c.bay, false⟩]
        service := some ⟨e, need, c.bay, s.arb.nextJoin, b :: bs, .active⟩ } } := by
  have hwaits : (s.bankJoined e c need).arb.waits = [s.bankEntry e c need] :=
    congrArg (insertRanked BankWait.before (s.bankEntry e c need)) hw
  have hchosen := (State.chosen_congr (s := s) (t := s.bankJoined e c need) rfl rfl need).trans hch
  have htest := State.bankTest_of_met (s := s.bankJoined e c need)
    (w := s.bankEntry e c need) hs hwaits hchosen
  obtain ⟨hframe, -, harb, hbank⟩ := (s.bankJoined e c need).inService_spec (s.bankEntry e c need) [] b bs
  have heng : ((s.bankJoined e c need).inService (s.bankEntry e c need) [] b bs).engines =
      s.engines.put e { s.engine e with bankReq := .connecting } := by
    obtain ⟨ro, hfold, -⟩ := State.foldl_connecting (b :: bs)
      (((s.bankJoined e c need).setBankWaits []).setService
        (some ⟨e, need, c.bay, s.arb.nextJoin, b :: bs, .active⟩))
    simp only [State.inService, State.bankEntry, hfold]
    refine (Tab.put_put ..).trans (congrArg (s.engines.put e) ?_)
    exact congrArg (fun en : Engine => { en with bankReq := .connecting }) (s.engine_setEngine_same ..)
  rw [htest]
  refine ⟨hbank, ?_⟩
  generalize (s.bankJoined e c need).inService (s.bankEntry e c need) [] b bs = t at *
  rw [hframe, heng, harb, ← hw]
  rfl

/-- Settles O53: the shares by the sums of quotients, the choice by the order of the banks, and the request by the
step level, the total and the arbiter's test. -/
theorem sharesSumToTheNeed : Obligations.SharesSumToTheNeed := by
  refine ⟨fun need caps hne hpos hle => ?shares, fun s need => ?choice,
    fun s e c pre post r hp hh hr hre hpre hph hreq hc hv hs => ?request⟩
  case shares =>
    refine ⟨sharesOf_length .., sharesOf_sum hne hpos, (shareRest_lt hne hpos).2,
      fun n k hk => ⟨sharesOf_getElem? hk, fun h hh => ?_⟩, sharesOf_of_all hne hpos⟩
    rw [sharesOf_getElem? hk] at hh
    exact Option.some.inj hh ▸ share_le_cap hne hpos hle hk
  case choice =>
    intro cap
    refine ⟨fun banks hch => ?_, fun hch => ?_⟩
    · obtain ⟨⟨rest, hrest⟩, hneed, hmin⟩ := State.chooseBanks_spec hch
      have hord := s.idleBanks_pairwise
      rw [hrest] at hord
      obtain ⟨hbanks, -, hcross⟩ := List.pairwise_append.mp hord
      refine ⟨by simpa using hneed, fun b hb => ?_, hbanks, fun b k hb hk hin hidle => ?_,
        fun front last hl => by simpa using hmin front last hl⟩
      · obtain ⟨hin, hidle, hpos⟩ := State.mem_chosen hch hb
        exact ⟨hidle, hpos, hin⟩
      · obtain ⟨-, -, hpos⟩ := State.mem_chosen hch hb
        by_cases hkpos : 0 < cap k
        · have hmem : k ∈ banks ++ rest := hrest ▸ State.mem_idleBanks.mpr ⟨hin, hidle, hkpos⟩
          exact (hcross b hb k ((List.mem_append.mp hmem).resolve_left hk)).imp_right
            (And.imp_left Eq.symm)
        · exact .inl (Nat.lt_of_le_of_lt (Nat.le_of_not_lt hkpos) hpos)
    · have := State.chooseBanks_none hch
      rwa [Nat.zero_add, s.idleBanks_sum] at this
  case request =>
    subst hre
    intro need asked closed
    have hask : s.asksBanks r.engine = true := by simp [State.asksBanks, hph, hreq, hc]
    have hstep := step_asksBanks hp hh (State.bankAsker_of_first hr hpre hask)
    have closes {t : State} {o : StepOutcome} {value : Option Nat} {cause : Option DetectCause}
        (hw : s.feed.waits = []) (ht : s.askBanks r.engine = t)
        (h : s.Closes t r.engine c o value cause ∧ t.feed = s.feed.drop r.engine ∧ t.arb = s.arb) :
        closed o value cause := by
      obtain ⟨⟨heng, hout, hres⟩, hfeed, harb⟩ := h
      subst ht
      rw [State.feedRetest_of_waits _ s ((congrArg Feed.waits hfeed).trans hw)] at hstep
      exact ⟨_, hstep, heng, hout, hres, State.frame_of_arb (by simp) harb⟩
    refine ⟨fun h₀ hlt hw => ?_, fun h₀ hle hun => ?_, fun b bs h₀ hle hsv hbw hch => ?_,
      fun h₀ hf hi => ?_, fun h₀ hf hw => ?_, fun h₀ hf hi hw => ?_⟩
    · refine closes hw ((State.askBanks_request hc h₀).trans (if_pos hlt)) ?_
      exact State.takeStop_unasked_closes hc hv hs hph hreq
    · rw [State.askBanks_request hc h₀, State.bankRequest_joins hle] at hstep
      have hperm : (s.bankJoined r.engine c need).arb.waits.Perm (asked :: s.arb.waits) :=
        insertRanked_perm ..
      have htest : (s.bankJoined r.engine c need).bankTest = s.bankJoined r.engine c need :=
        State.bankTest_of_unmet (hun.imp_right fun h w hw => h w (hperm.mem_iff.mp hw))
      have hsame : s.feedRetest (s.bankJoined r.engine c need) = s.bankJoined r.engine c need :=
        State.feedRetest_of_feed rfl
      rw [htest, hsame] at hstep
      exact ⟨_, hstep, hperm, fun ho => ho.bankJoined .., rfl⟩
    · rw [State.askBanks_request hc h₀, State.bankRequest_joins hle] at hstep
      obtain ⟨hbank, hframe⟩ := State.bankJoined_serves (e := r.engine) (c := c) hsv hbw hch
      rw [State.feedRetest_of_feed (by rw [hframe])] at hstep
      exact ⟨_, hstep, hbank, hframe⟩
    · rw [State.askBanks_zero hc h₀, State.enterLoad_empty_watches hc hf hi,
        Engine.loadedEmpty_of_unasked hreq] at hstep
      exact hstep.trans (congrArg _ (State.feedRetest_of_feed rfl))
    · exact closes hw (State.askBanks_zero hc h₀) (State.enterLoad_empty_stale hc hv hs hf)
    · have hload := State.askBanks_zero hc h₀
      have hcopy : ((s.setEngine r.engine ((s.engine r.engine).loadedEmpty s.now)).engine r.engine).copy =
          some c := by rw [s.engine_setEngine_same]; exact hc
      obtain ⟨hhold, hderate, htrip⟩ := State.detect_at_arming hcopy
      rw [s.engine_setEngine_same] at hhold hderate htrip
      have hput (x : Engine) : (s.setEngine r.engine
          ((s.engine r.engine).loadedEmpty s.now)).setEngine r.engine x = s.setEngine r.engine x :=
        congrArg (fun t => { s with engines := t }) (Tab.put_put ..)
      rw [hput] at hhold hderate htrip
      exact ⟨fun p hk => closes hw hload (State.enterLoad_empty_trips hc hs hf hi (hhold p hk)),
        fun p hk => closes hw hload (State.enterLoad_empty_trips hc hs hf hi (hderate p hk)),
        fun p k hk hpk hmin =>
          closes hw hload (State.enterLoad_empty_trips hc hs hf hi ((htrip p k hk hpk).1 hmin))⟩

end Sys2Proof.Machine
end

section
/-! SUPPORT. The turns of the load link: the request that is sent, the exchange that is polled, and what a turn leaves
(R158, R159). -/

namespace Sys2Proof.Machine

variable {s : State} {unload : Bool} {seen : List BankIx} {pre post l : List Asked} {a : Asked}

/-! ### The request of the next turn (R159) -/

/-- R159: every request of a class that may be sent, by the queue `l`, is for a bank with an older request in
`seen`. -/
def State.BlockedBehind (s : State) (seen : List BankIx) (l : List Asked) (unload : Bool) : Prop :=
  ∀ pre x post, l = pre ++ x :: post → x.request.unload = unload → s.Eligible pre x → x.bank ∈ seen

theorem State.blockedBehind_nil
    (h : ∀ pre x post, l = pre ++ x :: post → x.request.unload = unload → ¬s.Eligible pre x) :
    s.BlockedBehind [] l unload := fun pre x post hl hu hx => absurd hx (h pre x post hl hu)

theorem State.BlockedBehind.cons (h : s.BlockedBehind seen (a :: l) unload) :
    ¬(a.request.unload = unload ∧ s.exchange a.bank = none ∧ a.bank ∉ seen) ∧
      s.BlockedBehind (a.bank :: seen) l unload := by
  refine ⟨fun ⟨hu, hx, hs⟩ => hs (h [] a l rfl hu ⟨hx, by simp⟩), fun pre x post hl hu hx => ?_⟩
  by_cases hb : a.bank = x.bank
  · exact hb ▸ List.mem_cons_self
  · obtain ⟨hx, hne⟩ := hx
    refine List.mem_cons_of_mem _ (h (a :: pre) x post (congrArg (a :: ·) hl) hu ⟨hx, ?_⟩)
    simpa [hb] using hne

theorem State.firstEligible_none (h : s.BlockedBehind seen l unload) :
    s.firstEligible unload seen l = none := by
  induction l generalizing seen with
  | nil => rfl
  | cons a as ih =>
    obtain ⟨hno, hrest⟩ := h.cons
    exact (if_neg hno).trans (ih hrest)

theorem State.firstEligible_some (hu : a.request.unload = unload) (ha : s.Eligible pre a)
    (hs : a.bank ∉ seen) (hb : s.BlockedBehind seen pre unload) :
    s.firstEligible unload seen (pre ++ a :: post) = some a := by
  induction pre generalizing seen with
  | nil => exact if_pos ⟨hu, ha.1, hs⟩
  | cons p pre ih =>
    obtain ⟨hx, hne⟩ := ha
    obtain ⟨hno, hrest⟩ := hb.cons
    refine (if_neg hno).trans (ih ⟨hx, fun y hy => hne y (.tail p hy)⟩ ?_ hrest)
    simp only [List.mem_cons, not_or]
    exact ⟨(hne p (.head pre)).symm, hs⟩

/-- R159 items 1 and 2: an unload-class request comes first, and a normal-class one when none may be sent. -/
theorem State.nextRequest_some (hl : s.arb.asked = pre ++ a :: post) (ha : s.Eligible pre a)
    (h : (a.request.unload = true ∧ s.BlockedBehind [] pre true) ∨
      (a.request.unload = false ∧ s.BlockedBehind [] s.arb.asked true ∧
        s.BlockedBehind [] pre false)) : s.nextRequest = some a := by
  unfold State.nextRequest
  obtain ⟨hu, hb⟩ | ⟨hu, hb, hb'⟩ := h
  · rw [hl, State.firstEligible_some hu ha (by simp) hb]
    rfl
  · rw [State.firstEligible_none hb, hl, State.firstEligible_some hu ha (by simp) hb']
    rfl

theorem State.nextRequest_none (h : s.BlockedBehind [] s.arb.asked true)
    (h' : s.BlockedBehind [] s.arb.asked false) : s.nextRequest = none := by
  rw [State.nextRequest, State.firstEligible_none h, State.firstEligible_none h']
  rfl

/-! ### The exchange of the next poll (R159) -/

/-- R159 item 3: the search for the exchange polled least recently, one address further. -/
def State.pollSearch (s : State) (best : Option (BankIx × Exchange)) (b : BankIx) :
    Option (BankIx × Exchange) :=
  match s.exchange b with
  | some x => lessRecent best b x
  | none => best

theorem State.nextPoll_eq (s : State) : s.nextPoll = s.addresses.foldl s.pollSearch none := rfl

theorem State.pollSearch_open {b : BankIx} {x : Exchange} (hx : s.exchange b = some x)
    (best : Option (BankIx × Exchange)) : s.pollSearch best b = lessRecent best b x := by
  simp only [State.pollSearch, hx]

theorem State.pollSearch_cases (s : State) (best : Option (BankIx × Exchange)) (b : BankIx) :
    s.pollSearch best b = best ∨ ∃ x, s.exchange b = some x ∧ s.pollSearch best b = some (b, x) ∧
      ∀ c y, best = some (c, y) → x.polled < y.polled := by
  unfold State.pollSearch
  cases hx : s.exchange b with
  | none => exact .inl rfl
  | some x =>
    cases best with
    | none => exact .inr ⟨x, rfl, rfl, by simp⟩
    | some p =>
      by_cases hlt : x.polled < p.2.polled
      · exact .inr ⟨x, rfl, if_pos hlt, fun c y h => by cases h; exact hlt⟩
      · exact .inl (if_neg hlt)

/-- The search finds nothing but exchanges that are open. -/
theorem State.pollSearch_found {P : BankIx × Exchange → Prop} {best : Option (BankIx × Exchange)}
    {l : List BankIx} (hb : ∀ p, best = some p → P p)
    (hl : ∀ c ∈ l, ∀ y, s.exchange c = some y → P (c, y)) :
    ∀ p, l.foldl s.pollSearch best = some p → P p := by
  induction l generalizing best with
  | nil => exact hb
  | cons c l ih =>
    refine ih ?_ fun d hd => hl d (.tail c hd)
    obtain h | ⟨x, hx, h, -⟩ := s.pollSearch_cases best c <;> rw [h]
    · exact hb
    · rintro p ⟨⟩
      exact hl c (.head l) x hx

/-- An exchange stays the one found while none is polled less recently. -/
theorem State.pollSearch_stays {b : BankIx} {x : Exchange} {l : List BankIx}
    (hl : ∀ c ∈ l, ∀ y, s.exchange c = some y → x.polled ≤ y.polled) :
    l.foldl s.pollSearch (some (b, x)) = some (b, x) := by
  induction l with
  | nil => rfl
  | cons c l ih =>
    have hc : s.pollSearch (some (b, x)) c = some (b, x) := by
      obtain h | ⟨y, hy, -, hlt⟩ := s.pollSearch_cases (some (b, x)) c
      · exact h
      · exact absurd (hlt b x rfl) (hl c (.head l) y hy).not_gt
    rw [List.foldl_cons, hc]
    exact ih fun d hd => hl d (.tail c hd)

/-- R159 item 3: the open exchange polled least recently, ties to the lower address. -/
theorem State.nextPoll_some {b : BankIx} {x : Exchange} (hb : b.val < s.straps.banks)
    (hx : s.exchange b = some x)
    (hleast : ∀ c y, c.val < s.straps.banks → c ≠ b → s.exchange c = some y →
      x.polled < y.polled ∨ (x.polled = y.polled ∧ b < c)) : s.nextPoll = some (b, x) := by
  obtain ⟨pre, post, hsplit⟩ := List.mem_iff_append.mp (State.mem_addresses.mpr hb)
  have hsorted : s.addresses.Pairwise (· < ·) := (List.sortedLT_finRange 8).pairwise.filter _
  rw [hsplit] at hsorted
  obtain ⟨-, hpost, hpre⟩ := List.pairwise_append.mp hsorted
  have hin : ∀ c ∈ pre ++ b :: post, c.val < s.straps.banks := fun c hc =>
    State.mem_addresses.mp (hsplit ▸ hc)
  have hearlier := State.pollSearch_found (s := s) (P := fun p => x.polled < p.2.polled)
    (best := none) (l := pre) (by simp) fun c hc y hy => by
      have hlt := hpre c hc b (.head post)
      exact (hleast c y (hin c (List.mem_append_left _ hc)) hlt.ne hy).resolve_right
        fun h => absurd h.2 hlt.not_gt
  have hstep : s.pollSearch (pre.foldl s.pollSearch none) b = some (b, x) := by
    rw [State.pollSearch_open hx]
    cases hbest : pre.foldl s.pollSearch none with
    | none => rfl
    | some p => exact if_pos (hearlier p hbest)
  rw [s.nextPoll_eq, hsplit, List.foldl_append, List.foldl_cons, hstep]
  refine State.pollSearch_stays fun c hc y hy => ?_
  have hlt := List.rel_of_pairwise_cons hpost hc
  have := hleast c y (hin c (List.mem_append_right _ (.tail b hc))) hlt.ne' hy
  omega

theorem State.nextPoll_none (h : ∀ b, b.val < s.straps.banks → s.exchange b = none) :
    s.nextPoll = none := by
  refine Option.eq_none_iff_forall_ne_some.mpr fun p hp => ?_
  exact State.pollSearch_found (s := s) (P := fun _ => False) (best := none) (by simp)
    (fun c hc y hy => by simp [h c (State.mem_addresses.mp hc)] at hy) p hp

/-! ### The turn (R158) -/

/-- R158: a turn is taken at the present tick, or at the next one when a turn stands. -/
theorem execLinkTurn_eq (hh : s.held = false) (ho : s.ownWork = none) :
    ∃ k, exec .linkTurn s = .next (s.atTime k none).takeTurn ∧ (s.arb.turn = none → k = s.now) ∧
      (s.arb.turn ≠ none → k = s.now + 1) := by
  cases ht : s.arb.turn with
  | none =>
    have hself : s.atTime s.now none = s := by rw [State.atTime, ← ht]
    refine ⟨s.now, congrArg Host.Outcome.next ((State.live_of_released hh).trans ?_), fun _ => rfl,
      fun hn => absurd rfl hn⟩
    simp only [ht, State.settled_of_ownWork ho, hself]
  | some u =>
    have hpass : s.atTick (s.now + 1) = s.atTime (s.now + 1) none := by
      rw [State.atTick_of_ownWork ho]
      exact if_pos s.now.lt_succ_self
    refine ⟨s.now + 1, congrArg Host.Outcome.next ((State.live_of_released hh).trans ?_), nofun,
      fun _ => rfl⟩
    simp only [ht, hpass]

/-- R205: the frame of a request, by its kind. -/
theorem requestFrameOf_eq (b : BankIx) (r : LinkRequest) : requestFrameOf b r =
    withCrc8 (byteOf b.val :: match r with
      | .identify => [0x01#8, 0x00#8, 0x00#8, 0x00#8]
      | .connect b => [0x02#8, 0x00#8, byteOf b.val, 0x00#8]
      | .set n => 0x03#8 :: (be16 n ++ [0x00#8])
      | .release => [0x04#8, 0x00#8, 0x00#8, 0x00#8]) := by
  cases r with
  | connect y =>
    have hy : y.val / 256 = 0 := Nat.div_eq_of_lt (y.isLt.trans (by decide))
    simp [requestFrameOf, LinkRequest.fields, be16, hy, byteOf]
  | _ => rfl

/-- R158: the machine after a request turn, before the turn is reported. -/
theorem State.sendRequest_eq (hl : s.arb.asked = pre ++ a :: post) (ha : s.Eligible pre a) :
    s.sendRequest a = { s with arb := { s.arb with
      asked := pre ++ post
      exchanges := s.arb.exchanges.put a.bank (some ⟨a.request, s.now, s.now⟩)
      turn := some ⟨a.bank, false, requestFrameOf a.bank a.request⟩ } } := by
  have hgone : s.arb.asked.eraseP (·.bank = a.bank) = pre ++ post := by
    rw [hl, List.eraseP_append_right _ fun y hy => by simpa using ha.2 y hy,
      List.eraseP_cons_of_pos (by simp)]
  unfold State.sendRequest
  rw [hgone]
  rfl

@[simp] theorem State.reportSent_shell (s : State) (a : Asked) :
    (s.reportSent a).shell = s.shell := by
  unfold State.reportSent
  split
  · split <;> simp
  · rfl

/-- R112: the first SET of a load step is reported to the engine that holds the bank. -/
theorem State.reportSent_first {e : EngineIx} (hl : a.load = true) (he : (s.bank a.bank).engine = some e)
    (hp : (s.engine e).phase = .load) (hs : (s.engine e).setSent = false) :
    s.reportSent a = s.feedRetest (s.arm e) := by
  simp only [State.reportSent, hl, he, hp, hs, and_self, if_true]

theorem State.reportSent_other (hl : a.load = false) : s.reportSent a = s := by
  simp only [State.reportSent, hl]

/-- R159: a request turn, from a state with no turn standing. -/
theorem State.takeTurn_sends (hl : s.arb.asked = pre ++ a :: post) (ha : s.Eligible pre a)
    (h : (a.request.unload = true ∧ s.BlockedBehind [] pre true) ∨
      (a.request.unload = false ∧ s.BlockedBehind [] s.arb.asked true ∧
        s.BlockedBehind [] pre false)) : s.takeTurn = (s.sendRequest a).reportSent a := by
  simp only [State.takeTurn, State.nextRequest_some hl ha h]

end Sys2Proof.Machine
end

section
/-! A turn of the load link: what it sends or polls, and what the first SET of a load step brings (R112, R158, R159). -/

namespace Sys2Proof.Machine

variable {s t : State} {e : EngineIx} {c : WorkingCopy} {a : Asked} {pre post : List Asked} {v : Verdict}

/-! ### The first SET of a load step (R112, R128, R131, R149) -/

/-- R113: an engine with banks whose step an active indicator ends at the first SET. -/
structure State.EndsAtFirstSet (s t : State) (e : EngineIx) (c : WorkingCopy) (v : Verdict) : Prop where
  phase : (t.engine e).phase = .unload
  watch : (t.engine e).watch = false
  copy : (t.engine e).copy = some c
  outbox : t.outbox = s.outbox
  verdict : (t.engine e).verdict = some v
  grant : (t.engine e).grant.map (·.bank) = (s.engine e).grant.map (·.bank)
  banks : ∀ g ∈ (s.engine e).grant, (t.bank g.bank).level = 0 ∧
    ((s.bank g.bank).level ≠ 0 → ⟨g.bank, .set 0, false⟩ ∈ t.arb.asked)
  engines : ∀ f, f ≠ e → t.engine f = s.engine f

/-- R112: the engine with detection armed and the active indicator recorded as a detection. -/
def State.detectedAtFirstSet (s : State) (e : EngineIx) (c : WorkingCopy) : State :=
  (s.setEngine e ((s.engine e).armedAt c s.now)).modEngine e fun en =>
    { en with detection := .made .indicator s.now }

theorem State.detectedAtFirstSet_engine (s : State) (e : EngineIx) (c : WorkingCopy) :
    (s.detectedAtFirstSet e c).engine e =
      { (s.engine e).armedAt c s.now with detection := .made .indicator s.now } := by
  refine (State.engine_setEngine_same ..).trans ?_
  rw [State.engine_setEngine_same]

theorem State.detectedAtFirstSet_engines (s : State) {e f : EngineIx} (c : WorkingCopy) (hf : f ≠ e) :
    (s.detectedAtFirstSet e c).engine f = s.engine f :=
  ((State.engine_modEngine ..).trans (if_neg hf)).trans ((State.engine_setEngine ..).trans (if_neg hf))

theorem State.endsAtFirstSet (hc : (s.engine e).copy = some c) (hg : (s.engine e).grant ≠ []) (v : Verdict) :
    let t := (s.detectedAtFirstSet e c).reachVerdict e v
    s.EndsAtFirstSet t e c v ∧ t.feed.waits = s.feed.waits := by
  have hget := s.detectedAtFirstSet_engine e c
  have hothers (f : EngineIx) (hf : f ≠ e) := s.detectedAtFirstSet_engines c hf
  obtain ⟨⟨hp, hw, hcp, hgr, hb, heng⟩, hv, hout, hwaits, -⟩ :=
    (s.detectedAtFirstSet e c).reachVerdict_unloads e v (by rw [hget]; exact hg)
  rw [hget] at hcp hgr hb
  refine ⟨⟨hp, hw, hcp.trans hc, hout, hv, hgr, fun g hm => ?_,
    fun f hf => (heng f hf).trans (hothers f hf)⟩, hwaits⟩
  obtain ⟨hlevel, hset⟩ := hb g hm
  exact ⟨hlevel, fun hn => hset hn (by simp [Engine.justGranted, Engine.armedAt])⟩

/-- R114: an engine whose TRIP step an active indicator passes at the first SET. -/
structure State.PassesAtFirstSet (s t : State) (e : EngineIx) (c : WorkingCopy) : Prop where
  phase : (t.engine e).phase = .watch
  verdict : (t.engine e).verdict = none
  copy : (t.engine e).copy = some { c with index := c.index + 1, kind := .restart }
  outbox : t.outbox = s.outbox.put e (s.outbox.get e ++
    [.passage c.handle c.index 0 .indicator c.attempt])
  engines : ∀ f, f ≠ e → t.engine f = s.engine f

/-- R114: a TRIP step whose least trip time is 0 passes at the first SET. -/
theorem State.passesAtFirstSet (hg : (s.engine e).grant ≠ []) (r : RestartParams) :
    let t := (s.detectedAtFirstSet e c).passage e c r 0 .indicator
    s.PassesAtFirstSet t e c ∧ t.feed = s.feed := by
  have hget := s.detectedAtFirstSet_engine e c
  have hothers (f : EngineIx) (hf : f ≠ e) := s.detectedAtFirstSet_engines c hf
  obtain ⟨heng, hrest, hfeed, hout, -⟩ :=
    (s.detectedAtFirstSet e c).passage_held e c r 0 .indicator (by rw [hget]; exact hg)
  exact ⟨⟨congrArg Engine.phase heng, congrArg Engine.verdict heng, congrArg Engine.copy heng, hout,
    fun f hf => (hrest f hf).trans (hothers f hf)⟩, hfeed⟩

/-- R99, R112: an engine with banks whose indicator is active at the first SET, by the kind of its step; no other
engine changes. -/
theorem State.detect_at_first_set (hc : (s.engine e).copy = some c) (hg : (s.engine e).grant ≠ [])
    (hw : s.feed.waits = [])
    (ht : t = s.feedRetest ((s.setEngine e ((s.engine e).armedAt c s.now)).detect e .indicator s.now)) :
    (∀ f, f ≠ e → t.engine f = s.engine f) ∧
    (∀ p, c.params = .hold p → s.EndsAtFirstSet t e c ⟨.holdTripped, none, some .indicator⟩) ∧
    (∀ p, c.params = .derate p → s.EndsAtFirstSet t e c ⟨.derateTripped, none, some .indicator⟩) ∧
    (∀ p k, c.kind = .trip → c.params = .trip p k →
      (0 < p.tMin → s.EndsAtFirstSet t e c ⟨.tripEarly, some 0, some .indicator⟩) ∧
      (p.tMin = 0 → (t.engine e).phase = .watch ∧ (t.engine e).verdict = none ∧
        (t.engine e).copy = some { c with index := c.index + 1, kind := .restart } ∧
        t.outbox = s.outbox.put e (s.outbox.get e ++
          [.passage c.handle c.index 0 .indicator c.attempt]))) := by
  subst ht
  obtain ⟨hhold, hderate, htrip⟩ := State.detect_at_arming hc
  generalize hd : (s.setEngine e ((s.engine e).armedAt c s.now)).detect e .indicator s.now = u at *
  have ends {v : Verdict} (hu : u = (s.detectedAtFirstSet e c).reachVerdict e v) :
      s.EndsAtFirstSet (s.feedRetest u) e c v := by
    obtain ⟨hend, hwaits⟩ := State.endsAtFirstSet hc hg v
    rw [hu, State.feedRetest_of_waits _ _ (hwaits.trans hw)]
    exact hend
  have passes {r : RestartParams} (hu : u = (s.detectedAtFirstSet e c).passage e c r 0 .indicator) :
      s.PassesAtFirstSet (s.feedRetest u) e c := by
    obtain ⟨hpass, hfeed⟩ := State.passesAtFirstSet (c := c) hg r
    rw [hu, State.feedRetest_of_feed hfeed]
    exact hpass
  refine ⟨?others, fun p hp => ends (hhold p hp), fun p hp => ends (hderate p hp),
    fun p k hk hp => ⟨fun hmin => ends ((htrip p k hk hp).1 hmin), fun hmin => ?_⟩⟩
  case others =>
    cases hp : c.params with
    | hold p => exact (ends (hhold p hp)).engines
    | derate p => exact (ends (hderate p hp)).engines
    | trip p k =>
      by_cases hk : c.kind = .trip
      · rcases Nat.eq_zero_or_pos p.tMin with hmin | hmin
        · exact (passes ((htrip p k hk hp).2 hmin)).engines
        · exact (ends ((htrip p k hk hp).1 hmin)).engines
      · have hkeep : u = s.setEngine e ((s.engine e).armedAt c s.now) :=
          hd.symm.trans (State.detect_of_no_window hc hk hp)
        have hfeed : u.feed = s.feed := by rw [hkeep]; rfl
        rw [State.feedRetest_of_feed hfeed, hkeep]
        exact fun f hf => (State.engine_setEngine ..).trans (if_neg hf)
  · have h := passes ((htrip p k hk hp).2 hmin)
    exact ⟨h.phase, h.verdict, h.copy, h.outbox⟩

/-! ### The turn -/

/-- R158: a request turn, from the tick at which it begins: the machine before the turn is reported. -/
def State.sentAt (s : State) (k : Nat) (a : Asked) (rest : List Asked) : State :=
  { s with now := k, arb := { s.arb with
    asked := rest
    exchanges := s.arb.exchanges.put a.bank (some ⟨a.request, k, k⟩)
    turn := some ⟨a.bank, false, requestFrameOf a.bank a.request⟩ } }

theorem State.exchange_put {b : BankIx} {x : Option Exchange}
    (h : t.arb.exchanges = s.arb.exchanges.put b x) :
    t.exchange b = x ∧ ∀ y, y ≠ b → t.exchange y = s.exchange y := by
  unfold State.exchange
  rw [h]
  exact ⟨Tab.get_put_same .., fun y hy => Tab.get_put_ne _ _ hy⟩

/-- R158, R159: what a request turn leaves, whatever it is reported as. -/
theorem execLinkTurn_sends (hh : s.held = false) (ho : s.ownWork = none)
    (hl : s.arb.asked = pre ++ a :: post) (ha : s.Eligible pre a)
    (h : (a.request.unload = true ∧ s.BlockedBehind [] pre true) ∨
      (a.request.unload = false ∧ s.BlockedBehind [] s.arb.asked true ∧
        s.BlockedBehind [] pre false)) :
    ∃ k, exec .linkTurn s = .next ((s.sentAt k a (pre ++ post)).reportSent a) ∧
      (s.arb.turn = none → k = s.now) ∧ (s.arb.turn ≠ none → k = s.now + 1) := by
  obtain ⟨k, hexec, hk⟩ := execLinkTurn_eq hh ho
  refine ⟨k, ?_, hk⟩
  rw [hexec, State.takeTurn_sends (s := s.atTime k none) hl ha h,
    State.sendRequest_eq (s := s.atTime k none) hl ha]
  rfl

/-- Settles O54: the request by the search of both classes, the poll by the search of the addresses, and the first SET
by the indicator and the kind of the step. -/
theorem linkTurnsFollowTheQueue : Obligations.LinkTurnsFollowTheQueue := by
  intro s hh ho timed blocked
  have behind {l : List Asked} {u : Bool} (h : blocked l u) : s.BlockedBehind [] l u :=
    State.blockedBehind_nil h
  refine ⟨fun pre a post hl ha hclass => ?sends, fun hu hn => ⟨fun b x hb hx hleast => ?polls,
    fun hnone => ?idles⟩⟩
  case sends =>
    obtain ⟨k, hexec, hk⟩ := execLinkTurn_sends hh ho hl ha
      (hclass.imp (fun h => ⟨h.1, behind h.2⟩) fun h => ⟨h.1, behind h.2.1, behind h.2.2⟩)
    let w := s.sentAt k a (pre ++ post)
    have hsh : (w.reportSent a).shell = w.shell := w.reportSent_shell a
    have hnow : (w.reportSent a).now = k := State.shell_now hsh
    obtain ⟨hsame, hothers⟩ := State.exchange_put (s := s) (b := a.bank)
      (x := some ⟨a.request, k, k⟩) (State.shell_exchanges hsh)
    have hturn : (w.reportSent a).arb.turn = w.arb.turn := State.shell_turn hsh
    refine ⟨_, hexec, ⟨fun hn => hnow.trans (hk.1 hn), fun hn => hnow.trans (hk.2 hn)⟩,
      by rw [hnow]; exact hsame, hothers, ?_, fun hload => ?_, fun e c hload he hp hs hc hi => ?_,
      fun e c hload he hp hs hc hg hi hw => ?_⟩
    · exact hturn.trans (congrArg (fun f => some (Turn.mk a.bank false f)) (requestFrameOf_eq ..))
    · rw [State.reportSent_other hload]
      exact ⟨rfl, rfl, rfl⟩
    · have hbay : (w.bay c.bay).indicator = false := hi
      have harm := State.arms_of_copy (s := w) hc
      rw [hbay] at harm
      have hrep := (State.reportSent_first (s := w) hload he hp hs).trans (congrArg w.feedRetest harm)
      rw [hrep.trans (State.feedRetest_of_feed (s := w) rfl)]
      exact ⟨rfl, rfl, rfl, rfl⟩
    · have hbay : (w.bay c.bay).indicator = true := hi
      have harm := State.arms_of_copy (s := w) hc
      rw [hbay] at harm
      have hrep := (State.reportSent_first (s := w) hload he hp hs).trans (congrArg w.feedRetest harm)
      obtain ⟨hrest, hhold, hderate, htrip⟩ := State.detect_at_first_set (s := w) hc hg hw hrep
      refine ⟨hrest, State.shell_store (s := w) hsh, State.shell_bays (s := w) hsh,
        State.shell_senses (s := w) hsh, ?_⟩
      intro ended
      have ends {o : StepOutcome} {value : Option Nat}
          (h : w.EndsAtFirstSet (w.reportSent a) e c ⟨o, value, some .indicator⟩) : ended o value :=
        ⟨h.phase, h.watch, h.copy, h.outbox, h.verdict, h.grant, h.banks⟩
      exact ⟨fun p hpp => ends (hhold p hpp), fun p hpp => ends (hderate p hpp),
        fun p k hk hpp => (htrip p k hk hpp).imp_left fun h hmin => ends (h hmin)⟩
  case polls =>
    obtain ⟨k, hexec, hk⟩ := execLinkTurn_eq hh ho
    have hpoll : (s.atTime k none).takeTurn = (s.atTime k none).poll b x := by
      simp only [State.takeTurn, State.nextRequest_none (s := s.atTime k none) (behind hu) (behind hn),
        State.nextPoll_some (s := s.atTime k none) hb hx hleast]
    rw [hpoll] at hexec
    obtain ⟨hsame, hothers⟩ := State.exchange_put (s := s) (t := (s.atTime k none).poll b x) (b := b)
      (x := some { x with polled := k }) rfl
    exact ⟨_, hexec, hk, hsame, hothers, rfl, rfl, rfl, rfl⟩
  case idles =>
    obtain ⟨k, hexec, hk⟩ := execLinkTurn_eq hh ho
    have hidle : (s.atTime k none).takeTurn = s.atTime k none := by
      simp only [State.takeTurn, State.nextRequest_none (s := s.atTime k none) (behind hu) (behind hn),
        State.nextPoll_none (s := s.atTime k none) hnone]
    rw [hidle] at hexec
    exact ⟨_, hexec, hk, rfl⟩

end Sys2Proof.Machine
end

section
/-! SUPPORT. Which replies of the load link are taken, and what the taking of one leaves (R160, R205, R206). -/

namespace Sys2Proof.Machine

variable {s t u : State} {b : BankIx} {x : Exchange} {k : ReplyKind} {bytes : List Byte}
  {v1 v0 m : Byte}

/-! ### Discarded replies -/

/-- R205: the command by which a reply frame of a kind reaches the controller. -/
def ReplyKind.command : ReplyKind → List Byte → Instr
  | .ident => .identReply
  | .ready => .readyReply
  | .level => .levelReply
  | .released => .releasedReply
  | .wait => .waitReply
  | .fault => .faultReply

theorem exists_replyCommand {c : Instr} (h : c ∈ [Instr.identReply bytes, .readyReply bytes,
    .levelReply bytes, .releasedReply bytes, .waitReply bytes, .faultReply bytes]) :
    ∃ k : ReplyKind, c = k.command bytes := by
  simp only [List.mem_cons, List.not_mem_nil, or_false] at h
  obtain rfl | rfl | rfl | rfl | rfl | rfl := h
  exacts [⟨.ident, rfl⟩, ⟨.ready, rfl⟩, ⟨.level, rfl⟩, ⟨.released, rfl⟩, ⟨.wait, rfl⟩, ⟨.fault, rfl⟩]

theorem State.live_of_unmoved {f : State → State} (h : f s = s) : s.live f = s := by
  unfold State.live
  split
  · rfl
  · exact h

/-- R160: a reply that is not taken changes nothing. -/
theorem exec_of_discarded (h : s.acceptReply k bytes = none) :
    exec (k.command bytes) s = .next s := by
  cases k <;> exact congrArg Host.Outcome.next (State.live_of_unmoved (by simp only [h]))

/-- R160, R205, R206: what a reply that is taken has passed. -/
theorem State.acceptReply_cases {y : Reply} (h : s.acceptReply k bytes = some y) :
    ∃ a kind v1 v0 m crc, bytes = [a, kind, v1, v0, m, crc] ∧ a.toNat = y.bank.val ∧
      s.exchange y.bank = some y.exchange ∧ crc8Ok bytes = true ∧ kind = k.byte ∧
      s.awaits y.bank = true ∧ k.answers y.exchange.request = true ∧ k.byte4Ok m = true := by
  unfold State.acceptReply at h
  split at h
  next a kind v1 v0 m crc =>
    split at h
    next hlt =>
      dsimp only at h
      split at h
      next x hx =>
        split at h
        next hok =>
          obtain ⟨hcrc, hkind, haw, hans, h4⟩ := hok
          cases h
          exact ⟨a, kind, v1, v0, m, crc, rfl, rfl, hx, hcrc, hkind, haw, hans, h4⟩
        next => cases h
      next => cases h
    next => cases h
  next => cases h

theorem State.awaits_of_no_turn (h : s.arb.turn = none) (b : BankIx) : s.awaits b = false := by
  simp only [State.awaits, h]

theorem byteOf_toNat_of_bank (b : BankIx) : (byteOf b.val).toNat = b.val := by
  have := b.isLt
  simp [byteOf]
  omega

/-- R158, R160: a reply of a bank that is not polled, or that has no exchange open. -/
theorem exec_of_unpolled {a kind : Byte}
    (h : ∀ b : BankIx, a.toNat = b.val → s.awaits b = false ∨ s.exchange b = none) :
    exec (k.command (withCrc8 [a, kind, v1, v0, m])) s = .next s := by
  refine exec_of_discarded (Option.eq_none_iff_forall_ne_some.mpr fun y hy => ?_)
  obtain ⟨a', kind', v1', v0', m', crc, hbytes, ha, hx, -, -, haw, -⟩ := State.acceptReply_cases hy
  obtain ⟨rfl, -⟩ := List.cons.inj hbytes
  obtain h | h := h y.bank ha
  · exact Bool.noConfusion (h.symm.trans haw)
  · exact Option.noConfusion rfl (heq_of_eq (h.symm.trans hx))

/-- R206: a reply of another kind, or that does not answer the open exchange by its kind or its byte 4. -/
theorem exec_of_unanswering {kind : Byte} (hx : s.exchange b = some x)
    (h : kind ≠ k.byte ∨ k.answers x.request = false ∨ k.byte4Ok m = false) :
    exec (k.command (withCrc8 [byteOf b.val, kind, v1, v0, m])) s = .next s := by
  refine exec_of_discarded (Option.eq_none_iff_forall_ne_some.mpr fun y hy => ?_)
  obtain ⟨a, kind', v1', v0', m', crc, hbytes, ha, hx', -, hkind, -, hans, h4⟩ :=
    State.acceptReply_cases hy
  simp only [withCrc8, List.cons_append, List.nil_append, List.cons.injEq] at hbytes
  obtain ⟨rfl, rfl, -, -, rfl, -⟩ := hbytes
  rw [byteOf_toNat_of_bank, Fin.val_inj] at ha
  subst ha
  obtain rfl : x = y.exchange := Option.some.inj (hx.symm.trans hx')
  rcases h with h | h | h
  · exact h hkind
  · exact Bool.noConfusion (h.symm.trans hans)
  · exact Bool.noConfusion (h.symm.trans h4)

/-! ### Replies that are taken -/

/-- R160, R206: a reply that answers the open exchange of the bank polled is taken. -/
theorem State.acceptReply_of_polled (hp : s.Polled b x) (ha : k.answers x.request = true)
    (h4 : k.byte4Ok m = true) : s.acceptReply k (withCrc8 [byteOf b.val, k.byte, v1, v0, m]) =
      some ⟨b, x, v1.toNat * 256 + v0.toNat, m⟩ := by
  obtain ⟨-, haw, hx⟩ := hp
  have hb := byteOf_toNat_of_bank b
  have hlt : (byteOf b.val).toNat < 8 := hb.trans_lt b.isLt
  have hbank : (⟨(byteOf b.val).toNat, hlt⟩ : BankIx) = b := Fin.ext hb
  have hcrc := crc8Ok_withCrc8 [byteOf b.val, k.byte, v1, v0, m]
  simp only [withCrc8, List.cons_append, List.nil_append] at hcrc ⊢
  simp only [State.acceptReply, hlt, hbank, hx, hcrc, haw, ha, h4, dif_pos, and_self, if_true]

/-- R158, R159: the turn in which a bank has been polled, with the poll over. -/
def State.turnOver (s : State) : Option Turn := s.arb.turn.map fun u => { u with awaiting := false }

theorem State.pollAnswered_of_awaits (h : s.awaits b = true) :
    s.pollAnswered b = s.setTurn s.turnOver := by
  unfold State.pollAnswered State.turnOver
  unfold State.awaits at h
  cases ht : s.arb.turn with
  | none => rfl
  | some u =>
    rw [ht] at h
    have hb : u.bank = b := by
      simp only [Bool.and_eq_true, decide_eq_true_eq] at h
      exact h.2
    simp [Turn.answered, hb]

/-- R159: the machine after a reply has closed its exchange. -/
def State.exchangeOver (s : State) (b : BankIx) : State :=
  { s with arb := { s.arb with exchanges := s.arb.exchanges.put b none, turn := s.turnOver } }

theorem State.closeExchange_of_polled (hp : s.Polled b x) : s.closeExchange b = s.exchangeOver b := by
  obtain ⟨-, haw, -⟩ := hp
  exact State.pollAnswered_of_awaits (s := s.setExchange b none) haw

/-- R159: what follows the closing of the exchange leaves the exchanges and the turn. -/
theorem State.exchangeClosed_of_shell (h : t.shell = (s.exchangeOver b).shell) : s.ExchangeClosed t b := by
  obtain ⟨hsame, hothers⟩ := State.exchange_put (s := s) (State.shell_exchanges (s := s.exchangeOver b) h)
  exact ⟨hsame, hothers, State.shell_turn (s := s.exchangeOver b) h⟩

theorem State.ExchangeClosed.of_arb (h : s.ExchangeClosed u b) (ha : t.arb = u.arb) :
    s.ExchangeClosed t b := by
  obtain ⟨hsame, hothers, hturn⟩ := h
  have hx (c : BankIx) : t.exchange c = u.exchange c := congrArg (·.exchanges.get c) ha
  exact ⟨(hx b).trans hsame, fun c hc => (hx c).trans (hothers c hc), by rw [ha, hturn]⟩

/-- Behind a change of the arbiter alone, equal shells leave all but the engines, their messages, the feed and the
arbiter. -/
theorem State.frame_of_arbOnly (hu : u = { s with arb := u.arb }) (h : t.shell = u.shell) :
    t = { s with arb := t.arb, engines := t.engines, outbox := t.outbox, feed := t.feed } := by
  have hf := State.shell_frame h
  rw [hu] at hf
  exact hf

/-- R160, log 37: a reply that is taken, with no own work waiting. -/
theorem State.onReply_of_polled (hp : s.Polled b x) (ho : s.ownWork = none)
    (ha : k.answers x.request = true) (h4 : k.byte4Ok m = true) (f : Reply → State → State) :
    s.onReply k (withCrc8 [byteOf b.val, k.byte, v1, v0, m]) f =
      f ⟨b, x, v1.toNat * 256 + v0.toNat, m⟩ (s.exchangeOver b) := by
  have hheld : s.held = false := hp.1
  refine (State.live_of_released hheld).trans ?_
  simp only [State.acceptReply_of_polled hp ha h4, State.settled_of_ownWork ho,
    State.closeExchange_of_polled hp]

/-! ### Sums of capabilities (R157, R163) -/

/-- R157: a sum over the banks in service reads the straps, the capabilities and the test alone. -/
theorem State.caps_sum_congr {p q : BankIx → Bool} (hs : t.straps = s.straps)
    (hc : ∀ y, (t.bank y).cap = (s.bank y).cap) (hpq : ∀ y, p y = q y) :
    ((t.addresses.filter p).map fun y => (t.bank y).cap).sum =
      ((s.addresses.filter q).map fun y => (s.bank y).cap).sum := by
  obtain rfl : p = q := funext hpq
  have haddr : t.addresses = s.addresses := by simp only [State.addresses, hs]
  rw [haddr]
  simp only [hc]

end Sys2Proof.Machine
end

section
/-! SUPPORT. What an engine that goes on by itself leaves: the other engines, the lists of the feed and of the arbiter,
and the banks that it does not hold (R113 to R116). -/

namespace Sys2Proof.Machine

variable {s t u : State} {e : EngineIx} {bs : List BankIx} {c : WorkingCopy}

/-- From `s` nothing has changed of the engines but `e`, of the banks but `bs`, and of the wait lists and the service
nothing. -/
structure State.OnlyEngine (s t : State) (e : EngineIx) (bs : List BankIx) : Prop where
  engines : ∀ f, f ≠ e → t.engine f = s.engine f
  feedWaits : t.feed.waits = s.feed.waits
  bankWaits : t.arb.waits = s.arb.waits
  service : t.arb.service = s.arb.service
  banks : ∀ b, b ∉ bs → t.bank b = s.bank b
  caps : ∀ b, (t.bank b).cap = (s.bank b).cap ∧ (t.bank b).fault = (s.bank b).fault

namespace State.OnlyEngine

theorem refl (s : State) (e : EngineIx) (bs : List BankIx) : s.OnlyEngine s e bs :=
  ⟨fun _ _ => rfl, rfl, rfl, rfl, fun _ _ => rfl, fun _ => ⟨rfl, rfl⟩⟩

theorem trans (h : s.OnlyEngine t e bs) (h' : t.OnlyEngine u e bs) : s.OnlyEngine u e bs :=
  ⟨fun f hf => (h'.engines f hf).trans (h.engines f hf), h'.feedWaits.trans h.feedWaits,
    h'.bankWaits.trans h.bankWaits, h'.service.trans h.service,
    fun b hb => (h'.banks b hb).trans (h.banks b hb),
    fun b => ⟨(h'.caps b).1.trans (h.caps b).1, (h'.caps b).2.trans (h.caps b).2⟩⟩

theorem setEngine (s : State) (e : EngineIx) (bs : List BankIx) (x : Engine) :
    s.OnlyEngine (s.setEngine e x) e bs :=
  ⟨fun f hf => (s.engine_setEngine e f x).trans (if_neg hf), rfl, rfl, rfl, fun _ _ => rfl,
    fun _ => ⟨rfl, rfl⟩⟩

theorem modEngine (s : State) (e : EngineIx) (bs : List BankIx) (f : Engine → Engine) :
    s.OnlyEngine (s.modEngine e f) e bs := setEngine s e bs _

theorem feedRelease (s : State) (e : EngineIx) (bs : List BankIx) :
    s.OnlyEngine (s.feedRelease e) e bs :=
  trans (t := s.setFeed (s.feed.drop e))
    ⟨fun _ _ => rfl, rfl, rfl, rfl, fun _ _ => rfl, fun _ => ⟨rfl, rfl⟩⟩ (modEngine ..)

theorem engineClose (s : State) (e : EngineIx) (bs : List BankIx) :
    s.OnlyEngine (s.engineClose e) e bs := by
  unfold State.engineClose
  dsimp only
  split
  · exact trans (setEngine s e bs Engine.free)
      ⟨fun _ _ => rfl, rfl, rfl, rfl, fun _ _ => rfl, fun _ => ⟨rfl, rfl⟩⟩
  · exact setEngine ..

theorem acquireExit (s : State) (e : EngineIx) (bs : List BankIx) :
    s.OnlyEngine (s.acquireExit e) e bs := (feedRelease s e bs).trans (engineClose ..)

/-- A roster entry of one of the banks, changed beside its capability and its fault, and a request asked. -/
theorem asked {b : BankIx} (hb : b ∈ bs) (a : Asked) {f : Bank → Bank}
    (hf : ∀ k, (f k).cap = k.cap ∧ (f k).fault = k.fault) :
    s.OnlyEngine ((s.modBank b f).ask a) e bs := by
  refine ⟨fun _ _ => rfl, rfl, rfl, rfl, fun y hy => ?_, fun y => ?_⟩
  · exact (s.bank_modBank b y f).trans (if_neg fun h : y = b => hy (h ▸ hb))
  · rw [show ((s.modBank b f).ask a).bank y = _ from s.bank_modBank b y f]
    split
    next h => subst h; exact hf _
    next => exact ⟨rfl, rfl⟩

theorem askSet {b : BankIx} (hb : b ∈ bs) (n : Nat) (load : Bool) :
    s.OnlyEngine (s.askSet b n load) e bs :=
  asked hb _ (f := fun k => { k with level := n }) fun _ => ⟨rfl, rfl⟩

theorem askRelease {b : BankIx} (hb : b ∈ bs) : s.OnlyEngine (s.askRelease b) e bs :=
  asked hb _ (f := fun k => { k with state := .releasing }) fun _ => ⟨rfl, rfl⟩

theorem foldl {f : State → GrantBank → State} {l : List GrantBank}
    (hl : ∀ g ∈ l, ∀ t : State, t.OnlyEngine (f t g) e bs) (s : State) :
    s.OnlyEngine (l.foldl f s) e bs := by
  induction l generalizing s with
  | nil => exact refl ..
  | cons g l ih => exact (hl g (.head l) s).trans (ih (fun g hg => hl g (.tail _ hg)) _)

theorem unloadAdvance (hb : ∀ g ∈ (s.engine e).grant, g.bank ∈ bs) :
    s.OnlyEngine (s.unloadAdvance e) e bs := by
  unfold State.unloadAdvance
  dsimp only
  split
  · exact refl ..
  split
  · split
    · exact engineClose ..
    · exact refl ..
  split
  · split
    · exact acquireExit ..
    · exact ((feedRelease s e bs).trans (foldl (fun g hg t => askRelease (hb g hg)) _)).trans
        (modEngine ..)
  · exact refl ..

theorem enterUnload (hb : ∀ g ∈ (s.engine e).grant, g.bank ∈ bs) :
    s.OnlyEngine (s.enterUnload e) e bs := by
  unfold State.enterUnload
  extract_lets en loaded s1 s2
  have h1 : s.OnlyEngine s1 e bs :=
    foldl (fun g hg t => askSet (hb g (List.mem_of_mem_filter hg)) ..) s
  have hengine : s1.engine e = s.engine e := by
    obtain ⟨heng, -⟩ := s.foldl_askSet (en.grant.filter fun g => loaded g) (fun _ => 0) false
    exact congrArg (·.get e) heng
  refine (h1.trans (modEngine s1 e bs _)).trans (unloadAdvance fun g hg => ?_)
  have hget : s2.engine e = _ := s1.engine_setEngine_same e _
  rw [hget, hengine] at hg
  obtain ⟨g', hg', rfl⟩ := List.mem_map.mp hg
  exact hb g' hg'

theorem reachVerdict (hb : ∀ g ∈ (s.engine e).grant, g.bank ∈ bs) (v : Verdict) :
    s.OnlyEngine (s.reachVerdict e v) e bs := by
  refine (modEngine s e bs _).trans (enterUnload fun g hg => hb g ?_)
  rwa [State.modEngine, State.engine_setEngine_same] at hg

theorem passageAdvance (s : State) (e : EngineIx) (bs : List BankIx) :
    s.OnlyEngine (s.passageAdvance e) e bs := by
  unfold State.passageAdvance
  dsimp only
  split
  · split
    · exact feedRelease ..
    · exact refl ..
  · exact refl ..

end State.OnlyEngine

/-! ### UNLOAD past its second stage (R115) -/

/-- R115: an engine that has asked RELEASE waits for its banks. -/
theorem State.unloadAdvance_waits (hr : (s.engine e).releasing = true) (hg : (s.engine e).grant ≠ []) :
    s.unloadAdvance e = s := by
  simp only [State.unloadAdvance, hr, hg, if_true, if_false, ite_self]

/-- R115: an engine that has asked RELEASE and holds no bank any more goes to CLOSE. -/
theorem State.unloadAdvance_closes (hp : (s.engine e).phase = .unload)
    (hr : (s.engine e).releasing = true) (hg : (s.engine e).grant = []) :
    s.unloadAdvance e = s.engineClose e := by
  simp [State.unloadAdvance, hp, hr, hg]

/-- R115: an engine that is not in UNLOAD does not go on. -/
theorem State.unloadAdvance_elsewhere (hp : (s.engine e).phase ≠ .unload) : s.unloadAdvance e = s :=
  if_pos hp

theorem State.engineClose_of_outcome {v : Verdict} {late : Bool} (hc : (s.engine e).copy = some c)
    (ho : (s.engine e).outcome = some (v, late)) : s.engineClose e = (s.setEngine e Engine.free).send e
      (.close c.handle c.index c.kind v.outcome v.value v.cause c.attempt late) := by
  simp only [State.engineClose, hc, ho]

theorem Engine.not_mem_dropBank {b : BankIx} (en : Engine) : b ∉ (en.dropBank b).grant.map (·.bank) := by
  simp [Engine.dropBank]

/-- R115, R160, R169: a bank that is gone is none of those that its engine may still release. -/
theorem State.OnlyEngine.bankGone (s : State) (e : EngineIx) (b : BankIx) :
    s.OnlyEngine (s.bankGone e b) e (((s.engine e).dropBank b).grant.map (·.bank)) := by
  refine (modEngine s e _ _).trans (unloadAdvance fun g hg => ?_)
  rw [State.modEngine, State.engine_setEngine_same] at hg
  exact List.mem_map_of_mem hg

/-- R115, R169: a bank leaves an engine that has asked its RELEASE and holds a verdict: the engine closes when it was
the last one, and goes on without it otherwise. -/
theorem State.bankGone_releasing {b : BankIx} {v : Verdict} (hp : (s.engine e).phase = .unload)
    (hr : (s.engine e).releasing = true) (hc : (s.engine e).copy = some c)
    (hv : (s.engine e).verdict = some v) (hs : (s.engine e).stop = none) :
    let t := s.bankGone e b
    t = { s with engines := t.engines, outbox := t.outbox } ∧
      ((∀ g ∈ (s.engine e).grant, g.bank = b) → t.engine e = Engine.free ∧
        t.outbox = s.outbox.put e (s.outbox.get e ++
          [.close c.handle c.index c.kind v.outcome v.value v.cause c.attempt false])) ∧
      ((∃ g ∈ (s.engine e).grant, g.bank ≠ b) → t.outbox = s.outbox ∧
        t.engine e = { s.engine e with grant := (s.engine e).grant.filter (·.bank ≠ b) }) := by
  let s1 := s.setEngine e ((s.engine e).dropBank b)
  have hget : s1.engine e = { s.engine e with grant := (s.engine e).grant.filter (·.bank ≠ b) } :=
    s.engine_setEngine_same ..
  have hgone : s.bankGone e b = s1.unloadAdvance e := rfl
  have hout : (s1.engine e).outcome = some (v, false) := by
    rw [hget]
    simp only [Engine.outcome, hv, hs]
  dsimp only
  rw [hgone]
  by_cases hg : (s1.engine e).grant = []
  · have hall : ∀ g ∈ (s.engine e).grant, g.bank = b := by
      rw [hget] at hg
      simpa using hg
    rw [State.unloadAdvance_closes (by rw [hget]; exact hp) (by rw [hget]; exact hr) hg,
      State.engineClose_of_outcome (by rw [hget]; exact hc) hout]
    refine ⟨rfl, fun _ => ⟨s1.engine_setEngine_same .., rfl⟩, fun ⟨g, hm, hn⟩ => absurd (hall g hm) hn⟩
  · rw [State.unloadAdvance_waits (by rw [hget]; exact hr) hg]
    refine ⟨rfl, fun hall => absurd ?_ hg, fun _ => ⟨rfl, hget⟩⟩
    rw [hget]
    simpa using hall

/-! ### A grant (R98, R112, R167) -/

/-- R167: the banks and the shares of a grant, in grant order. -/
theorem State.grantOf_maps (s : State) (v : Service) :
    (s.grantOf v).map (·.bank) = v.chosen ∧
      (s.grantOf v).map (·.share) = sharesOf v.need (v.chosen.map fun b => (s.bank b).cap) := by
  have hlen : (v.chosen.zip (v.chosen.map fun b => (s.bank b).cap)).length = v.chosen.length := by simp
  unfold State.grantOf
  dsimp only
  rw [List.map_map, List.map_map]
  refine ⟨?_, ?_⟩
  · have hcomp : ((fun g : GrantBank => g.bank) ∘ fun p : (BankIx × Nat) × Nat =>
        ⟨p.1.1, p.1.2, p.2, false, 0, false⟩) = Prod.fst ∘ Prod.fst := rfl
    rw [hcomp, ← List.map_map, List.map_fst_zip (by simp), List.map_fst_zip (by simp)]
  · exact List.map_snd_zip (by simp)

/-- R112: the engine in LOAD with the banks of its grant, a SET asked of each. -/
theorem State.enterLoad_asks {grant : List GrantBank} (hc : (s.engine e).copy = some c)
    (hf : (s.sense c.bay).sense = .fresh) (hg : grant ≠ []) :
    let t := s.enterLoad e grant
    t.engine e = { s.engine e with
        phase := .load, watch := true, bankReq := .granted, granted := some s.now
        grant := grant.map fun g => { g with load := true, zeros := if g.share = 0 then 1 else 0 } } ∧
      t.feed = s.feed ∧ t.arb.service = s.arb.service ∧
      t.arb.asked = s.arb.asked ++ grant.map fun g => ⟨g.bank, .set g.share, true⟩ := by
  let s1 := s.setEngine e { s.engine e with
    phase := .load, watch := true, bankReq := .granted, granted := some s.now, grant := grant }
  have hload : s.enterLoad e grant = (grant.foldl (fun t g => t.askSet g.bank g.share true) s1).modEngine e
      fun en => { en with grant := en.grant.map fun g =>
        { g with load := true, zeros := if g.share = 0 then 1 else 0 } } := by
    simp only [State.enterLoad, hc, hf, hg, ne_eq, not_true, if_false]
    rfl
  obtain ⟨heng, -, hfeed, hserv, -, -, hasked⟩ := s1.foldl_askSet grant (·.share) true
  dsimp only
  rw [hload]
  refine ⟨?_, hfeed, hserv, hasked⟩
  refine (State.engine_setEngine_same ..).trans ?_
  rw [show State.engine (grant.foldl (fun t g => t.askSet g.bank g.share true) s1) e = s1.engine e from
    congrArg (·.get e) heng, s.engine_setEngine_same]

end Sys2Proof.Machine
end

section
/-! The replies IDENT, READY, WAIT and RELEASED of a bank (R158, R161, R164 to R167, R169). -/

namespace Sys2Proof.Machine

variable {s t : State} {b : BankIx} {x : Exchange} {v1 v0 : Byte} {v : Service}

/-! ### READY of the request in service (R164, R167) -/

/-- R164: the roster entry of a bank that READY has connected. -/
def Bank.connectedFor (k : Bank) (v : Service) : Bank :=
  { k with state := .connected, bay := some v.bay, engine := some v.engine, level := 0 }

/-- R164: the next bank to connect is looked for among the others. -/
theorem State.nextConnect_of_ready (s : State) (v : Service) (b : BankIx) :
    (s.modBank b (·.connectedFor v)).nextConnect v =
      v.chosen.find? fun c => c ≠ b && (s.bank c).state = .connecting := by
  unfold State.nextConnect
  refine congrArg (List.find? · v.chosen) (funext fun c => ?_)
  rw [State.bank_modBank]
  by_cases hc : c = b <;> simp [hc, Bank.connectedFor]

theorem State.readyActive_next {c : BankIx}
    (h : v.chosen.find? (fun c => c ≠ b && (s.bank c).state = .connecting) = some c) :
    s.readyActive v b = (s.modBank b (·.connectedFor v)).ask ⟨c, .connect v.bay, false⟩ := by
  have hn := (s.nextConnect_of_ready v b).trans h
  simp only [Bank.connectedFor] at hn
  simp only [State.readyActive, hn]
  rfl

/-- R164: with no other bank to connect the grant is complete, and the arbiter's test comes first (log 19). -/
theorem State.readyActive_last (h : ∀ c ∈ v.chosen, c ≠ b → (s.bank c).state ≠ .connecting) :
    s.readyActive v b =
      let s1 := s.modBank b (·.connectedFor v)
      s1.feedRetest ((s1.setService none).bankTest.enterLoad v.engine (s1.grantOf v)) := by
  have hn := s.nextConnect_of_ready v b
  rw [List.find?_eq_none.mpr fun c hc => by simpa using h c hc] at hn
  simp only [Bank.connectedFor] at hn
  simp only [State.readyActive, hn]
  rfl

theorem State.readyActive_shell (s : State) (v : Service) (b : BankIx) :
    (s.readyActive v b).shell = s.shell := by
  unfold State.readyActive
  dsimp only
  split <;> simp

/-- R164, R167: the engine of a complete grant is in LOAD, and a SET is asked of each bank for its share. -/
theorem State.readyActive_grants {k : WorkingCopy}
    (h : ∀ c ∈ v.chosen, c ≠ b → (s.bank c).state ≠ .connecting) (hb : b ∈ v.chosen)
    (hw : s.arb.waits = []) (hc : (s.engine v.engine).copy = some k)
    (hf : (s.sense k.bay).sense = .fresh) :
    let t := s.readyActive v b
    let shares := State.sharesOf v.need (v.chosen.map fun c => (s.bank c).cap)
    t.arb.service = none ∧ t.feed = s.feed ∧ (t.engine v.engine).phase = .load ∧
      (t.engine v.engine).watch = true ∧ (t.engine v.engine).bankReq = .granted ∧
      (t.engine v.engine).granted = some s.now ∧ (t.engine v.engine).grant.map (·.bank) = v.chosen ∧
      (t.engine v.engine).grant.map (·.share) = shares ∧
      (∀ g ∈ (t.engine v.engine).grant, g.load = true) ∧
      t.arb.asked = s.arb.asked ++ (v.chosen.zip shares).map fun p => ⟨p.1, .set p.2, true⟩ := by
  let s1 := s.modBank b (·.connectedFor v)
  have hcap : ∀ c, (s1.bank c).cap = (s.bank c).cap := fun c => by
    rw [show s1.bank c = _ from s.bank_modBank b c _]
    split
    next hcb => subst hcb; rfl
    next => rfl
  obtain ⟨hbanks, hshares⟩ := s1.grantOf_maps v
  simp only [hcap] at hshares
  have hne : s1.grantOf v ≠ [] := fun hn => by
    rw [hn] at hbanks
    exact List.ne_nil_of_mem hb hbanks.symm
  have htest : (s1.setService none).bankTest = s1.setService none := State.bankTest_of_waits hw
  obtain ⟨heng, hfeed, hserv, hasked⟩ := State.enterLoad_asks (s := s1.setService none) hc hf hne
  rw [State.readyActive_last h]
  dsimp only
  rw [htest, State.feedRetest_of_feed (s := s1) hfeed]
  refine ⟨hserv, hfeed, congrArg Engine.phase heng, congrArg Engine.watch heng,
    congrArg Engine.bankReq heng, congrArg Engine.granted heng, ?_, ?_, fun g hg => ?_, hasked.trans ?_⟩
  · rw [heng, ← hbanks, List.map_map]
    rfl
  · rw [heng, ← hshares, List.map_map]
    rfl
  · rw [heng] at hg
    obtain ⟨g', -, rfl⟩ := List.mem_map.mp hg
    rfl
  · rw [← hshares, ← hbanks, List.zip_map', List.map_map]
    rfl

/-! ### READY of a service that has failed or been withdrawn (R165, R166) -/

/-- R165: the bank of a late READY is RELEASING, its RELEASE is asked, and no request is in service. -/
def State.releasedLate (s : State) (v : Service) (b : BankIx) : State :=
  ((s.modBank b fun k =>
    { k with state := .releasing, bay := some v.bay, engine := none, level := 0 }).ask
      ⟨b, .release, false⟩).setService none

theorem State.releasedLate_bank (s : State) (v : Service) (b c : BankIx) : (s.releasedLate v b).bank c =
    if c = b then { s.bank b with state := .releasing, bay := some v.bay, engine := none, level := 0 }
    else s.bank c := s.bank_modBank b c fun k =>
      { k with state := .releasing, bay := some v.bay, engine := none, level := 0 }

theorem State.serviceDrained_failed (h : v.status = .failed) :
    s.serviceDrained v = (s.setService none).bankTest := by
  simp only [State.serviceDrained, h]

theorem State.serviceDrained_withdrawn (h : v.status = .withdrawn) : s.serviceDrained v =
    State.feedRetest (s.setService none) ((s.setService none).withdrawComplete v.engine) := by
  simp only [State.serviceDrained, h]

/-- R165, R166: the last CONNECT of a service that is over has been answered, with no request that the IDLE banks
could meet. -/
theorem State.readyLate_eq (hk : (s.bank b).state = .connecting) (hfw : s.feed.waits = []) (hw : ∀ w ∈ s.arb.waits,
      ((s.addresses.filter fun c => (s.bank c).state = .idle).map fun c => (s.bank c).cap).sum < w.need) :
    (v.status = .failed → s.readyLate v b = s.releasedLate v b) ∧
      (v.status = .withdrawn → s.readyLate v b = (s.releasedLate v b).acquireExit v.engine) := by
  let u := s.releasedLate v b
  have hlate : s.readyLate v b = ((s.modBank b fun k =>
      { k with state := .releasing, bay := some v.bay, engine := none, level := 0 }).ask
        ⟨b, .release, false⟩).serviceDrained v := by
    unfold State.readyLate State.askOwnRelease
    rw [State.modBank_modBank]
  have hsum : ∀ w ∈ u.arb.waits, ((u.addresses.filter fun c => (u.bank c).state = .idle).map
      fun c => (u.bank c).cap).sum < w.need := fun w hm => by
    rw [State.caps_sum_congr (t := u) (s := s) (q := fun c => (s.bank c).state = .idle) rfl]
    · exact hw w hm
    all_goals
      intro c
      rw [State.releasedLate_bank]
      split
      next hcb => subst hcb; simp [hk]
      next => rfl
  have htest : u.bankTest = u := State.bankTest_of_unmet (.inr hsum)
  refine ⟨fun hst => ?_, fun hst => ?_⟩
  · rw [hlate, State.serviceDrained_failed hst]
    exact htest
  · have harb : (u.acquireExit v.engine).arb = u.arb := State.acquireExit_arb ..
    have hexit : (u.acquireExit v.engine).bankTest = u.acquireExit v.engine := by
      refine State.bankTest_of_unmet (.inr fun w hm => ?_)
      have hst' : (u.acquireExit v.engine).straps = u.straps := State.shell_straps (by simp)
      have hbank (c : BankIx) : (u.acquireExit v.engine).bank c = u.bank c :=
        congrArg (·.roster.get c) harb
      rw [State.caps_sum_congr (t := u.acquireExit v.engine) (s := u) (q := fun c => (u.bank c).state = .idle) hst'
        (fun c => by rw [hbank]) fun c => by rw [hbank]]
      exact hsum w (harb ▸ hm)
    have hwaits : (u.acquireExit v.engine).feed.waits = [] := by
      rw [State.acquireExit_feed]
      exact hfw
    rw [hlate, State.serviceDrained_withdrawn hst]
    show State.feedRetest u (u.acquireExit v.engine).bankTest = _
    rw [hexit, State.feedRetest_of_waits _ _ hwaits]

/-- R165, R166: what a late READY leaves; the engine of a service that has been withdrawn closes with its stop cause. -/
theorem State.readyLate_exchangeOver (hst : v.status ≠ .active) (hk : (s.bank b).state = .connecting)
    (hfw : s.feed.waits = []) (hw : ∀ w ∈ s.arb.waits,
      ((s.addresses.filter fun c => (s.bank c).state = .idle).map fun c => (s.bank c).cap).sum < w.need) :
    let t := (s.exchangeOver b).readyLate v b
    s.ExchangeClosed t b ∧ t.arb.service = none ∧ t.arb.waits = s.arb.waits ∧
      t.arb.asked = s.arb.asked ++ [⟨b, .release, false⟩] ∧
      t.bank b = { s.bank b with state := .releasing, bay := some v.bay, engine := none, level := 0 } ∧
      (∀ c, c ≠ b → t.bank c = s.bank c) ∧ (v.status = .failed → t = { s with arb := t.arb }) ∧
      (∀ k why, v.status = .withdrawn → (s.engine v.engine).copy = some k →
        (s.engine v.engine).stop = some why → (s.engine v.engine).verdict = none →
        t.engines = s.engines.put v.engine Engine.free ∧
        t.outbox = s.outbox.put v.engine (s.outbox.get v.engine ++
          [.close k.handle k.index k.kind why.outcome none none k.attempt false]) ∧
        t.feed.reservations = s.feed.reservations.filter (·.engine ≠ v.engine) ∧
        t = { s with arb := t.arb, engines := t.engines, outbox := t.outbox, feed := t.feed }) := by
  obtain ⟨hfail, hdraw⟩ := State.readyLate_eq (s := s.exchangeOver b) (v := v) hk hfw hw
  have hbank := (s.exchangeOver b).releasedLate_bank v b
  have hw' : (s.exchangeOver b).releasedLate v b =
    { s with arb := ((s.exchangeOver b).releasedLate v b).arb } := rfl
  have hwaits : ((s.exchangeOver b).releasedLate v b).arb.waits = s.arb.waits := rfl
  have hasked : ((s.exchangeOver b).releasedLate v b).arb.asked =
    s.arb.asked ++ [⟨b, .release, false⟩] := rfl
  have hclosed : s.ExchangeClosed ((s.exchangeOver b).releasedLate v b) b :=
    State.exchangeClosed_of_shell rfl
  have hnone : ((s.exchangeOver b).releasedLate v b).arb.service = none := rfl
  generalize (s.exchangeOver b).releasedLate v b = w at *
  have harb : ((s.exchangeOver b).readyLate v b).arb = w.arb := by
    cases hv : v.status with
    | active => exact absurd hv hst
    | failed => rw [hfail hv]
    | withdrawn => rw [hdraw hv, State.acquireExit_arb]
  have hgot (c : BankIx) : ((s.exchangeOver b).readyLate v b).bank c = w.bank c :=
    congrArg (·.roster.get c) harb
  dsimp only
  refine ⟨hclosed.of_arb harb, by rw [harb, hnone], by rw [harb, hwaits], by rw [harb, hasked],
    (hgot b).trans ((hbank b).trans (if_pos rfl)),
    fun c hc => (hgot c).trans ((hbank c).trans (if_neg hc)), fun hv => ?_, fun k why hv hc hs hn => ?_⟩
  · rw [hfail hv]
    exact hw'
  · have hengines : w.engines = s.engines := by rw [hw']
    have hstop : s.Stopping w v.engine k why :=
      ⟨⟨s.engine v.engine, hengines.trans (Tab.put_get_self ..).symm, hc, hn, hs⟩, by rw [hw']⟩
    obtain ⟨⟨heng, hout, hres⟩, -⟩ := hstop.acquireExit (by rw [hw'])
    rw [hdraw hv]
    exact ⟨heng, hout, hres, State.frame_of_arbOnly hw' (w.acquireExit_shell v.engine)⟩

/-! ### RELEASED (R169) -/

/-- R169: the machine when a bank has been released, before the report. -/
def State.bankFreed (s : State) (b : BankIx) : State := (s.exchangeOver b).modBank b Bank.released

theorem State.bankFreed_bank (s : State) (b c : BankIx) :
    (s.bankFreed b).bank c = if c = b then (s.bank b).released else s.bank c :=
  (s.exchangeOver b).bank_modBank b c Bank.released

/-- R115, R169: what RELEASED leaves, by the engine that asked the release, if one did. -/
theorem State.released_spec (b : BankIx) (hw : s.arb.waits = []) :
    let t := ((s.bankFreed b).releasedReport (s.bank b).engine b).bankTest
    s.ExchangeClosed t b ∧ t.bank b =
        { s.bank b with state := .idle, bay := none, engine := none, level := 0 } ∧
      ((s.bank b).engine = none → t = { s with arb := t.arb } ∧
        (∀ c, c ≠ b → t.bank c = s.bank c)) ∧
      (∀ e c v, (s.bank b).engine = some e → (s.engine e).phase = .unload →
        (s.engine e).releasing = true → (s.engine e).copy = some c →
        (s.engine e).verdict = some v → (s.engine e).stop = none →
        (∀ f, f ≠ e → t.engine f = s.engine f) ∧ (∀ c, c ≠ b → t.bank c = s.bank c) ∧
        ((∀ g ∈ (s.engine e).grant, g.bank = b) → t.engine e = Engine.free ∧
          t.outbox = s.outbox.put e (s.outbox.get e ++
            [.close c.handle c.index c.kind v.outcome v.value v.cause c.attempt false])) ∧
        ((∃ g ∈ (s.engine e).grant, g.bank ≠ b) → t.outbox = s.outbox ∧
          t.engine e = { s.engine e with grant := (s.engine e).grant.filter (·.bank ≠ b) })) := by
  have hfreed := s.bankFreed_bank b
  cases he : (s.bank b).engine with
  | none =>
    have htest : ((s.bankFreed b).releasedReport none b).bankTest = s.bankFreed b :=
      State.bankTest_of_waits hw
    dsimp only
    rw [htest]
    exact ⟨State.exchangeClosed_of_shell rfl, (hfreed b).trans (if_pos rfl),
      fun _ => ⟨rfl, fun c hc => (hfreed c).trans (if_neg hc)⟩,
      fun _ _ _ h => absurd h (Option.some_ne_none _).symm⟩
  | some e =>
    have hfree : s.bankFreed b = { s with arb := (s.bankFreed b).arb } := rfl
    have hwaits : (s.bankFreed b).arb.waits = [] := hw
    have hshell : (s.bankFreed b).shell = (s.exchangeOver b).shell := rfl
    generalize s.bankFreed b = u at *
    have hengine (f : EngineIx) : u.engine f = s.engine f := by rw [hfree]; rfl
    have hout : u.outbox = s.outbox := by rw [hfree]
    have honly := State.OnlyEngine.bankGone u e b
    have htest : (u.releasedReport (some e) b).bankTest = u.bankGone e b :=
      State.bankTest_of_waits (honly.bankWaits.trans hwaits)
    have hsh : (u.bankGone e b).shell = (s.exchangeOver b).shell := by
      unfold State.bankGone
      simp [hshell]
    dsimp only
    rw [htest]
    refine ⟨State.exchangeClosed_of_shell hsh, ?_,
      fun h => absurd h (Option.some_ne_none _), fun e' c v hee hp hrel hc hv hs => ?_⟩
    · exact (honly.banks b (Engine.not_mem_dropBank _)).trans ((hfreed b).trans (if_pos rfl))
    · obtain rfl : e = e' := Option.some.inj hee
      rw [← hengine] at hp hrel hc hv hs
      obtain ⟨hframe, hlast, hmore⟩ := State.bankGone_releasing (b := b) hp hrel hc hv hs
      have hbank (y : BankIx) : (u.bankGone e b).bank y = u.bank y := by rw [hframe]; rfl
      rw [← hout, ← hengine e]
      exact ⟨fun f hf => (honly.engines f hf).trans (hengine f),
        fun y hy => (hbank y).trans ((hfreed y).trans (if_neg hy)), hlast, hmore⟩

/-! ### The replies -/

theorem execIdentReply_of_polled (hp : s.Polled b x) (ho : s.ownWork = none) (hr : x.request = .identify)
    (hw : s.arb.waits = [] ∨ s.arb.service ≠ none) :
    exec (.identReply (withCrc8 [byteOf b.val, 0x81#8, v1, v0, 0x00#8])) s =
      .next (if (s.bank b).state = .offline
        then (s.exchangeOver b).setBank b (Bank.identified (v1.toNat * 256 + v0.toNat))
        else s.exchangeOver b) := by
  have htest : ((s.exchangeOver b).setBank b (Bank.identified (v1.toNat * 256 + v0.toNat))).bankTest =
      (s.exchangeOver b).setBank b (Bank.identified (v1.toNat * 256 + v0.toNat)) :=
    State.bankTest_of_unmet (hw.symm.imp_right fun h w hm => by
      rw [show State.arb _ = _ from rfl] at hm
      simp [State.exchangeOver, h] at hm)
  rw [← htest]
  exact congrArg Host.Outcome.next (State.onReply_of_polled (k := .ident) hp ho (by rw [hr]; rfl) rfl _)

theorem execReadyReply_of_polled {y : BayIx} (hp : s.Polled b x) (ho : s.ownWork = none)
    (hr : x.request = .connect y) (hsv : s.arb.service = some v) (hb : b ∈ v.chosen)
    (hk : (s.bank b).state = .connecting) :
    exec (.readyReply (withCrc8 [byteOf b.val, 0x82#8, v1, v0, 0x00#8])) s =
      .next (if v.status = .active then (s.exchangeOver b).readyActive v b
        else (s.exchangeOver b).readyLate v b) := by
  refine (congrArg Host.Outcome.next
    (State.onReply_of_polled (k := .ready) hp ho (by rw [hr]; rfl) rfl _)).trans (congrArg _ ?_)
  have hsv' : (s.exchangeOver b).arb.service = some v := hsv
  have hk' : ((s.exchangeOver b).bank b).state = .connecting := hk
  simp only [hsv', hk', hb, and_self, if_true]

theorem execWaitReply_of_polled (hp : s.Polled b x) :
    exec (.waitReply (withCrc8 [byteOf b.val, 0x85#8, v1, v0, 0x00#8])) s =
      .next (s.setTurn s.turnOver) := by
  obtain ⟨hheld, haw, -⟩ := id hp
  refine congrArg Host.Outcome.next ((State.live_of_released hheld).trans ?_)
  have hacc := State.acceptReply_of_polled (k := .wait) (v1 := v1) (v0 := v0) (m := 0x00#8) hp rfl rfl
  simp only [ReplyKind.byte] at hacc
  simp only [hacc, State.pollAnswered_of_awaits haw]

theorem execReleasedReply_of_polled (hp : s.Polled b x) (ho : s.ownWork = none)
    (hr : x.request = .release) (hk : (s.bank b).state = .releasing) :
    exec (.releasedReply (withCrc8 [byteOf b.val, 0x84#8, v1, v0, 0x00#8])) s =
      .next ((((s.exchangeOver b).modBank b Bank.released).releasedReport (s.bank b).engine b).bankTest) := by
  refine (congrArg Host.Outcome.next
    (State.onReply_of_polled (k := .released) hp ho (by rw [hr]; rfl) rfl _)).trans (congrArg _ ?_)
  exact if_pos hk

/-- Settles O55: the replies that are not taken by the checks of R206, and one lemma for each reply that is taken. -/
theorem bankRepliesAreTaken : Obligations.BankRepliesAreTaken := by
  refine ⟨fun s bytes h c hc => ?unchecked, fun s a k v1 v0 m => ?unpolled,
    fun s b x k v1 v0 m hp => ?unanswering, fun s b x v1 v0 hp ho => ?taken⟩
  case unchecked =>
    obtain ⟨k, rfl⟩ := exists_replyCommand hc
    refine exec_of_discarded (Option.eq_none_iff_forall_ne_some.mpr fun y hy => ?_)
    obtain ⟨-, -, -, -, -, -, -, -, -, hcrc, -, haw, -⟩ := State.acceptReply_cases hy
    rcases h with h | h
    · exact Bool.noConfusion (h.symm.trans hcrc)
    · exact Bool.noConfusion ((State.awaits_of_no_turn h _).symm.trans haw)
  case unpolled =>
    intro bytes h c hc
    obtain ⟨k, rfl⟩ := exists_replyCommand hc
    exact exec_of_unpolled h
  case unanswering =>
    intro bytes
    obtain ⟨-, -, hx⟩ := hp
    refine ⟨fun h => exec_of_unanswering (k := .ident) hx (h.imp_right (Or.imp ?_ ?_)),
      fun h => exec_of_unanswering (k := .ready) hx (h.imp_right (Or.imp ?_ ?_)),
      fun h => exec_of_unanswering (k := .level) hx (h.imp_right (Or.imp ?_ ?_)),
      fun h => exec_of_unanswering (k := .released) hx (h.imp_right (Or.imp ?_ ?_)),
      fun h => exec_of_unanswering (k := .wait) hx (h.imp_right fun h => .inr ?_),
      fun h => exec_of_unanswering (k := .fault) hx (.inl h)⟩
    all_goals (cases hr : x.request <;> simp_all [ReplyKind.answers, ReplyKind.byte4Ok])
  case taken =>
    refine ⟨fun hr hw => ?ident, fun y v hr hsv hst hb hk => ?ready,
      fun y v hr hsv hst hb hk hfw hw => ?late, ?wait, fun hr hk hw => ?released⟩
    case ident =>
      have hexec := execIdentReply_of_polled (v1 := v1) (v0 := v0) hp ho hr hw
      by_cases hoff : (s.bank b).state = .offline
      · rw [if_pos hoff] at hexec
        exact ⟨_, hexec, State.exchangeClosed_of_shell rfl, rfl,
          fun c hc => (State.bank_setBank ..).trans (if_neg hc),
          fun _ => (State.bank_setBank ..).trans (if_pos rfl), absurd hoff⟩
      · rw [if_neg hoff] at hexec
        exact ⟨_, hexec, State.exchangeClosed_of_shell rfl, rfl, fun _ _ => rfl,
          fun h => absurd h hoff, fun _ => rfl⟩
    case ready =>
      have hexec := execReadyReply_of_polled (v1 := v1) (v0 := v0) hp ho hr hsv hb hk
      rw [if_pos hst] at hexec
      have hsh := (s.exchangeOver b).readyActive_shell v b
      refine ⟨_, hexec, State.exchangeClosed_of_shell hsh,
        (State.shell_store hsh).trans rfl, fun c hc => ?_, fun k hn hw hcopy hf => ?_⟩
      · rw [State.readyActive_next (s := s.exchangeOver b) hc]
        exact ⟨rfl, (State.bank_modBank (s.exchangeOver b) b b (·.connectedFor v)).trans (if_pos rfl), rfl⟩
      · exact State.readyActive_grants (s := s.exchangeOver b) hn hb hw hcopy hf
    case late =>
      have hexec := execReadyReply_of_polled (v1 := v1) (v0 := v0) hp ho hr hsv hb hk
      rw [if_neg hst] at hexec
      obtain ⟨hover, hrest⟩ := State.readyLate_exchangeOver hst hk hfw hw
      exact ⟨_, hexec, hover, hrest⟩
    case wait => exact ⟨_, execWaitReply_of_polled hp, rfl, rfl⟩
    case released =>
      have hexec := execReleasedReply_of_polled (v1 := v1) (v0 := v0) hp ho hr hk
      exact ⟨_, hexec, State.released_spec b hw⟩

end Sys2Proof.Machine
end

section
/-! The reply LEVEL (R112, R114, R115, R129, R134, R168). -/

namespace Sys2Proof.Machine

variable {s t : State} {e : EngineIx} {b : BankIx} {n : Nat} {limited : Bool} {c : WorkingCopy}

/-! ### The grant after the reply -/

/-- R168: a LEVEL reply at the grant of an engine. -/
def Engine.replied (en : Engine) (b : BankIx) (n : Nat) : Engine := en.modGrant b (·.replied n)

/-- R168: a LEVEL reply is reported to the engine that holds the bank. -/
def State.levelSeen (s : State) (e : EngineIx) (b : BankIx) (n : Nat) : State :=
  s.modEngine e (·.replied b n)

theorem State.levelSeen_engine (s : State) (e : EngineIx) (b : BankIx) (n : Nat) :
    (s.levelSeen e b n).engine e = (s.engine e).replied b n := s.engine_setEngine_same ..

theorem Engine.modGrant_banks (en : Engine) (b : BankIx) {f : GrantBank → GrantBank}
    (hf : ∀ g, (f g).bank = g.bank) : (en.modGrant b f).grant.map (·.bank) = en.grant.map (·.bank) := by
  simp only [Engine.modGrant, List.map_map]
  refine List.map_congr_left fun g _ => ?_
  dsimp only [Function.comp_apply]
  split
  · exact hf g
  · rfl

theorem Engine.replied_banks (en : Engine) (b : BankIx) (n : Nat) :
    (en.replied b n).grant.map (·.bank) = en.grant.map (·.bank) := en.modGrant_banks b fun _ => rfl

theorem Engine.replied_grant_ne_nil {en : Engine} (h : en.grant ≠ []) : (en.replied b n).grant ≠ [] :=
  fun hn => h (List.map_eq_nil_iff.mp hn)

/-- R112: the reply of a bank is the last one of the load step when no other bank is awaited. -/
theorem Engine.replied_loadsDone (en : Engine) (b : BankIx) (n : Nat) :
    (en.replied b n).loadsDone = true ↔ ∀ g ∈ en.grant, g.bank ≠ b → g.load = false := by
  simp only [Engine.loadsDone, Engine.replied, Engine.modGrant, List.all_map, List.all_eq_true]
  refine forall₂_congr fun g _ => ?_
  by_cases hg : g.bank = b <;> simp [hg, GrantBank.replied]

/-- R114, R115: the reply of a bank is the last one to a SET 0 when no other one is outstanding. -/
theorem Engine.replied_zerosDone (en : Engine) (b : BankIx) :
    (en.replied b 0).zerosDone = true ↔ ∀ g ∈ en.grant, g.rezero = false ∧
      (g.bank = b → g.zeros ≤ 1) ∧ (g.bank ≠ b → g.zeros = 0) := by
  simp only [Engine.zerosDone, Engine.replied, Engine.modGrant, List.all_map, List.all_eq_true]
  refine forall₂_congr fun g _ => ?_
  by_cases hg : g.bank = b
  · simp [hg, GrantBank.replied, Nat.sub_eq_zero_iff_le, and_comm]
  · simp [hg, and_comm]

/-! ### LOAD (R112, R129) -/

theorem State.levelTaken_inLoad (hp : (s.engine e).phase = .load)
    (hl : limited = false ∨ (s.engine e).copy.map (·.kind) ≠ some .hold) :
    s.levelTaken e b n limited = if ((s.engine e).replied b n).loadsDone
      then (s.levelSeen e b n).enterWatch e else s.levelSeen e b n := by
  have hcopy : ((s.levelSeen e b n).engine e).copy = (s.engine e).copy := by
    rw [State.levelSeen_engine]
    rfl
  have hnot : ¬(limited = true ∧ ((s.levelSeen e b n).engine e).copy.map (·.kind) = some .hold) := by
    rw [hcopy]
    rintro ⟨h, hk⟩
    exact hl.elim (fun h' => Bool.noConfusion (h.symm.trans h')) (absurd hk)
  have htaken : s.levelTaken e b n limited = (s.levelSeen e b n).levelInLoad e limited := by
    simp only [State.levelTaken, hp]
    rfl
  rw [htaken, State.levelInLoad, if_neg hnot, State.levelSeen_engine]

/-- R112, R129: the last reply of a load step starts the duration of a HOLD step and the settle time of a DERATE
step. -/
theorem State.levelTaken_lastLoad (hp : (s.engine e).phase = .load) (hc : (s.engine e).copy = some c)
    (hl : limited = false ∨ c.kind ≠ .hold) (hall : ∀ g ∈ (s.engine e).grant, g.bank ≠ b → g.load = false) :
    let t := s.levelTaken e b n limited
    (t.engine e).phase = .watch ∧ (t.engine e).copy = some c ∧
      (c.kind = .hold → (t.engine e).holdFrom = some s.now) ∧
      (c.kind = .derate → (t.engine e).settleFrom = some s.now) ∧ t.feed = s.feed := by
  have hdone := ((s.engine e).replied_loadsDone b n).mpr hall
  have hget : ((s.levelSeen e b n).enterWatch e).engine e = _ :=
    (s.levelSeen e b n).engine_setEngine_same ..
  have hcopy : ((s.levelSeen e b n).engine e).copy = some c := by
    rw [State.levelSeen_engine]
    exact hc
  rw [State.levelTaken_inLoad hp (hl.imp_right fun h => by simpa [hc] using h), if_pos hdone]
  dsimp only
  rw [hget]
  have hkind {k : StepKind} (hk : c.kind = k) : ((s.levelSeen e b n).engine e).copy.map (·.kind) = some k :=
    (congrArg (Option.map (·.kind)) hcopy).trans (congrArg some hk)
  exact ⟨rfl, hcopy, fun hk => if_pos (hkind hk), fun hk => if_pos (hkind hk), rfl⟩

/-- R112: with another reply of the load step outstanding the engine stays in LOAD. -/
theorem State.levelTaken_moreLoad (hp : (s.engine e).phase = .load) (hc : (s.engine e).copy = some c)
    (hl : limited = false ∨ c.kind ≠ .hold) (hmore : ∃ g ∈ (s.engine e).grant, g.bank ≠ b ∧ g.load = true) :
    s.levelTaken e b n limited = s.levelSeen e b n := by
  obtain ⟨g, hg, hb, hload⟩ := hmore
  rw [State.levelTaken_inLoad hp (hl.imp_right fun h => by simpa [hc] using h), if_neg]
  intro hdone
  exact Bool.noConfusion (hload.symm.trans (((s.engine e).replied_loadsDone b n).mp hdone g hg hb))

/-- A change of the engine that keeps its copy and the banks that it holds, before it enters UNLOAD. -/
theorem State.Unloads.of_regrant {f : Engine → Engine} (h : (s.modEngine e f).Unloads t e)
    (hc : (f (s.engine e)).copy = (s.engine e).copy)
    (hg : (f (s.engine e)).grant.map (·.bank) = (s.engine e).grant.map (·.bank))
    (hj : ∀ n, (f (s.engine e)).justGranted n = (s.engine e).justGranted n) : s.Unloads t e := by
  obtain ⟨hphase, hwatch, hcopy, hgrant, hbanks, hothers⟩ := h
  rw [State.modEngine, State.engine_setEngine_same] at hcopy hgrant hbanks
  refine ⟨hphase, hwatch, hcopy.trans hc, hgrant.trans hg, fun g hm => ?_, fun f' hf => ?_⟩
  · have hmem : g.bank ∈ (f (s.engine e)).grant.map (·.bank) := hg ▸ List.mem_map_of_mem hm
    obtain ⟨g', hm', hb⟩ := List.mem_map.mp hmem
    have hlevel := hbanks g' hm'
    rw [hb, hj] at hlevel
    exact hlevel
  · exact (hothers f' hf).trans ((s.engine_setEngine e f' _).trans (if_neg hf))

/-- R129: a bank that reports "limited" ends a HOLD step. -/
theorem State.levelTaken_limited (hp : (s.engine e).phase = .load) (hc : (s.engine e).copy = some c)
    (hk : c.kind = .hold) (hg : (s.engine e).grant ≠ []) :
    let t := s.levelTaken e b n true
    s.Unloads t e ∧ (t.engine e).verdict = some ⟨.holdLimited, none, none⟩ := by
  have hget := s.levelSeen_engine e b n
  have hkind : ((s.levelSeen e b n).engine e).copy.map (·.kind) = some .hold := by
    rw [hget]
    exact (congrArg (Option.map (·.kind)) hc).trans (congrArg some hk)
  have htaken : s.levelTaken e b n true = (s.levelSeen e b n).reachVerdict e ⟨.holdLimited, none, none⟩ := by
    have hin : s.levelTaken e b n true = (s.levelSeen e b n).levelInLoad e true := by
      simp only [State.levelTaken, hp]
      rfl
    exact hin.trans (if_pos ⟨rfl, hkind⟩)
  rw [htaken]
  obtain ⟨hunloads, hverdict, -⟩ := (s.levelSeen e b n).reachVerdict_unloads e ⟨.holdLimited, none, none⟩
    (hget ▸ Engine.replied_grant_ne_nil hg)
  exact ⟨hunloads.of_regrant rfl ((s.engine e).replied_banks b n) fun _ => rfl, hverdict⟩

/-! ### UNLOAD (R115) -/

/-- R115: the last SET 0 releases the reservation and asks RELEASE of every bank. -/
theorem State.levelTaken_lastZero (hp : (s.engine e).phase = .unload) (hr : (s.engine e).releasing = false)
    (hg : (s.engine e).grant ≠ []) (hz : ((s.engine e).replied b 0).zerosDone = true) :
    let t := s.levelTaken e b 0 limited
    (t.engine e).phase = .unload ∧ (t.engine e).releasing = true ∧
      (t.engine e).reservation = .none ∧ (∀ r ∈ t.feed.reservations, r.engine ≠ e) ∧
      ∀ g ∈ (s.engine e).grant, (t.bank g.bank).state = .releasing ∧
        ⟨g.bank, .release, false⟩ ∈ t.arb.asked := by
  have hget := s.levelSeen_engine e b 0
  have htaken : s.levelTaken e b 0 limited = (s.levelSeen e b 0).unloadAdvance e := by
    simp only [State.levelTaken, hp]
    rfl
  obtain ⟨-, hadv⟩ := (s.levelSeen e b 0).unloadAdvance_held e (by rw [hget]; exact hp) (by rw [hget]; exact hr)
    (by rw [hget]; exact Engine.replied_grant_ne_nil hg)
  obtain ⟨heng, -, hfeed, -, -, -, hasked, hbank⟩ := hadv (by rw [hget]; exact hz)
  rw [hget] at heng hasked hbank
  rw [htaken]
  dsimp only
  refine ⟨by rw [heng]; exact hp, by rw [heng], by rw [heng], fun r hm => ?_, fun g hm => ?_⟩
  · rw [hfeed] at hm
    simpa using (List.mem_filter.mp hm).2
  · have hmem : g.bank ∈ ((s.engine e).replied b 0).grant.map (·.bank) := by
      rw [Engine.replied_banks]
      exact List.mem_map_of_mem hm
    refine ⟨by rw [hbank, if_pos hmem], ?_⟩
    rw [hasked]
    obtain ⟨g', hm', hb⟩ := List.mem_map.mp hmem
    exact List.mem_append_right _ (List.mem_map.mpr ⟨g', hm', by rw [hb]⟩)

/-! ### The WATCH of a RESTART step (R114, R134) -/

theorem State.levelTaken_inWatch (hp : (s.engine e).phase = .watch) : s.levelTaken e b n limited =
    ((s.levelSeen e b n).rezero e b).passageAdvance e := by
  simp only [State.levelTaken, hp]
  rfl

/-- R114: with a SET 0 outstanding the reservation stands. -/
theorem State.passageAdvance_of_outstanding (h : (s.engine e).zerosDone = false) : s.passageAdvance e = s := by
  simp only [State.passageAdvance, h, and_false, if_false, Bool.false_eq_true]

theorem GrantBank.any_replied {l : List GrantBank} :
    ((l.map fun g => if g.bank = b then g.replied n else g).any fun g => g.bank = b && g.rezero) =
      l.any fun g => g.bank = b && g.rezero := by
  rw [List.any_map]
  refine congrArg l.any (funext fun g => ?_)
  by_cases hg : g.bank = b <;> simp [hg, GrantBank.replied]

theorem State.rezero_levelSeen_of_not (h : ∀ g ∈ (s.engine e).grant, g.rezero = false) :
    (s.levelSeen e b n).rezero e b = s.levelSeen e b n := by
  refine if_neg ?_
  rw [State.levelSeen_engine]
  refine (Bool.not_eq_true _).mpr (GrantBank.any_replied.trans ?_)
  simp only [List.any_eq_false]
  intro g hg
  simp [h g hg]

/-- R134: the reply of a bank whose SET 0 waited for it brings that SET 0. -/
theorem State.levelTaken_rezero (hp : (s.engine e).phase = .watch) (hc : (s.engine e).copy = some c)
    (hz : ∃ g ∈ (s.engine e).grant, g.bank = b ∧ g.rezero = true) :
    let t := s.levelTaken e b n limited
    ⟨b, .set 0, false⟩ ∈ t.arb.asked ∧ (t.bank b).level = 0 ∧ t.feed = s.feed ∧
      (t.engine e).phase = .watch ∧ (t.engine e).copy = some c ∧
      (t.engine e).reservation = (s.engine e).reservation := by
  obtain ⟨g, hg, hb, hrz⟩ := hz
  let s1 := s.levelSeen e b n
  let s2 := (s1.askSet b 0 false).modEngine e fun en =>
    en.modGrant b fun g => { g with rezero := false, zeros := g.zeros + 1 }
  have hre : s1.rezero e b = s2 := by
    refine if_pos ?_
    rw [State.levelSeen_engine]
    refine GrantBank.any_replied.trans (List.any_eq_true.mpr ⟨g, hg, ?_⟩)
    simp [hb, hrz]
  have hget : s2.engine e = ((s.engine e).replied b n).modGrant b fun g =>
      { g with rezero := false, zeros := g.zeros + 1 } := by
    rw [← s.levelSeen_engine e b n]
    exact (s1.askSet b 0 false).engine_setEngine_same ..
  have hopen : (s2.engine e).zerosDone = false := by
    rw [hget]
    refine List.all_eq_false.mpr ⟨_, List.mem_map_of_mem (List.mem_map_of_mem hg), ?_⟩
    simp [hb, GrantBank.replied]
  rw [State.levelTaken_inWatch hp, hre, State.passageAdvance_of_outstanding hopen]
  refine ⟨List.mem_append_right _ (.head _), ?_, rfl, ?_, ?_, ?_⟩
  · exact congrArg Bank.level ((s1.bank_modBank b b fun k => { k with level := 0 }).trans (if_pos rfl))
  all_goals rw [hget]
  exacts [hp, hc, rfl]

/-- R114: the last SET 0 answered releases the reservation, with the banks held. -/
theorem State.levelTaken_passed {a : Nat} (hp : (s.engine e).phase = .watch) (hc : (s.engine e).copy = some c)
    (hk : c.kind = .restart) (hres : (s.engine e).reservation = .held a)
    (hrz : ∀ g ∈ (s.engine e).grant, g.rezero = false) :
    let t := s.levelTaken e b 0 limited
    ((∀ g ∈ (s.engine e).grant, (g.bank = b → g.zeros ≤ 1) ∧ (g.bank ≠ b → g.zeros = 0)) →
      (t.engine e).reservation = .none ∧
      t.feed.reservations = s.feed.reservations.filter (·.engine ≠ e) ∧
      (t.engine e).phase = .watch ∧ (t.engine e).copy = some c ∧
      (t.engine e).grant.map (·.bank) = (s.engine e).grant.map (·.bank) ∧
      t.arb.asked = s.arb.asked ∧ t.arb.roster = s.arb.roster) ∧
    ((∃ g ∈ (s.engine e).grant, g.bank ≠ b ∧ g.zeros ≠ 0) →
      t.feed = s.feed ∧ (t.engine e).reservation = .held a ∧ (t.engine e).phase = .watch ∧
      t.arb.asked = s.arb.asked ∧ t.arb.roster = s.arb.roster) := by
  let s1 := s.levelSeen e b 0
  have hget : s1.engine e = (s.engine e).replied b 0 := s.levelSeen_engine e b 0
  have hdone := (s.engine e).replied_zerosDone b
  have hkind : (s1.engine e).copy.map (·.kind) = some .restart := by
    rw [hget]
    exact (congrArg (Option.map (·.kind)) hc).trans (congrArg some hk)
  rw [State.levelTaken_inWatch hp, State.rezero_levelSeen_of_not hrz]
  refine ⟨fun hall => ?_, fun ⟨g, hg, hb, hz⟩ => ?_⟩
  · obtain ⟨hheld, -⟩ := State.passageAdvance_of_zerosDone (s := s1) (by rw [hget]; exact hp) hkind
      (by rw [hget]; exact hdone.mpr fun g hg => ⟨hrz g hg, hall g hg⟩)
    have hgone : (s1.feedRelease e).engine e = { (s.engine e).replied b 0 with reservation := .none } := by
      rw [← hget]
      exact (s1.setFeed _).engine_setEngine_same ..
    rw [show s1.passageAdvance e = s1.feedRelease e from hheld a (by rw [hget]; exact hres), hgone]
    exact ⟨rfl, rfl, hp, hc, (s.engine e).replied_banks b 0, rfl, rfl⟩
  · have hopen : (s1.engine e).zerosDone = false := by
      rw [hget]
      refine Bool.eq_false_iff.mpr fun h => hz ?_
      exact (hdone.mp h g hg).2.2 hb
    rw [show s1.passageAdvance e = s1 from State.passageAdvance_of_outstanding hopen, hget]
    exact ⟨rfl, hres, hp, rfl, rfl⟩

/-! ### What a LEVEL reply leaves unchanged -/

theorem State.OnlyEngine.levelTaken (s : State) (e : EngineIx) (b : BankIx) (n : Nat) (limited : Bool) :
    s.OnlyEngine (s.levelTaken e b n limited) e (b :: (s.engine e).grant.map (·.bank)) := by
  have hseen : s.OnlyEngine (s.levelSeen e b n) e (b :: (s.engine e).grant.map (·.bank)) := modEngine ..
  have hgrant : ∀ g ∈ ((s.levelSeen e b n).engine e).grant, g.bank ∈ b :: (s.engine e).grant.map (·.bank) :=
    fun g hg => by
      rw [State.levelSeen_engine] at hg
      exact .tail _ ((s.engine e).replied_banks b n ▸ List.mem_map_of_mem hg)
  refine hseen.trans ?_
  unfold State.levelTaken
  dsimp only
  split
  case h_1 =>
    show State.OnlyEngine _ ((s.levelSeen e b n).levelInLoad e limited) ..
    unfold State.levelInLoad
    split
    · exact reachVerdict hgrant _
    split
    · exact modEngine ..
    · exact refl ..
  case h_2 =>
    show State.OnlyEngine _ (((s.levelSeen e b n).rezero e b).passageAdvance e) ..
    refine trans ?_ (passageAdvance ..)
    unfold State.rezero
    split
    · exact (askSet (.head _) ..).trans (modEngine ..)
    · exact refl ..
  case h_3 => exact unloadAdvance hgrant
  case h_4 => exact refl ..

@[simp] theorem State.levelTaken_shell (e : EngineIx) (b : BankIx) (n : Nat) (limited : Bool) :
    (s.levelTaken e b n limited).shell = s.shell := by
  unfold State.levelTaken State.levelInLoad State.rezero
  dsimp only
  split
  · split
    · simp
    · split <;> simp
  · split <;> simp
  · simp
  · simp

/-- R168: a LEVEL reply that is taken reaches the engine that holds the bank. -/
theorem execLevelReply_of_polled {x : Exchange} {v1 v0 mark : Byte} (hp : s.Polled b x)
    (ho : s.ownWork = none) (hr : x.request = .set n) (he : (s.bank b).engine = some e)
    (hm : mark = 0x00#8 ∨ mark = 0x01#8) (hw : s.feed.waits = []) :
    exec (.levelReply (withCrc8 [byteOf b.val, 0x83#8, v1, v0, mark])) s =
      .next ((s.exchangeOver b).levelTaken e b n (mark = 0x01#8)) := by
  have h4 : ReplyKind.level.byte4Ok mark = true := by
    rcases hm with rfl | rfl <;> rfl
  refine (congrArg Host.Outcome.next
    (State.onReply_of_polled (k := .level) hp ho (by rw [hr]; rfl) h4 _)).trans (congrArg _ ?_)
  have he' : ((s.exchangeOver b).bank b).engine = some e := he
  simp only [he', hr, LinkRequest.level]
  refine State.feedRetest_of_waits _ _ ?_
  exact (State.OnlyEngine.levelTaken ..).feedWaits.trans hw

/-- Settles O56, by the phase of the engine that holds the bank. -/
theorem levelRepliesMoveTheEngine : Obligations.LevelRepliesMoveTheEngine := by
  intro s b x v1 v0 mark e c n hp ho hr he hc hm hw
  have hexec := execLevelReply_of_polled (v1 := v1) (v0 := v0) hp ho hr he hm hw
  have hsh : ((s.exchangeOver b).levelTaken e b n (mark = 0x01#8)).shell = (s.exchangeOver b).shell :=
    State.levelTaken_shell ..
  have honly := State.OnlyEngine.levelTaken (s.exchangeOver b) e b n (mark = 0x01#8)
  have hfull : mark = 0x00#8 ∨ c.kind ≠ .hold → decide (mark = 0x01#8) = false ∨ c.kind ≠ .hold :=
    Or.imp_left fun h => by subst h; rfl
  refine ⟨_, hexec, State.exchangeClosed_of_shell hsh, honly.engines,
    (State.shell_store (s := s.exchangeOver b) hsh), (State.shell_models (s := s.exchangeOver b) hsh),
    (State.shell_bays (s := s.exchangeOver b) hsh), (State.shell_senses (s := s.exchangeOver b) hsh),
    fun hph hl hall => ?last, fun hph hl hmore => ?more, fun hph hl hk hg => ?limited,
    fun hph hrel hn hg hz => ?zeros, fun hph _ hz => ?rezero, fun a hph hk hn hres hrz => ?passed⟩
  case last => exact State.levelTaken_lastLoad (s := s.exchangeOver b) hph hc (hfull hl) hall
  case more =>
    rw [State.levelTaken_moreLoad (s := s.exchangeOver b) hph hc (hfull hl) hmore, State.levelSeen_engine]
    exact ⟨hph, rfl⟩
  case limited =>
    subst hl
    exact State.levelTaken_limited (s := s.exchangeOver b) hph hc hk hg
  case zeros =>
    subst hn
    refine State.levelTaken_lastZero (s := s.exchangeOver b) hph hrel hg ?_
    refine ((s.engine e).replied_zerosDone b).mpr fun g hm => ?_
    obtain ⟨hrz, hsame, hother⟩ := hz g hm
    exact ⟨hrz, fun h => (hsame h).le, hother⟩
  case rezero => exact State.levelTaken_rezero (s := s.exchangeOver b) hph hc hz
  case passed =>
    subst hn
    exact State.levelTaken_passed (s := s.exchangeOver b) hph hc hk hres hrz

end Sys2Proof.Machine
end

section
/-! SUPPORT. The loss of a bank: what it takes from the roster, the tests that follow it, and rediscovery (R160, R161,
R165). -/

namespace Sys2Proof.Machine

variable {s t u w : State} {b : BankIx} {x : Exchange} {code : Option Nat} {q : BankWait} {e : EngineIx}
  {v : Service} {c : WorkingCopy} {need : Nat}

/-! ### The bank is lost (R160) -/

/-- R160: from `s` a bank has been lost, and nothing has followed: it is OFFLINE, its exchange is closed and its queued
requests are removed. -/
structure State.Loses (s w : State) (b : BankIx) (code : Option Nat) : Prop where
  frame : w = { s with now := w.now, arb := w.arb }
  service : w.arb.service = s.arb.service
  waits : w.arb.waits = s.arb.waits
  asked : w.arb.asked = s.arb.asked.filter (·.bank ≠ b)
  bank : ∀ y, w.bank y = if y = b then (s.bank b).lost code else s.bank y
  closed : w.exchange b = none
  exchanges : ∀ y, y ≠ b → w.exchange y = s.exchange y

/-- R160: the machine at the tick of the loss, before what the loss brings. -/
def State.bankLost (s : State) (b : BankIx) (code : Option Nat) : State :=
  ((s.closeExchange b).dropAsked b).setBank b ((s.bank b).lost code)

theorem State.bankLost_loses (s : State) (b : BankIx) (code : Option Nat) (k : Nat) (u : Option Turn) :
    s.Loses ((s.atTime k u).bankLost b code) b code where
  frame := rfl
  service := rfl
  waits := rfl
  asked := rfl
  bank := fun y => State.bank_setBank (((s.atTime k u).closeExchange b).dropAsked b) b y _
  closed := Tab.get_put_same ..
  exchanges := fun _ hy => (Tab.get_put ..).trans (if_neg hy)

/-- R160, R165: what the loss of a bank brings: the effect of the state that the bank has left, and the tests of the
bank wait list. -/
def State.lossDone (w : State) (b : BankIx) (former : Bank) (before : State) : State :=
  let s2 := w.afterLoss b former
  (s2.arb.waits.foldl testWaiting s2).testAfter before

theorem State.answerNoCapacity_shell (s : State) (e : EngineIx) : (s.answerNoCapacity e).shell = s.shell := by
  simp [State.answerNoCapacity]

theorem State.afterLoss_shell (s : State) (b : BankIx) (k : Bank) : (s.afterLoss b k).shell = s.shell := by
  have hchosen (v : Service) : (s.chosenLost v).shell = s.shell := by
    unfold State.chosenLost State.connectFailed
    dsimp only
    split
    · split <;> simp [State.answerNoCapacity_shell]
    · simp
    · simp
  have hgrant (e : EngineIx) : (s.grantLost e b).shell = s.shell := by
    unfold State.grantLost
    simp
  unfold State.afterLoss
  split
  · split
    · exact hchosen _
    · rfl
  · split
    · exact hchosen _
    · exact hgrant _
  · exact hgrant _
  · unfold State.bankGone
    simp
  · rfl

theorem State.testWaiting_shell (s : State) (q : BankWait) : State.shell (testWaiting s q) = s.shell := by
  unfold testWaiting
  split
  · simp [State.answerNoCapacity_shell]
  · rfl

theorem State.lossDone_shell (w : State) (b : BankIx) (k : Bank) (s : State) :
    (w.lossDone b k s).shell = w.shell := by
  unfold State.lossDone State.testAfter
  dsimp only
  have hfold := foldl_keeps State.shell testWaiting State.testWaiting_shell
    (w.afterLoss b k).arb.waits (w.afterLoss b k)
  split
  · rw [State.bankTest_shell, hfold, State.afterLoss_shell]
  · rw [hfold, State.afterLoss_shell]

/-- R160, R161: a FAULT taken, and the end of the 250 ms of an exchange, lose the bank. -/
theorem exec_of_lost {cmd : Instr} (hh : s.held = false) (ho : s.ownWork = none) (hx : s.exchange b = some x)
    (hcmd : (s.Polled b x ∧ ∃ v1 v0 m : Byte, code = some m.toNat ∧
        cmd = .faultReply (withCrc8 [byteOf b.val, 0x86#8, v1, v0, m])) ∨
      (code = none ∧ cmd = .exchangeTimeout b)) :
    ∃ k u, exec cmd s = .next ((s.atTime k u).loseBank b code) ∧
      (cmd = .exchangeTimeout b → k = max s.now (x.sent + 251)) ∧
      (cmd ≠ .exchangeTimeout b → k = s.now) := by
  rcases hcmd with ⟨hp, v1, v0, m, rfl, rfl⟩ | ⟨rfl, rfl⟩
  · have hacc := State.acceptReply_of_polled (k := .fault) (v1 := v1) (v0 := v0) (m := m) hp rfl rfl
    simp only [ReplyKind.byte] at hacc
    refine ⟨s.now, s.arb.turn, congrArg Host.Outcome.next ((State.live_of_released hh).trans ?_),
      fun h => Instr.noConfusion h, fun _ => rfl⟩
    simp only [hacc, State.settled_of_ownWork ho]
    rfl
  · obtain ⟨k, u, hat, hk, -⟩ := State.atTick_eq_atTime ho (x.sent + 251)
    refine ⟨k, u, congrArg Host.Outcome.next ((State.live_of_released hh).trans ?_), fun _ => hk,
      fun h => absurd rfl h⟩
    simp only [hx]
    exact congrArg (State.loseBank · b none) hat

namespace State.Loses

variable (hl : s.Loses w b code)
include hl

theorem engines_eq : w.engines = s.engines := by rw [hl.frame]

theorem outbox_eq : w.outbox = s.outbox := by rw [hl.frame]

theorem feed_eq : w.feed = s.feed := by rw [hl.frame]

theorem straps_eq : w.straps = s.straps := by rw [hl.frame]

theorem engine_eq (f : EngineIx) : w.engine f = s.engine f := congrArg (·.get f) hl.engines_eq

theorem bank_lost : w.bank b = (s.bank b).lost code := (hl.bank b).trans (if_pos rfl)

theorem bank_kept {y : BankIx} (hy : y ≠ b) : w.bank y = s.bank y := (hl.bank y).trans (if_neg hy)

theorem cap_eq (y : BankIx) : (w.bank y).cap = (s.bank y).cap := by
  rw [hl.bank]
  split
  next hy => subst hy; rfl
  next => rfl

theorem offline_iff (y : BankIx) : (w.bank y).state = .offline ↔ y = b ∨ (s.bank y).state = .offline := by
  rw [hl.bank]
  split
  next hy => exact ⟨fun _ => .inl hy, fun _ => rfl⟩
  next hy => exact ⟨.inr, fun h => h.resolve_left hy⟩

theorem idle_iff (y : BankIx) : (w.bank y).state = .idle ↔ y ≠ b ∧ (s.bank y).state = .idle := by
  rw [hl.bank]
  split
  next hy => exact ⟨fun h => BankState.noConfusion h, fun h => absurd hy h.1⟩
  next hy => exact ⟨fun h => ⟨hy, h⟩, And.right⟩

end State.Loses

/-! ### The sums that the tests compare (R157, R163) -/

/-- R157: the total online capability without a bank. -/
def State.onlineWithout (s : State) (b : BankIx) : Nat :=
  ((s.addresses.filter fun y => y ≠ b && (s.bank y).state ≠ .offline).map fun y => (s.bank y).cap).sum

/-- R163: what the IDLE banks reach together. -/
def State.idleTotal (s : State) : Nat :=
  ((s.addresses.filter fun y => (s.bank y).state = .idle).map fun y => (s.bank y).cap).sum

theorem State.totalOnline_without (hs : t.straps = s.straps) (hc : ∀ y, (t.bank y).cap = (s.bank y).cap)
    (ho : ∀ y, (t.bank y).state = .offline ↔ y = b ∨ (s.bank y).state = .offline) :
    t.totalOnline = s.onlineWithout b :=
  State.caps_sum_congr hs hc fun y => by
    rw [← Bool.decide_and]
    refine decide_eq_decide.mpr ?_
    rw [ne_eq, ho, not_or]

theorem State.idleTotal_congr {p : BankIx → Bool} (hs : t.straps = s.straps)
    (hc : ∀ y, (t.bank y).cap = (s.bank y).cap) (hp : ∀ y, (t.bank y).state = .idle ↔ p y = true) :
    t.idleTotal = ((s.addresses.filter p).map fun y => (s.bank y).cap).sum :=
  State.caps_sum_congr hs hc fun y => by
    exact (Bool.decide_congr (hp y)).trans Bool.decide_eq_true

/-! ### The tests (R160, R163, R165) -/

theorem State.testAfter_of_service (h : s.arb.service = none ∨ t.arb.service ≠ none) : t.testAfter s = t :=
  if_neg fun ⟨hs, ht⟩ => h.elim hs (absurd ht)

theorem State.testAfter_of_waits (h : t.arb.waits = []) : t.testAfter s = t := by
  unfold State.testAfter
  split
  · exact State.bankTest_of_waits h
  · rfl

theorem State.testAfter_of_ended (hs : s.arb.service ≠ none) (ht : t.arb.service = none) :
    t.testAfter s = t.bankTest := if_pos ⟨hs, ht⟩

theorem State.lossDone_of_alone {k : Bank} (h : w.afterLoss b k = t) (hw : t.arb.waits = []) :
    w.lossDone b k s = t := by
  unfold State.lossDone
  dsimp only
  rw [h, hw]
  exact State.testAfter_of_waits hw

theorem State.lossDone_of_one {k : Bank} (h : w.afterLoss b k = t) (hq : t.arb.waits = [q]) :
    w.lossDone b k s = if t.totalOnline < q.need then
      ((t.bankWithdraw q.engine).answerNoCapacity q.engine).testAfter s else t.testAfter s := by
  unfold State.lossDone
  dsimp only
  rw [h, hq]
  exact apply_ite (State.testAfter · s) ..

/-- R111: the engine of a request that is answered NO_CAPACITY closes. -/
theorem State.answerNoCapacity_closes (he : u.engines = s.engines) (ho : u.outbox = s.outbox)
    (hf : u.feed = s.feed) (hp : (s.engine e).phase = .acquire) (hc : (s.engine e).copy = some c)
    (hv : (s.engine e).verdict = none) (hs : (s.engine e).stop = none) :
    let t := u.answerNoCapacity e
    s.Closes t e c .noCapacity none none ∧ t.feed = s.feed.drop e ∧ t.arb = u.arb := by
  let u1 := u.modEngine e fun en => { en with bankReq := .notMade }
  have hget : u1.engine e = { s.engine e with bankReq := .notMade } := by
    rw [show u1.engine e = _ from u.engine_setEngine_same ..]
    exact congrArg (fun r : Tab Engine 6 => { r.get e with bankReq := .notMade }) he
  obtain ⟨⟨heng, hout, hres⟩, hfeed, harb⟩ := State.takeStop_unasked_closes (s := u1) (e := e) (c := c)
    (why := .noCapacity) (by rw [hget]; exact hc) (by rw [hget]; exact hv) (by rw [hget]; exact hs)
    (by rw [hget]; exact hp) (by rw [hget])
  have hengines : u1.engines.put e Engine.free = s.engines.put e Engine.free := by
    rw [show u1.engines = u.engines.put e _ from rfl, Tab.put_put, he]
  have houtbox : u1.outbox = s.outbox := ho
  have hfeeds : u1.feed = s.feed := hf
  rw [hengines] at heng
  rw [houtbox] at hout
  rw [hfeeds] at hfeed hres
  exact ⟨⟨heng, hout, hres⟩, hfeed, harb⟩

/-- R163: the request at the head goes into service when the IDLE banks meet it. -/
theorem State.bankTest_meets (hs : s.arb.service = none) (hw : s.arb.waits = [q]) (hn : q.need ≠ 0)
    (hle : q.need ≤ s.idleTotal) : ∃ d ds, s.bankTest = s.inService q [] d ds ∧
      q.need ≤ ((d :: ds).map fun y => (s.bank y).cap).sum ∧ ∀ y ∈ d :: ds, (s.bank y).state = .idle := by
  obtain ⟨d, ds, hch⟩ := State.chooseBanks_of_met hn hle
  obtain ⟨-, hsum, -⟩ := State.chooseBanks_spec hch
  refine ⟨d, ds, State.bankTest_of_met hs hw hch, by rwa [Nat.zero_add] at hsum, fun y hy => ?_⟩
  obtain ⟨-, hidle, -⟩ := State.mem_chosen hch hy
  exact hidle

/-- R163: a request that needs nothing, or more than the IDLE banks reach, stays at the head. -/
theorem State.bankTest_stands (hw : s.arb.waits = [q]) (h : q.need = 0 ∨ s.idleTotal < q.need) :
    s.bankTest = s := by
  rcases h with h | h
  · unfold State.bankTest
    rw [hw]
    split
    next w _ _ heq =>
      obtain ⟨rfl, -⟩ := List.cons.inj heq
      simp [h, State.chooseBanks.eq_def]
    next => rfl
  · refine State.bankTest_of_unmet (.inr fun w hm => ?_)
    rw [hw, List.mem_singleton] at hm
    exact hm ▸ h

/-! ### Rediscovery (R161) -/

theorem State.foldl_ask (l : List BankIx) (f : BankIx → Asked) (s : State) :
    l.foldl (fun t y => t.ask (f y)) s = { s with arb := { s.arb with asked := s.arb.asked ++ l.map f } } := by
  induction l generalizing s with
  | nil => simp
  | cons y l ih =>
    rw [List.foldl_cons, ih]
    simp [State.ask]

theorem State.identifying_eq_false (s : State) (b : BankIx) : (!s.identifying b) =
    ((s.exchange b).map (·.request) ≠ some .identify &&
      s.arb.asked.all fun a => a.bank ≠ b || a.request ≠ .identify) := by
  rw [State.identifying, Bool.not_or, decide_not, List.any_eq_not_all_not, Bool.not_not]
  simp only [Bool.not_and, ne_eq, decide_not]

/-- R161: the rediscovery timer asks IDENTIFY of the OFFLINE banks. -/
theorem exec_rediscoveryTimer (hh : s.held = false) (ho : s.ownWork = none) :
    ∃ t, exec .rediscoveryTimer s = .next t ∧ s.PassedTo t (s.arb.sweepFrom + 5000) ∧
      t.arb.sweepFrom = t.now ∧
      t.arb.asked = s.arb.asked ++ (s.addresses.filter fun b => (s.bank b).state = .offline &&
        (s.exchange b).map (·.request) ≠ some .identify &&
        s.arb.asked.all fun a => a.bank ≠ b || a.request ≠ .identify).map
          (fun b => ⟨b, .identify, false⟩) ∧
      t = { s with now := t.now, arb := { s.arb with
        turn := t.arb.turn, asked := t.arb.asked, sweepFrom := t.arb.sweepFrom } } := by
  obtain ⟨k, u, hat, hpassed⟩ := State.atTick_passes ho (s.arb.sweepFrom + 5000)
  let s1 : State := { s.atTime k u with arb := { (s.atTime k u).arb with sweepFrom := k } }
  have hsweep : s1.sweepBanks = s.addresses.filter fun b => (s.bank b).state = .offline &&
      (s.exchange b).map (·.request) ≠ some .identify &&
      s.arb.asked.all fun a => a.bank ≠ b || a.request ≠ .identify :=
    List.filter_congr fun b _ => by rw [State.identifying_eq_false, ← Bool.and_assoc]; rfl
  refine ⟨{ s1 with arb := { s1.arb with
      asked := s1.arb.asked ++ s1.sweepBanks.map fun b => ⟨b, .identify, false⟩ } },
    congrArg Host.Outcome.next ((State.live_of_released hh).trans ?_), hpassed, ?_⟩
  · rw [show s.atTick (s.arb.sweepFrom + Config.rediscoveryMs) = s.atTime k u from hat]
    exact State.foldl_ask s1.sweepBanks _ s1
  · rw [hsweep]
    exact ⟨rfl, rfl, rfl⟩

end Sys2Proof.Machine
end

section
/-! What the loss of a bank brings, by the state that the bank has left (R115, R160, R165, R166). -/

namespace Sys2Proof.Machine

variable {s t u w : State} {b : BankIx} {code : Option Nat} {q : BankWait} {e : EngineIx}
  {v : Service} {c : WorkingCopy} {k : Bank} {bs : List BankIx}

/-! ### By the state that the bank has left -/

theorem State.afterLoss_unheld (h : k.state = .offline ∨ k.state = .idle ∨
    (k.state = .releasing ∧ k.engine = none)) : w.afterLoss b k = w := by
  rcases h with h | h | ⟨h, he⟩
  · simp only [State.afterLoss, h]
  · simp only [State.afterLoss, h]
  · simp only [State.afterLoss, h, he]

theorem State.afterLoss_releasing (h : k.state = .releasing) (he : k.engine = some e) :
    w.afterLoss b k = w.bankGone e b := by
  simp only [State.afterLoss, h, he]

theorem State.afterLoss_granted (h : k.state = .connected) (he : k.engine = some e)
    (hv : ∀ v, w.arb.service = some v → b ∉ v.chosen) : w.afterLoss b k = w.grantLost e b := by
  cases hs : w.arb.service with
  | none => simp only [State.afterLoss, h, he, hs]
  | some v => simp only [State.afterLoss, h, he, hs, hv v hs, if_false]

theorem State.afterLoss_chosen (hs : w.arb.service = some v) (hb : b ∈ v.chosen)
    (h : k.state = .connecting ∨ (k.state = .connected ∧ k.engine ≠ none)) :
    w.afterLoss b k = w.chosenLost v := by
  rcases h with h | ⟨h, he⟩
  · simp only [State.afterLoss, h, hs, hb, if_true]
  · obtain ⟨e, he⟩ := Option.ne_none_iff_exists'.mp he
    simp only [State.afterLoss, h, he, hs, hb, if_true]

/-! ### A bank of a grant (R160) -/

/-- R118: a stop cause at an engine on a load step. -/
theorem State.OnlyEngine.takeStop_load {why : StopCause} (hv : (s.engine e).verdict = none)
    (hs : (s.engine e).stop = none) (hp : (s.engine e).phase = .load ∨ (s.engine e).phase = .watch)
    (hb : ∀ g ∈ (s.engine e).grant, g.bank ∈ bs) : s.OnlyEngine (s.takeStop e why) e bs := by
  have hstop : s.OnlyEngine (s.stopped e why) e bs := modEngine ..
  have hgrant : ∀ g ∈ ((s.stopped e why).engine e).grant, g.bank ∈ bs := by
    rw [State.stopped_grant]
    exact hb
  rw [State.takeStop_load hv hs hp]
  split
  · obtain ⟨hen, hothers, -, hfeed, hserv, hwaits, -, hbank⟩ := (s.stopped e why).recallSets_spec e
    have hrecall : (s.stopped e why).OnlyEngine ((s.stopped e why).recallSets e) e bs :=
      ⟨hothers, congrArg Feed.waits hfeed, hwaits, hserv, fun y hy => (hbank y).trans (if_neg fun hm => hy ?_),
        fun y => ?_⟩
    · refine (hstop.trans hrecall).trans (enterUnload fun g hg => ?_)
      rw [hen] at hg
      obtain ⟨g', hg', rfl⟩ := List.mem_map.mp hg
      exact hgrant g' hg'
    · obtain ⟨g, hg, rfl⟩ := List.mem_map.mp hm
      exact hgrant g hg
    · rw [hbank]
      split <;> exact ⟨rfl, rfl⟩
  · exact hstop.trans (enterUnload hgrant)

/-- R160: the engine without the bank, before it takes BANK_FAULT. -/
def State.bankDropped (s : State) (e : EngineIx) (b : BankIx) : State := s.modEngine e (·.dropBank b)

theorem State.bankDropped_engine (s : State) (e : EngineIx) (b : BankIx) :
    (s.bankDropped e b).engine e = (s.engine e).dropBank b := s.engine_setEngine_same ..

theorem State.closes_of_bankDropped {o : StepOutcome} (h : (s.bankDropped e b).Closes t e c o none none) :
    s.Closes t e c o none none := by
  obtain ⟨heng, hout, hres⟩ := h
  exact ⟨heng.trans (Tab.put_put ..), hout, hres⟩

/-- R160: the loss of the last bank of a grant closes the engine. -/
theorem State.grantLost_last (h : s.OnLoad e c) (hall : ∀ g ∈ (s.engine e).grant, g.bank = b) :
    let t := s.grantLost e b
    s.Closes t e c .bankFault none none ∧ t.feed = s.feed.drop e ∧ t.arb = s.arb := by
  obtain ⟨hc, hp, hv, hs, -⟩ := h
  have hget := s.bankDropped_engine e b
  have hempty : ((s.bankDropped e b).engine e).grant = [] := by
    rw [hget]
    simpa [Engine.dropBank] using hall
  obtain ⟨hcloses, hfeed, harb⟩ := State.takeStop_empty_closes (why := .bankFault) (c := c) (by rw [hget]; exact hc)
    (by rw [hget]; exact hv) (by rw [hget]; exact hs) (by rw [hget]; exact hp) hempty
  have hfree : ((s.bankDropped e b).takeStop e .bankFault).engine e = Engine.free :=
    (congrArg (·.get e) hcloses.1).trans (Tab.get_put_same ..)
  have hlost : s.grantLost e b = (s.bankDropped e b).takeStop e .bankFault :=
    State.unloadAdvance_elsewhere (s := (s.bankDropped e b).takeStop e .bankFault)
      (by rw [hfree]; exact Phase.noConfusion)
  dsimp only
  rw [hlost]
  exact ⟨State.closes_of_bankDropped hcloses, hfeed, harb⟩

/-- R115: an engine in UNLOAD that holds banks stays in UNLOAD with them, and keeps its stop cause. -/
theorem State.unloadAdvance_keeps (hp : (s.engine e).phase = .unload) (hg : (s.engine e).grant ≠ []) :
    let t := s.unloadAdvance e
    (t.engine e).phase = .unload ∧ (t.engine e).stop = (s.engine e).stop ∧
      (t.engine e).grant = (s.engine e).grant := by
  dsimp only
  cases hr : (s.engine e).releasing with
  | true =>
    rw [State.unloadAdvance_waits hr hg]
    exact ⟨hp, rfl, rfl⟩
  | false =>
    obtain ⟨hwait, hgo⟩ := s.unloadAdvance_held e hp hr hg
    cases hz : (s.engine e).zerosDone with
    | false =>
      rw [hwait hz]
      exact ⟨hp, rfl, rfl⟩
    | true =>
      obtain ⟨heng, -⟩ := hgo hz
      rw [heng]
      exact ⟨hp, rfl, rfl⟩

/-- R160: the loss of another bank of a grant ends the step with BANK_FAULT. -/
theorem State.grantLost_more (h : s.OnLoad e c) (hmore : ∃ g ∈ (s.engine e).grant, g.bank ≠ b) :
    let t := s.grantLost e b
    (t.engine e).stop = some .bankFault ∧ (t.engine e).phase = .unload ∧
      (t.engine e).grant.map (·.bank) = ((s.engine e).grant.map (·.bank)).filter (· ≠ b) ∧
      s.OnlyEngine t e (((s.engine e).dropBank b).grant.map (·.bank)) := by
  obtain ⟨hc, hp, hv, hs, -⟩ := h
  have hget := s.bankDropped_engine e b
  have hheld : ((s.bankDropped e b).engine e).grant ≠ [] := by
    rw [hget]
    simpa [Engine.dropBank] using hmore
  have hload : (s.bankDropped e b).OnLoad e c := by
    refine ⟨?_, ?_, ?_, ?_, hheld⟩ <;> rw [hget]
    exacts [hc, hp, hv, hs]
  obtain ⟨⟨hphase, -, -, hbanks, -, -⟩, hstop, -⟩ := State.takeStop_unloads _ e c .bankFault hload
  have honly : s.OnlyEngine ((s.bankDropped e b).takeStop e .bankFault) e
      (((s.engine e).dropBank b).grant.map (·.bank)) := by
    obtain ⟨-, hp', hv', hs', -⟩ := id hload
    refine OnlyEngine.trans (t := s.bankDropped e b) (OnlyEngine.modEngine ..)
      (OnlyEngine.takeStop_load hv' hs' hp' ?_)
    rw [hget]
    exact fun g hg => List.mem_map_of_mem hg
  have hlost : s.grantLost e b = ((s.bankDropped e b).takeStop e .bankFault).unloadAdvance e := rfl
  rw [hget] at hbanks
  generalize (s.bankDropped e b).takeStop e .bankFault = u at *
  have hu : (u.engine e).grant ≠ [] := fun hn => by
    rw [hn] at hbanks
    exact hheld (by rw [hget]; exact List.map_eq_nil_iff.mp hbanks.symm)
  obtain ⟨hphase', hstop', hgrant'⟩ := State.unloadAdvance_keeps hphase hu
  rw [hlost]
  refine ⟨hstop'.trans hstop, hphase', ?_, honly.trans (OnlyEngine.unloadAdvance fun g hg => ?_)⟩
  · rw [hgrant', hbanks, List.filter_map]
    rfl
  · exact hbanks ▸ List.mem_map_of_mem hg

/-! ### A service that a lost bank ends (R165) -/

theorem State.endService_bank (s : State) (v : Service) (st : ServiceStatus) (y : BankIx) :
    (s.endService v st).bank y =
      if y ∈ v.chosen then (s.bank y).unchosen (s.exchange y).isSome else s.bank y :=
  State.foldl_unchoose_bank v.chosen s y

theorem Bank.unchosen_cap (k : Bank) (o : Bool) : (k.unchosen o).cap = k.cap := by
  cases hk : k.state <;> cases o <;> simp [Bank.unchosen, hk]

theorem Bank.unchosen_offline_iff (k : Bank) (o : Bool) : (k.unchosen o).state = .offline ↔ k.state = .offline := by
  cases hk : k.state <;> cases o <;> simp [Bank.unchosen, hk]

theorem Bank.unchosen_idle_iff (k : Bank) (o : Bool) :
    (k.unchosen o).state = .idle ↔ k.state = .idle ∨ (k.state = .connecting ∧ o = false) := by
  cases hk : k.state <;> cases o <;> simp [Bank.unchosen, hk]

/-- R165: a CONNECT of the request in service is open to another bank than the lost one. -/
def State.StillOpen (s : State) (v : Service) (b : BankIx) : Prop :=
  ∃ y ∈ v.chosen, y ≠ b ∧ (s.bank y).state = .connecting ∧ s.exchange y ≠ none

/-- R163: what the banks reach together that are IDLE once a service has ended. -/
def State.idleFreed (s : State) (v : Service) (b : BankIx) : Nat :=
  ((s.addresses.filter fun y => y ≠ b && ((s.bank y).state = .idle ||
    (decide (y ∈ v.chosen ∧ (s.bank y).state = .connecting)))).map fun y => (s.bank y).cap).sum

/-- R160, R165: from `s` a bank has been lost and the service that connected it has ended. -/
structure State.ServiceFailed (s u : State) (b : BankIx) (code : Option Nat) (v : Service) : Prop where
  frame : u = { s with now := u.now, arb := u.arb }
  waits : u.arb.waits = s.arb.waits
  lost : u.bank b = (s.bank b).lost code
  released : ∀ y ∈ v.chosen, y ≠ b → (s.bank y).state = .connected →
    u.bank y = { s.bank y with state := .releasing, engine := none } ∧ ⟨y, .release, false⟩ ∈ u.arb.asked
  stands : ∀ y ∈ v.chosen, y ≠ b → (s.bank y).state = .connecting → s.exchange y ≠ none → u.bank y = s.bank y
  freed : ∀ y ∈ v.chosen, y ≠ b → (s.bank y).state = .connecting → s.exchange y = none →
    u.bank y = { s.bank y with state := .idle } ∧ ∀ z ∈ u.arb.asked, z.bank ≠ y
  caps : ∀ y, (u.bank y).cap = (s.bank y).cap
  online : u.totalOnline = s.onlineWithout b
  waiting : s.StillOpen v b → u.arb.service = some { v with status := .failed }
  ended : ¬s.StillOpen v b → u.arb.service = none ∧ u.idleTotal = s.idleFreed v b

theorem State.Loses.serviceFailed (hl : s.Loses w b code) (v : Service) :
    s.ServiceFailed (w.endService v .failed) b code v := by
  obtain ⟨hframe, hwaits, hgo, hopen, hshut⟩ := w.endService_spec v .failed
  have hbank := w.endService_bank v .failed
  have hoff : (w.bank b).state = .offline := (hl.offline_iff b).mpr (.inl rfl)
  have hstill : s.StillOpen v b ↔ ∃ y ∈ v.chosen, (w.bank y).state = .connecting ∧ w.exchange y ≠ none := by
    refine exists_congr fun y => and_congr_right fun _ => ?_
    by_cases hy : y = b
    · subst hy
      simp [hoff]
    · rw [hl.bank_kept hy, hl.exchanges y hy]
      exact ⟨And.right, .intro hy⟩
  have hlost : (w.endService v .failed).bank b = (s.bank b).lost code := by
    rw [hbank, hl.bank_lost]
    exact ite_self _
  have hcap (y : BankIx) : ((w.endService v .failed).bank y).cap = (s.bank y).cap := by
    rw [hbank, ← hl.cap_eq y]
    split
    · exact Bank.unchosen_cap ..
    · rfl
  have hstraps : (w.endService v .failed).straps = s.straps :=
    (State.shell_straps (w.endService_shell v .failed)).trans hl.straps_eq
  refine ⟨?_, hwaits.trans hl.waits, hlost, fun y hy hne hk => ?_, fun y hy hne hk hx => ?_,
    fun y hy hne hk hx => ?_, hcap, State.totalOnline_without hstraps hcap fun y => ?_,
    fun h => hopen (hstill.mp h), fun h => ⟨hshut fun y hy hcon => ?_, ?_⟩⟩
  · rw [hframe, hl.frame]
  · rw [← hl.bank_kept hne] at hk ⊢
    exact (hgo y).2.2 hy hk
  · rw [← hl.bank_kept hne] at hk ⊢
    exact (hgo y).1 (.inr ⟨hk, (hl.exchanges y hne).symm ▸ hx⟩)
  · rw [← hl.bank_kept hne] at hk ⊢
    exact (hgo y).2.1 hy hk ((hl.exchanges y hne).trans hx)
  · rw [← hl.offline_iff y, hbank]
    split
    · exact Bank.unchosen_offline_iff ..
    · rfl
  · exact h (hstill.mpr ⟨y, hy, hcon⟩)
  · refine State.idleTotal_congr hstraps hcap fun y => ?_
    rw [hbank]
    by_cases hne : y = b
    · subst hne
      simp [hoff, Bank.unchosen]
    · rw [hl.bank_kept hne, hl.exchanges y hne]
      by_cases hy : y ∈ v.chosen
      · have hclosed (hk : (s.bank y).state = .connecting) : s.exchange y = none :=
          Classical.byContradiction fun hx => h ⟨y, hy, hne, hk, hx⟩
        simp [hy, hne, Bank.unchosen_idle_iff, and_iff_left_of_imp hclosed]
      · simp [hy, hne]

end Sys2Proof.Machine
end

section
/-! FAULT, a timeout and rediscovery (R160, R161, R165, R166). -/

namespace Sys2Proof.Machine

variable {s t u w : State} {b : BankIx} {x : Exchange} {code : Option Nat} {q : BankWait} {e : EngineIx}
  {v : Service} {c : WorkingCopy} {k : Bank}

/-! ### A bank that no service connects, with no request waiting (R115, R160) -/

section alone

variable (hl : s.Loses w b code) (hw : s.arb.waits = [])
include hl hw

theorem State.Loses.lossDone_unheld (h : (s.bank b).state = .offline ∨ (s.bank b).state = .idle ∨
    ((s.bank b).state = .releasing ∧ (s.bank b).engine = none)) : w.lossDone b (s.bank b) s = w :=
  State.lossDone_of_alone (State.afterLoss_unheld h) (hl.waits.trans hw)

theorem State.Loses.lossDone_releasing (h : (s.bank b).state = .releasing) (he : (s.bank b).engine = some e) :
    w.lossDone b (s.bank b) s = w.bankGone e b :=
  State.lossDone_of_alone (State.afterLoss_releasing h he)
    ((State.OnlyEngine.bankGone w e b).bankWaits.trans (hl.waits.trans hw))

theorem State.Loses.lossDone_granted (h : (s.bank b).state = .connected) (he : (s.bank b).engine = some e)
    (hv : ∀ v, s.arb.service = some v → b ∉ v.chosen) (ho : w.OnLoad e c) :
    w.lossDone b (s.bank b) s = w.grantLost e b := by
  refine State.lossDone_of_alone (State.afterLoss_granted h he (hl.service ▸ hv)) ?_
  by_cases hall : ∀ g ∈ (w.engine e).grant, g.bank = b
  · obtain ⟨-, -, harb⟩ := State.grantLost_last ho hall
    rw [harb, hl.waits, hw]
  · push Not at hall
    obtain ⟨-, -, -, honly⟩ := State.grantLost_more ho hall
    rw [honly.bankWaits, hl.waits, hw]

/-- R165: the last bank lost of a service that has failed. -/
theorem State.Loses.lossDone_failed (h : w.afterLoss b (s.bank b) = w.chosenLost v) (hst : v.status = .failed) :
    w.lossDone b (s.bank b) s = w.setService none := by
  refine State.lossDone_of_alone (h.trans ?_) (hl.waits.trans hw)
  simp only [State.chosenLost, hst]

/-- R166: the last bank lost of a service that has been withdrawn. -/
theorem State.Loses.lossDone_withdrawn (h : w.afterLoss b (s.bank b) = w.chosenLost v)
    (hst : v.status = .withdrawn) : w.lossDone b (s.bank b) s = (w.setService none).acquireExit v.engine := by
  refine State.lossDone_of_alone (h.trans ?_) ?_
  · simp only [State.chosenLost, hst]
  · rw [State.acquireExit_arb]
    exact hl.waits.trans hw

end alone

/-! ### A bank of the active service (R165) -/

/-- R165: what follows the end of the service leaves of it. -/
structure State.EndKept (u t : State) : Prop where
  bank : ∀ y, (u.bank y).state ≠ .idle → t.bank y = u.bank y
  asked : ∀ a ∈ u.arb.asked, a ∈ t.arb.asked
  service : u.arb.service ≠ none → t.arb.service = u.arb.service

theorem State.EndKept.of_shared (hr : t.arb.roster = u.arb.roster) (ha : t.arb.asked = u.arb.asked)
    (hs : t.arb.service = u.arb.service) : u.EndKept t :=
  ⟨fun y _ => congrArg (·.get y) hr, fun _ h => ha ▸ h, fun _ => hs⟩

/-- R163: a request that goes into service when none is, with IDLE banks, leaves the others. -/
theorem State.inService_endKept {d : BankIx} {ds : List BankIx} (hs : u.arb.service = none)
    (hd : ∀ y ∈ d :: ds, (u.bank y).state = .idle) : u.EndKept (u.inService q [] d ds) := by
  obtain ⟨-, -, harb, hbank⟩ := u.inService_spec q [] d ds
  refine ⟨fun y hy => (hbank y).trans (if_neg fun hm => hy (hd y hm)), fun a ha => ?_, absurd hs⟩
  rw [harb]
  exact List.mem_append_left _ ha

/-- R165: the request as it returns to the wait list. -/
def Service.returned (v : Service) (c : WorkingCopy) : BankWait := ⟨v.engine, v.need, c.priority, v.bay, v.joined⟩

/-- R165: the machine with the request back on the empty wait list. -/
def State.requestBack (u : State) (v : Service) (c : WorkingCopy) : State :=
  (u.setBankWaits [v.returned c]).modEngine v.engine fun en => { en with bankReq := .waiting }

theorem State.returnRequest_eq (hw : u.arb.waits = []) (hc : (u.engine v.engine).copy = some c) :
    u.returnRequest v = u.requestBack v c := by
  simp only [State.returnRequest, State.joinBankWaits, hw, hc, insertRanked]
  rfl

section active

variable (hl : s.Loses w b code) (hw : s.arb.waits = []) (hs : s.arb.service = some v)
  (hact : v.status = .active) (hloss : w.afterLoss b (s.bank b) = w.chosenLost v)
  (hp : (s.engine v.engine).phase = .acquire) (hc : (s.engine v.engine).copy = some c)
  (hv : (s.engine v.engine).verdict = none) (hst : (s.engine v.engine).stop = none)
include hl hw hact hloss

include hp hc hv hst in
/-- R111, R165: the request is answered NO_CAPACITY when its need is above the total. -/
theorem State.Loses.lossDone_short (hlt : s.onlineWithout b < v.need) :
    let t := w.lossDone b (s.bank b) s
    s.Closes t v.engine c .noCapacity none none ∧ t.feed = s.feed.drop v.engine ∧
      t.arb = (w.endService v .failed).arb := by
  have hsf := hl.serviceFailed v
  have hafter : w.afterLoss b (s.bank b) = (w.endService v .failed).answerNoCapacity v.engine := by
    simp only [hloss, State.chosenLost, hact, State.connectFailed, hsf.online, hlt, if_true]
  generalize w.endService v .failed = u at *
  obtain ⟨hcl, hfeed, harb⟩ := State.answerNoCapacity_closes (u := u) (s := s) (by rw [hsf.frame])
    (by rw [hsf.frame]) (by rw [hsf.frame]) hp hc hv hst
  have hdone := State.lossDone_of_alone (s := s) hafter (by rw [harb, hsf.waits, hw])
  dsimp only
  rw [hdone]
  exact ⟨hcl, hfeed, harb⟩

include hc

theorem State.Loses.lossDone_returned (hle : v.need ≤ s.onlineWithout b) :
    w.lossDone b (s.bank b) s = ((w.endService v .failed).requestBack v c).testAfter s := by
  have hsf := hl.serviceFailed v
  have hafter : w.afterLoss b (s.bank b) = (w.endService v .failed).returnRequest v := by
    simp only [hloss, State.chosenLost, hact, State.connectFailed, hsf.online, hle.not_gt, if_false]
  generalize w.endService v .failed = u at *
  rw [State.returnRequest_eq (c := c) (hsf.waits.trans hw) (by rw [hsf.frame]; exact hc)] at hafter
  have hone := State.lossDone_of_one (s := s) hafter (q := v.returned c) rfl
  have honline : (u.requestBack v c).totalOnline = s.onlineWithout b := hsf.online
  rw [hone, if_neg (by rw [honline]; exact hle.not_gt)]

/-- R165: the request waits again while a CONNECT is open, or the IDLE banks do not meet it. -/
theorem State.Loses.lossDone_back (hle : v.need ≤ s.onlineWithout b)
    (h : s.StillOpen v b ∨ v.need = 0 ∨ s.idleFreed v b < v.need) :
    w.lossDone b (s.bank b) s = (w.endService v .failed).requestBack v c := by
  have hsf := hl.serviceFailed v
  rw [hl.lossDone_returned hw hact hloss hc hle]
  generalize w.endService v .failed = u at *
  by_cases ho : s.StillOpen v b
  · exact State.testAfter_of_service (.inr fun hn => Option.noConfusion rfl
      (heq_of_eq ((hsf.waiting ho).symm.trans hn)))
  · obtain ⟨hend, hidle⟩ := hsf.ended ho
    unfold State.testAfter
    split
    · refine State.bankTest_stands (q := v.returned c) rfl ((h.resolve_left ho).imp_right fun hlt => ?_)
      exact (show (u.requestBack v c).idleTotal = _ from hidle) ▸ hlt
    · rfl

include hs

/-- R165: the request goes into service again at once when the IDLE banks meet it. -/
theorem State.Loses.lossDone_met (hle : v.need ≤ s.onlineWithout b) (hn : v.need ≠ 0)
    (ho : ¬s.StillOpen v b) (hm : v.need ≤ s.idleFreed v b) :
    ∃ d ds, w.lossDone b (s.bank b) s =
        ((w.endService v .failed).requestBack v c).inService (v.returned c) [] d ds ∧
      v.need ≤ ((d :: ds).map fun y => (s.bank y).cap).sum ∧
      ∀ y ∈ d :: ds, ((w.endService v .failed).bank y).state = .idle := by
  have hsf := hl.serviceFailed v
  rw [hl.lossDone_returned hw hact hloss hc hle]
  generalize w.endService v .failed = u at *
  obtain ⟨hend, hidle⟩ := hsf.ended ho
  obtain ⟨d, ds, htest, hsum, hall⟩ := State.bankTest_meets (s := u.requestBack v c) (q := v.returned c) hend rfl hn
    ((show (u.requestBack v c).idleTotal = _ from hidle) ▸ hm)
  have hended : s.arb.service ≠ none := by rw [hs]; exact Option.some_ne_none v
  refine ⟨d, ds, (State.testAfter_of_ended (t := u.requestBack v c) hended hend).trans htest, ?_, hall⟩
  have hcaps : ((d :: ds).map fun y => ((u.requestBack v c).bank y).cap) = (d :: ds).map fun y => (s.bank y).cap :=
    List.map_congr_left fun y _ => hsf.caps y
  exact hcaps ▸ hsum

include hp hv hst in
/-- R165: what the loss leaves in every case: the end of the service, the other engines, and the feed's list. -/
theorem State.Loses.lossDone_active : let t := w.lossDone b (s.bank b) s
    (w.endService v .failed).EndKept t ∧ (∀ f, f ≠ v.engine → t.engine f = s.engine f) ∧
      t.feed.waits = s.feed.waits := by
  have hsf := hl.serviceFailed v
  dsimp only
  rcases Nat.lt_or_ge (s.onlineWithout b) v.need with hlt | hle
  · obtain ⟨⟨heng, -, -⟩, hfeed, harb⟩ := hl.lossDone_short hw hact hloss hp hc hv hst hlt
    refine ⟨.of_shared (by rw [harb]) (by rw [harb]) (by rw [harb]), fun f hf => ?_, by rw [hfeed]; rfl⟩
    exact (congrArg (·.get f) heng).trans ((Tab.get_put ..).trans (if_neg hf))
  · have hback (f : EngineIx) (hf : f ≠ v.engine) :
        ((w.endService v .failed).requestBack v c).engine f = s.engine f := by
      rw [State.requestBack, State.engine_modEngine, if_neg hf, hsf.frame]
      rfl
    by_cases h : s.StillOpen v b ∨ v.need = 0 ∨ s.idleFreed v b < v.need
    · rw [hl.lossDone_back hw hact hloss hc hle h]
      exact ⟨.of_shared rfl rfl rfl, hback, by rw [hsf.frame]; rfl⟩
    · push Not at h
      obtain ⟨ho, hn, hm⟩ := h
      obtain ⟨d, ds, hdone, -, hall⟩ := hl.lossDone_met hw hs hact hloss hc hle hn ho hm
      obtain ⟨hframe, heng, -⟩ := ((w.endService v .failed).requestBack v c).inService_spec (v.returned c) [] d ds
      obtain ⟨hbank, hasked, -⟩ := State.inService_endKept (q := v.returned c)
        (u := (w.endService v .failed).requestBack v c) (hsf.ended ho).1 hall
      rw [hdone]
      refine ⟨⟨hbank, hasked, absurd (hsf.ended ho).1⟩, fun f hf => ?_, ?_⟩
      · exact ((heng f).trans (if_neg hf)).trans (hback f hf)
      · rw [hframe]
        show (w.endService v .failed).feed.waits = s.feed.waits
        rw [hsf.frame]

end active

/-! ### With one request waiting (R111, R160) -/

section waiting

variable (h : w.afterLoss b k = t) (hq : t.arb.waits = [q])
include h hq

/-- R111: the waiting request is answered NO_CAPACITY when its need is above the total. -/
theorem State.lossDone_refused (hlt : t.totalOnline < q.need) (he : t.engines = s.engines)
    (ho : t.outbox = s.outbox) (hf : t.feed = s.feed) (hp : (s.engine q.engine).phase = .acquire)
    (hc : (s.engine q.engine).copy = some c) (hv : (s.engine q.engine).verdict = none)
    (hst : (s.engine q.engine).stop = none) :
    let z := w.lossDone b k s
    s.Closes z q.engine c .noCapacity none none ∧ z.feed = s.feed.drop q.engine ∧
      z.arb.waits = [] ∧ z.arb.service = t.arb.service := by
  obtain ⟨hcl, hfeed, harb⟩ := State.answerNoCapacity_closes (u := t.bankWithdraw q.engine) (s := s) he ho hf hp hc
    hv hst
  have hwaits : ((t.bankWithdraw q.engine).answerNoCapacity q.engine).arb.waits = [] := by
    rw [harb]
    show t.arb.waits.filter (·.engine ≠ q.engine) = []
    rw [hq]
    simp
  dsimp only
  rw [State.lossDone_of_one h hq, if_pos hlt, State.testAfter_of_waits hwaits]
  exact ⟨hcl, hfeed, hwaits, by rw [harb]; rfl⟩

theorem State.lossDone_tested (hle : q.need ≤ t.totalOnline) : w.lossDone b k s = t.testAfter s := by
  rw [State.lossDone_of_one h hq, if_neg hle.not_gt]

end waiting

theorem State.inService_engines (s : State) (q : BankWait) (d : BankIx) (ds : List BankIx) :
    (s.inService q [] d ds).engines =
      s.engines.put q.engine { s.engine q.engine with bankReq := .connecting } := by
  obtain ⟨-, heng, -⟩ := s.inService_spec q [] d ds
  exact Tab.ext_get fun f => (heng f).trans (Tab.get_put ..).symm

end Sys2Proof.Machine
end

section
/-! FAULT, a timeout and rediscovery: the obligation (R160, R161, R165, R166). -/

namespace Sys2Proof.Machine

variable {s t u w : State} {b : BankIx} {x : Exchange} {code : Option Nat} {q : BankWait} {e : EngineIx}
  {v : Service} {c : WorkingCopy} {k : Bank} {o : StepOutcome}

theorem State.Loses.closes (hl : s.Loses w b code) (h : w.Closes t e c o none none) :
    s.Closes t e c o none none := by
  obtain ⟨heng, hout, hres⟩ := h
  rw [hl.engines_eq] at heng
  rw [hl.outbox_eq] at hout
  rw [hl.feed_eq] at hres
  exact ⟨heng, hout, hres⟩

theorem State.Loses.onLoad (hl : s.Loses w b code) (h : s.OnLoad e c) : w.OnLoad e c := by
  unfold State.OnLoad
  rw [hl.engine_eq]
  exact h

/-- R115, R160: what the loss of a RELEASING bank leaves at the engine that asked its release. -/
theorem State.Loses.releasing {d : Verdict} (hl : s.Loses w b code) (hp : (s.engine e).phase = .unload)
    (hr : (s.engine e).releasing = true) (hc : (s.engine e).copy = some c)
    (hv : (s.engine e).verdict = some d) (hs : (s.engine e).stop = none) :
    let t := w.bankGone e b
    t.feed.waits = s.feed.waits ∧ (t.bank b).state = .offline ∧ (∀ f, f ≠ e → t.engine f = s.engine f) ∧
      ((∀ g ∈ (s.engine e).grant, g.bank = b) → t.engine e = Engine.free ∧
        t.outbox = s.outbox.put e (s.outbox.get e ++
          [.close c.handle c.index c.kind d.outcome d.value d.cause c.attempt false])) ∧
      ((∃ g ∈ (s.engine e).grant, g.bank ≠ b) → t.outbox = s.outbox ∧
        t.engine e = { s.engine e with grant := (s.engine e).grant.filter (·.bank ≠ b) }) := by
  have honly := State.OnlyEngine.bankGone w e b
  rw [← hl.engine_eq] at hp hr hc hv hs
  obtain ⟨-, hlast, hmore⟩ := State.bankGone_releasing (b := b) hp hr hc hv hs
  rw [hl.engine_eq, hl.outbox_eq] at hlast hmore
  refine ⟨by rw [honly.feedWaits, hl.feed_eq], ?_, fun f hf => (honly.engines f hf).trans (hl.engine_eq f),
    hlast, hmore⟩
  rw [honly.banks b (Engine.not_mem_dropBank _), hl.bank_lost]
  rfl

/-- R160: what the loss of a bank of a grant leaves. -/
theorem State.Loses.granted (hl : s.Loses w b code) (h : s.OnLoad e c) :
    let t := w.grantLost e b
    t.feed.waits = s.feed.waits ∧ t.bank b = (s.bank b).lost code ∧
      ((∀ g ∈ (s.engine e).grant, g.bank = b) → s.Closes t e c .bankFault none none) ∧
      ((∃ g ∈ (s.engine e).grant, g.bank ≠ b) → (t.engine e).stop = some .bankFault ∧
        (t.engine e).phase = .unload ∧
        (t.engine e).grant.map (·.bank) = ((s.engine e).grant.map (·.bank)).filter (· ≠ b) ∧
        (∀ f, f ≠ e → t.engine f = s.engine f)) := by
  have ho := hl.onLoad h
  have heng := hl.engine_eq e
  by_cases hall : ∀ g ∈ (s.engine e).grant, g.bank = b
  · obtain ⟨hcl, hfeed, harb⟩ := State.grantLost_last ho (heng ▸ hall)
    refine ⟨by rw [hfeed, hl.feed_eq]; rfl, ?_, fun _ => hl.closes hcl,
      fun ⟨g, hg, hne⟩ => absurd (hall g hg) hne⟩
    exact (congrArg (·.roster.get b) harb).trans hl.bank_lost
  · push Not at hall
    obtain ⟨hstop, hphase, hgrant, honly⟩ := State.grantLost_more ho (heng ▸ hall)
    rw [heng] at hgrant
    obtain ⟨g, hg, hne⟩ := hall
    refine ⟨by rw [honly.feedWaits, hl.feed_eq], ?_, fun hall => absurd (hall g hg) hne,
      fun _ => ⟨hstop, hphase, hgrant, fun f hf => (honly.engines f hf).trans (hl.engine_eq f)⟩⟩
    exact (honly.banks b (Engine.not_mem_dropBank _)).trans hl.bank_lost

/-- R166: what the last bank lost of a service that has been withdrawn leaves. -/
theorem State.Loses.withdrawn {why : StopCause} (hl : s.Loses w b code) (hc : (s.engine e).copy = some c)
    (hv : (s.engine e).verdict = none) (hs : (s.engine e).stop = some why) :
    let t := (w.setService none).acquireExit e
    s.Closes t e c why.outcome none none ∧ t.feed = s.feed.drop e ∧ t.arb.service = none := by
  have hstop : s.Stopping (w.setService none) e c why :=
    ⟨⟨s.engine e, hl.engines_eq.trans (Tab.put_get_self ..).symm, hc, hv, hs⟩, hl.outbox_eq⟩
  obtain ⟨hcl, hfeed, harb⟩ := hstop.acquireExit hl.feed_eq
  exact ⟨hcl, hfeed, by rw [harb]; rfl⟩

/-- R165: the request has come back, with the feed and the messages as they were. -/
theorem State.ServiceFailed.back (hf : s.ServiceFailed u b code v) (ht : t = u.requestBack v c) :
    t.arb.waits = [v.returned c] ∧ t.outbox = s.outbox ∧ t.feed = s.feed ∧
      t.engine v.engine = { s.engine v.engine with bankReq := .waiting } ∧
      ∀ y ∈ v.chosen, y ≠ b → (s.bank y).state = .connecting → s.exchange y = none →
        t.bank y = { s.bank y with state := .idle } ∧ ∀ z ∈ t.arb.asked, z.bank ≠ y := by
  have hframe := hf.frame
  subst ht
  refine ⟨rfl, ?_, ?_, ?_, hf.freed⟩
  · show u.outbox = s.outbox
    rw [hframe]
  · show u.feed = s.feed
    rw [hframe]
  · rw [State.requestBack, State.engine_modEngine, if_pos rfl, hframe]
    rfl

/-- R163, R165: the request has come back and is in service again. -/
theorem State.ServiceFailed.met {d : BankIx} {ds : List BankIx} (hf : s.ServiceFailed u b code v)
    (hd : ∀ y ∈ d :: ds, (u.bank y).state = .idle)
    (ht : t = (u.requestBack v c).inService (v.returned c) [] d ds) :
    t.arb.waits = [] ∧ t.outbox = s.outbox ∧ t.feed = s.feed ∧
      t.engine v.engine = { s.engine v.engine with bankReq := .connecting } ∧
      t.arb.service = some ⟨v.engine, v.need, v.bay, v.joined, d :: ds, .active⟩ ∧
      ⟨d, .connect v.bay, false⟩ ∈ t.arb.asked ∧ ∀ y ∈ d :: ds, y ≠ b ∧ (t.bank y).state = .connecting := by
  obtain ⟨-, hout, hfeed, heng, -⟩ := hf.back (c := c) rfl
  obtain ⟨hframe, hengine, harb, hbank⟩ := (u.requestBack v c).inService_spec (v.returned c) [] d ds
  rw [← ht] at hframe hengine harb hbank
  refine ⟨by rw [harb], by rw [hframe]; exact hout, by rw [hframe]; exact hfeed, ?_, by rw [harb]; rfl, ?_,
    fun y hy => ⟨fun hyb => ?_, ?_⟩⟩
  · exact (hengine v.engine).trans ((if_pos rfl).trans (congrArg (fun en => { en with bankReq := .connecting }) heng))
  · rw [harb]
    exact List.mem_append_right _ (.head _)
  · have hidle := hd y hy
    rw [hyb, hf.lost] at hidle
    exact BankState.noConfusion hidle
  · rw [hbank, if_pos hy]

theorem State.Loses.online_eq (hl : s.Loses w b code) : w.totalOnline = s.onlineWithout b :=
  State.totalOnline_without hl.straps_eq hl.cap_eq hl.offline_iff

theorem State.Loses.idle_eq (hl : s.Loses w b code) : w.idleTotal =
    ((s.addresses.filter fun y => y ≠ b && (s.bank y).state = .idle).map fun y => (s.bank y).cap).sum :=
  State.idleTotal_congr hl.straps_eq hl.cap_eq fun y => by
    rw [hl.idle_iff]
    simp

/-! ### With one request waiting -/

section waiting

variable (hl : s.Loses w b code) (hq : s.arb.waits = [q]) (hp : (s.engine q.engine).phase = .acquire)
  (hc : (s.engine q.engine).copy = some c) (hv : (s.engine q.engine).verdict = none)
  (hst : (s.engine q.engine).stop = none)
include hl hq hp hc hv hst

/-- R111, R160: the loss of a bank that no engine holds tests the request that waits. -/
theorem State.Loses.unheld_waiting (hloss : w.afterLoss b (s.bank b) = w) :
    let t := w.lossDone b (s.bank b) s
    t.feed.waits = s.feed.waits ∧ t.arb.service = s.arb.service ∧
      (s.onlineWithout b < q.need → t.arb.waits = [] ∧ s.Closes t q.engine c .noCapacity none none) ∧
      (q.need ≤ s.onlineWithout b → t.arb.waits = [q] ∧ t.engines = s.engines ∧ t.outbox = s.outbox ∧
        t.feed = s.feed) := by
  have hqw : w.arb.waits = [q] := hl.waits.trans hq
  have hon := hl.online_eq
  dsimp only
  rcases Nat.lt_or_ge (s.onlineWithout b) q.need with hlt | hle
  · obtain ⟨hcl, hfeed, hwaits, hserv⟩ := State.lossDone_refused hloss hqw (hon ▸ hlt) hl.engines_eq
      hl.outbox_eq hl.feed_eq hp hc hv hst
    exact ⟨by rw [hfeed]; rfl, hserv.trans hl.service, fun _ => ⟨hwaits, hcl⟩, fun h => absurd hlt h.not_gt⟩
  · have htest : w.testAfter s = w := State.testAfter_of_service (by rw [hl.service]; exact em _)
    rw [State.lossDone_tested hloss hqw (hon ▸ hle), htest]
    exact ⟨by rw [hl.feed_eq], hl.service, fun h => absurd h hle.not_gt,
      fun _ => ⟨hqw, hl.engines_eq, hl.outbox_eq, hl.feed_eq⟩⟩

/-- R160, R165: the last bank lost of a service that has failed lets the waiting request go into service. -/
theorem State.Loses.drained_waiting (hs : s.arb.service = some v)
    (hloss : w.afterLoss b (s.bank b) = w.setService none) :
    let t := w.lossDone b (s.bank b) s
    let idle := ((s.addresses.filter fun y => y ≠ b && (s.bank y).state = .idle).map fun y => (s.bank y).cap).sum
    t.feed.waits = s.feed.waits ∧
      (s.onlineWithout b < q.need → t.arb.service = none ∧ t.arb.waits = [] ∧
        s.Closes t q.engine c .noCapacity none none) ∧
      (q.need ≤ s.onlineWithout b → idle < q.need → t.arb.service = none ∧ t.arb.waits = [q] ∧
        t.engines = s.engines ∧ t.outbox = s.outbox ∧ t.feed = s.feed) ∧
      (q.need ≠ 0 → q.need ≤ s.onlineWithout b → q.need ≤ idle →
        t.arb.waits = [] ∧ t.outbox = s.outbox ∧ t.feed = s.feed ∧
        t.engines = s.engines.put q.engine { s.engine q.engine with bankReq := .connecting } ∧
        ∃ d ds, t.arb.service = some ⟨q.engine, q.need, q.bay, q.joined, d :: ds, .active⟩ ∧
          ⟨d, .connect q.bay, false⟩ ∈ t.arb.asked) := by
  intro t idle
  have hqw : (w.setService none).arb.waits = [q] := hl.waits.trans hq
  have hserv : s.arb.service ≠ none := by rw [hs]; exact Option.some_ne_none v
  have hidle : (w.setService none).idleTotal = idle := hl.idle_eq
  have hon : (w.setService none).totalOnline = s.onlineWithout b := hl.online_eq
  rcases Nat.lt_or_ge (s.onlineWithout b) q.need with hlt | hle
  · obtain ⟨hcl, hfeed, hwaits, hnone⟩ := State.lossDone_refused hloss hqw (hon ▸ hlt) hl.engines_eq
      hl.outbox_eq hl.feed_eq hp hc hv hst
    exact ⟨by rw [show t.feed = _ from hfeed]; rfl, fun _ => ⟨hnone, hwaits, hcl⟩, fun h => absurd hlt h.not_gt,
      fun _ h => absurd hlt h.not_gt⟩
  have htested : t = (w.setService none).bankTest := (State.lossDone_tested hloss hqw (hon ▸ hle)).trans
    (State.testAfter_of_ended (t := w.setService none) hserv rfl)
  by_cases hm : q.need = 0 ∨ idle < q.need
  · rw [htested, State.bankTest_stands hqw (hidle ▸ hm)]
    refine ⟨congrArg Feed.waits hl.feed_eq, fun h => absurd h hle.not_gt,
      fun _ _ => ⟨rfl, hqw, hl.engines_eq, hl.outbox_eq, hl.feed_eq⟩, fun hn _ hmet => ?_⟩
    exact absurd hm (not_or.mpr ⟨hn, hmet.not_gt⟩)
  · obtain ⟨hn, hmet⟩ := not_or.mp hm
    obtain ⟨d, ds, htest, -⟩ := State.bankTest_meets (s := w.setService none) rfl hqw hn (hidle ▸ not_lt.mp hmet)
    obtain ⟨hframe, -, harb, -⟩ := (w.setService none).inService_spec q [] d ds
    have hengines : ((w.setService none).inService q [] d ds).engines =
        s.engines.put q.engine { s.engine q.engine with bankReq := .connecting } := by
      rw [State.inService_engines]
      show w.engines.put q.engine { w.engine q.engine with bankReq := .connecting } = _
      rw [hl.engines_eq, hl.engine_eq]
    have hfeed : ((w.setService none).inService q [] d ds).feed = s.feed := by
      rw [hframe]
      exact hl.feed_eq
    rw [htested, htest]
    refine ⟨congrArg Feed.waits hfeed, fun h => absurd h hle.not_gt, fun _ h => absurd h hmet,
      fun _ _ _ => ⟨by rw [harb], ?_, hfeed, hengines, d, ds, by rw [harb], ?_⟩⟩
    · rw [hframe]
      exact hl.outbox_eq
    · rw [harb]
      exact List.mem_append_right _ (.head _)

end waiting

/-- R176: the supervisor's test behind a service that leaves the feed's empty list. -/
theorem State.feedRetest_keeps (hw : s.feed.waits = []) (h : t.feed.waits = s.feed.waits) (u : State) :
    u.feedRetest t = t := State.feedRetest_of_waits _ _ (h.trans hw)

/-- Settles O57: the bank is lost (`State.Loses`), and each case of the statement has its lemma of what follows. -/
theorem lostBanksAreRediscovered : Obligations.LostBanksAreRediscovered := by
  refine ⟨fun s b x cmd code hh ho hx hfw hcmd => ?lost, fun s hh ho => exec_rediscoveryTimer hh ho⟩
  intro online idleSum unheld
  obtain ⟨k, a, hexec, htimeout, hfault⟩ := exec_of_lost hh ho hx hcmd
  have hl := s.bankLost_loses b code k a
  have hlose : (s.atTime k a).loseBank b code = State.feedRetest (s.atTime k a)
    (((s.atTime k a).bankLost b code).lossDone b (s.bank b) s) := rfl
  have hnow : ((s.atTime k a).bankLost b code).now = k := rfl
  have hstore : ((s.atTime k a).bankLost b code).store = s.store := rfl
  generalize (s.atTime k a).bankLost b code = w at *
  rw [hlose] at hexec
  clear hlose
  have hsh : (State.feedRetest (s.atTime k a) (w.lossDone b (s.bank b) s)).shell = w.shell :=
    (State.feedRetest_shell ..).trans (State.lossDone_shell ..)
  have hdone := fun h => State.feedRetest_keeps (t := w.lossDone b (s.bank b) s) hfw h (s.atTime k a)
  have hstore' := (State.shell_store hsh).trans hstore
  have hnow' := (State.shell_now hsh).trans hnow
  have hexch (y : BankIx) : State.exchange (State.feedRetest (s.atTime k a) (w.lossDone b (s.bank b) s)) y =
      w.exchange y := congrArg (·.get y) (State.shell_exchanges hsh)
  generalize State.feedRetest (s.atTime k a) (w.lossDone b (s.bank b) s) = t at *
  refine ⟨t, hexec, (hexch b).trans hl.closed, fun y hy => (hexch y).trans (hl.exchanges y hy),
    fun h => hnow'.trans (htimeout h), fun h => hnow'.trans (hfault h), fun hw => ⟨fun hu => ?unheld,
      fun e c d hk he hp hr hc hv hs => ?releasing, fun e c hk hv he hload => ?granted,
      fun v c hs hb hk hp hc hv => ?chosen⟩, fun q c hq hp hreq hc hv hst => ?waiting⟩
  case unheld =>
    rw [hl.lossDone_unheld hw hu] at hdone
    obtain rfl := hdone (by rw [hl.feed_eq])
    exact ⟨hl.bank_lost, hl.asked, fun y hy => hl.bank_kept hy, hl.frame⟩
  case releasing =>
    rw [hl.lossDone_releasing hw hk he] at hdone
    obtain ⟨hf, hrest⟩ := hl.releasing hp hr hc hv hs
    obtain rfl := hdone hf
    exact hrest
  case granted =>
    rw [hl.lossDone_granted hw hk he hv (hl.onLoad hload)] at hdone
    obtain ⟨hf, hbank, hlast, hmore⟩ := hl.granted hload
    obtain rfl := hdone hf
    exact ⟨by rw [hbank]; rfl, by rw [hbank]; rfl, hstore', hlast, hmore⟩
  case chosen =>
    have hloss := State.afterLoss_chosen (hl.service.trans hs) hb (hk.imp_right And.right)
    refine ⟨fun hact hst => ?active, fun hst => ?failed, fun why hst hstop => ?withdrawn⟩
    case failed =>
      rw [hl.lossDone_failed hw hloss hst] at hdone
      obtain rfl := hdone (congrArg Feed.waits hl.feed_eq)
      exact ⟨rfl, hl.engines_eq, hl.outbox_eq, hl.feed_eq⟩
    case withdrawn =>
      rw [hl.lossDone_withdrawn hw hloss hst] at hdone
      obtain ⟨⟨heng, hout, hres⟩, hfeed, hserv⟩ := hl.withdrawn hc hv hstop
      obtain rfl := hdone (by rw [hfeed]; rfl)
      exact ⟨hserv, heng, hout, hres⟩
    case active =>
      intro stillOpen freed idle returned back
      have hsf := hl.serviceFailed v
      obtain ⟨hkept, hothers, hfeed⟩ := hl.lossDone_active hw hs hact hloss hp hc hv hst
      obtain rfl := hdone hfeed
      have hidle : idle = s.idleFreed v b := rfl
      have hbank : State.bank (w.lossDone b (s.bank b) s) b = (s.bank b).lost code :=
        (hkept.bank b (by rw [hsf.lost]; exact BankState.noConfusion)).trans hsf.lost
      refine ⟨by rw [hbank]; rfl, by rw [hbank]; rfl, hothers, hstore', fun y hy hne hcon => ?released,
        fun hopen => ?stays, fun hlt => ?short, fun hle hopen => ?waits, fun hle hno hlt => ?again,
        fun hn hno hle hm => ?met⟩
      case released =>
        obtain ⟨hrel, hasked⟩ := hsf.released y hy hne hcon
        exact ⟨(hkept.bank y (by rw [hrel]; exact BankState.noConfusion)).trans hrel, hkept.asked _ hasked⟩
      case stays =>
        have hserv := hsf.waiting hopen
        refine ⟨(hkept.service (by rw [hserv]; exact Option.some_ne_none _)).trans hserv,
          fun y hy hne hcon hx => ?_⟩
        have hstand := hsf.stands y hy hne hcon hx
        exact (hkept.bank y (by rw [hstand, hcon]; exact BankState.noConfusion)).trans hstand
      case short =>
        obtain ⟨⟨heng, hout, -⟩, -, harb⟩ := hl.lossDone_short hw hact hloss hp hc hv hst hlt
        exact ⟨(congrArg (·.get v.engine) heng).trans (Tab.get_put_same ..), hout,
          fun hno => by rw [harb, (hsf.ended hno).1]⟩
      case waits =>
        exact hsf.back (hl.lossDone_back hw hact hloss hc hle (.inl hopen))
      case again =>
        have hback := hl.lossDone_back hw hact hloss hc hle (.inr (.inr (hidle ▸ hlt)))
        exact ⟨by rw [hback]; exact (hsf.ended hno).1, hsf.back hback⟩
      case met =>
        obtain ⟨d, ds, hdone', hsum, hall⟩ := hl.lossDone_met hw hs hact hloss hc hle hn hno (hidle ▸ hm)
        obtain ⟨hwaits, hout, hfeeds, heng, hserv, hasked, hbanks⟩ := hsf.met hall hdone'
        exact ⟨hwaits, hout, hfeeds, heng, d, ds, hserv, hsum, hasked, hbanks⟩
  case waiting =>
    intro refused waits
    refine ⟨fun hu => ?free, fun v hk hs hfail hb => ?drained⟩
    case free =>
      obtain ⟨hfeed, hrest⟩ := hl.unheld_waiting hq hp hc hv hst (State.afterLoss_unheld (b := b) hu)
      obtain rfl := hdone hfeed
      exact hrest
    case drained =>
      have hloss : w.afterLoss b (s.bank b) = w.setService none :=
        (State.afterLoss_chosen (hl.service.trans hs) hb (.inl hk)).trans (by simp only [State.chosenLost, hfail])
      obtain ⟨hfeed, hrest⟩ := hl.drained_waiting hq hp hc hv hst hs hloss
      obtain rfl := hdone hfeed
      exact hrest

end Sys2Proof.Machine
end

section
/-! The feed supervisor at a soft reset, and the two settings of the feed (R173, R174, R176, R186). -/

namespace Sys2Proof.Machine

variable {s : State} {l : Link} {q : Request}

/-! ### The soft reset (R186) -/

/-- R172: the arbiter's part of a soft reset writes the arbiter alone. -/
theorem State.softArbiter_frame (s : State) :
    s.softArbiter.feed = s.feed ∧ s.softArbiter.engines = s.engines := by
  unfold State.softArbiter
  rw [foldl_keeps State.feed State.askOwnRelease fun _ _ => rfl,
    foldl_keeps State.engines State.askOwnRelease fun _ _ => rfl]
  exact ⟨rfl, rfl⟩

/-- R125, R186: the lists of the feed supervisor are emptied, its settings and counts stay, and every engine is
FREE. -/
theorem State.softReset_feed_engine (s : State) :
    s.softReset.feed = s.feed.softReset ∧ ∀ e, s.softReset.engine e = Engine.free := by
  have hfeed := s.softHeld_feed
  unfold State.softHeld at hfeed
  unfold State.softReset State.engine
  generalize ((List.finRange 32).foldl softHold s).setQueue [] = u at hfeed ⊢
  rw [(State.softArbiter_frame _).1, (State.softArbiter_frame _).2, ← hfeed]
  exact ⟨rfl, Tab.get_fill _⟩

@[simp] theorem State.answer_feed (s : State) (l : Link) (c : Code) (body : List Byte) :
    (s.answer l c body).feed = s.feed := by rw [s.answer_frame]

@[simp] theorem State.completeWaiting_feed (s : State) (l : Link) :
    (s.completeWaiting l).feed = s.feed := by
  unfold State.completeWaiting
  split
  · split
    · exact s.answer_feed ..
    · rfl
  · rfl

/-- Settles O39: the reset empties the lists of the feed, so that a submission made then stands alone and is held
to the whole of B − G. -/
theorem feedAtASoftReset : Obligations.FeedAtASoftReset := by
  intro l s q hs hb ht
  have hfeed : (((s.answer l .ok []).completeWaiting (otherLink l)).softReset).feed = s.feed.softReset := by
    rw [(State.softReset_feed_engine _).1, State.completeWaiting_feed, State.answer_feed]
  refine ⟨_, congrArg Host.Outcome.next (State.serveStation_of_serving hs hb ht _), hfeed,
    (State.softReset_feed_engine _).2, fun e n p b => ?_, fun w => ?_⟩
  · rw [hfeed]
    rfl
  · rw [hfeed]
    exact Feed.fits_iff

/-! ### The settings of the feed (R173, R174, R176) -/

/-- Feeds of one shell differ in their lists, the total and the numbers given out alone. -/
theorem Feed.shell_frame {f g : Feed} (h : f.shell = g.shell) :
    f = { g with reservations := f.reservations, total := f.total, waits := f.waits,
                 nextNumber := f.nextNumber, nextJoin := f.nextJoin } := by
  obtain ⟨⟩ := f
  obtain ⟨⟩ := g
  simp only [Feed.shell, Feed.mk.injEq] at h ⊢
  tauto

theorem execSetBudget_of_serving {b g : Nat} (hs : s.Serving l .setBudget q)
    (hb : readAll readBudgetBody q.body = some (b, g)) (ht : q.tier = 0) :
    exec (.setBudget l) s =
      .next ((s.settled.storeBudget b g).answer l .ok (be16 b ++ be16 (min g b))) := by
  refine congrArg Host.Outcome.next ((State.serve_of_serving hs _).trans ?_)
  simp only [hb, ht, Nat.lt_irrefl, if_false]

theorem execSetFeedWindow_of_serving {lo hi : Nat} (hs : s.Serving l .setFeedWindow q)
    (hb : readAll readWindowBody q.body = some (lo, hi)) (ht : q.tier = 0) :
    exec (.setFeedWindow l) s =
      .next ((s.setFeed (s.feed.setWindow lo hi)).answer l .ok (be16 lo ++ be16 hi)) := by
  refine congrArg Host.Outcome.next ((State.serve_of_serving hs _).trans ?_)
  simp only [hb, ht, Nat.lt_irrefl, if_false]

/-- R176: a single submission that fits is admitted. -/
theorem State.feedTest_of_single {w : FeedWait} (hw : s.feed.waits = [w])
    (hf : s.feed.fits w = true) : s.feedTest = s.admitHead w := by
  simp [State.feedTest, State.feedTestUpTo, hw, hf]

/-- R173, R176: with no submission that fits, the budget and the guard alone are stored. -/
theorem State.storeBudget_of_unfit {b g : Nat} (h : ∀ w ∈ s.feed.waits.head?, s.feed.window ≠ .normal ∨
    b - min g b < s.feed.total + w.amount) :
    s.storeBudget b g = s.setFeed (s.feed.setBudget b g) := by
  unfold State.storeBudget State.feedTest
  cases hw : (s.feed.setBudget b g).waits with
  | nil => simp [hw, State.feedTestUpTo]
  | cons w ws =>
    have hfit : (s.feed.setBudget b g).fits w = false := Bool.eq_false_iff.mpr fun hf => by
      obtain ⟨hn, hle⟩ := Feed.fits_iff.mp hf
      have hhead : w ∈ s.feed.waits.head? := by
        rw [show s.feed.waits = w :: ws from hw]
        rfl
      exact (h w hhead).elim (· hn) hle.not_gt
    simp [hw, State.feedTestUpTo, hfit]

/-- R173, R176: a single submission that fits in the new budget is admitted. -/
theorem State.storeBudget_of_fits {b g : Nat} {w : FeedWait} (hw : s.feed.waits = [w])
    (hn : s.feed.window = .normal) (hle : s.feed.total + w.amount ≤ b - min g b) :
    s.storeBudget b g = (s.setFeed (s.feed.setBudget b g)).admitHead w :=
  State.feedTest_of_single hw (Feed.fits_iff.mpr ⟨hn, hle⟩)

/-- R176: the last submission of the list leaves it empty when it is admitted. -/
theorem Feed.admitted_waits_of_single {f : Feed} {w : FeedWait} (hw : f.waits = [w]) :
    (f.admitted w).waits = [] := by
  simp [Feed.admitted, hw]

/-- R173: what is stored, whatever the test of the list admits: the new budget and guard, and every other
setting, every count and every link as it was. -/
theorem State.storeBudget_keeps (s : State) (b g : Nat) :
    let t := s.storeBudget b g
    t.feed = { s.feed with budget := b, guard := min g b, reservations := t.feed.reservations,
                           total := t.feed.total, waits := t.feed.waits,
                           nextNumber := t.feed.nextNumber, nextJoin := t.feed.nextJoin } ∧
      t.store = s.store ∧ t.now = s.now ∧ ∀ k, t.link k = s.link k := by
  have hsh : (s.storeBudget b g).shell = (s.setFeed (s.feed.setBudget b g)).shell :=
    State.feedTest_shell _
  refine ⟨Feed.shell_frame (State.shell_feed hsh), (State.shell_store hsh).trans rfl,
    (State.shell_now hsh).trans rfl, fun k => ?_⟩
  cases k
  · exact (State.shell_execLink hsh).trans rfl
  · exact (State.shell_consoleLink hsh).trans rfl

/-- Settles O36: the budget is stored ahead of the test of the list, and the window with no test. -/
theorem feedSettingsAreStored : Obligations.FeedSettingsAreStored := by
  intro l s₀ q ht
  refine ⟨fun b g hs hb => ?_, fun lo hi hs hb => ?_⟩
  · have hq := (congrArg LinkState.request (s₀.settled_link l)).trans hs.request
    refine ⟨_, execSetBudget_of_serving hs hb ht, ?_⟩
    generalize s₀.settled = s at hq ⊢
    obtain ⟨hfeed, hstore, hnow, hlink⟩ := s.storeBudget_keeps b g
    have hans := State.answer_answers hlink hnow hq .ok (be16 b ++ be16 (min g b))
    have hframe := (s.storeBudget b g).answer_frame l .ok (be16 b ++ be16 (min g b))
    generalize (s.storeBudget b g).answer l .ok (be16 b ++ be16 (min g b)) = t at hframe hans ⊢
    have htf : t.feed = (s.storeBudget b g).feed := by rw [hframe]
    have hset := htf.trans hfeed
    refine ⟨by rw [hset], by rw [hset], by rw [hset], by rw [hset], by rw [hset], by rw [hset], by rw [hset],
      by rw [hset], by rw [hset], hans, by rw [hframe, ← hstore], fun hu => ?_, fun w hw hn hle => ?_⟩
    · rw [State.storeBudget_of_unfit hu] at hframe
      exact hframe
    · rw [State.storeBudget_of_fits hw hn hle] at hframe htf
      have heng := congrArg State.engines hframe
      refine ⟨(congrArg Feed.waits htf).trans (Feed.admitted_waits_of_single hw),
        congrArg Feed.total htf, congrArg Feed.reservations htf, heng, ?_⟩
      rw [htf, heng]
      exact hframe
  · exact ⟨_, execSetFeedWindow_of_serving hs hb ht,
      State.answer_answers (u := s₀.setFeed (s₀.feed.setWindow lo hi)) (fun k => by cases k <;> rfl) rfl
        hs.request .ok _, State.answer_frame ..⟩

end Sys2Proof.Machine
end

section
/-! SUPPORT. A stop cause at an engine, by what it finds there (R117, R118). -/

namespace Sys2Proof.Machine

variable {s : State} {e : EngineIx} {c : StopCause}

/-- R117, R118: what holds after each way in which an engine may meet a stop cause holds after it: the engine drops
the cause, keeps ABORTED beside its verdict, or takes it by its phase. -/
theorem State.takeStop_rule {P : State → Prop} (drops : P s)
    (late : c = .aborted → (s.engine e).stop = none → (s.engine e).verdict ≠ none →
      P (s.modEngine e fun en => { en with stop := some c }))
    (reserve : (s.engine e).verdict = none → (s.engine e).stop = none → (s.engine e).phase = .reserve →
      P (((s.stopped e c).feedWithdraw e).engineClose e))
    (acquire : (s.engine e).verdict = none → (s.engine e).stop = none → (s.engine e).phase = .acquire →
      P (match (s.engine e).bankReq with
        | .connecting => (s.stopped e c).withdraw e
        | .waiting => ((s.stopped e c).bankWithdraw e).acquireExit e
        | _ => (s.stopped e c).acquireExit e))
    (load : (s.engine e).verdict = none → (s.engine e).stop = none →
      (s.engine e).phase = .load ∨ (s.engine e).phase = .watch →
      P ((if (s.engine e).justGranted s.now then (s.stopped e c).recallSets e
        else s.stopped e c).enterUnload e))
    (unload : (s.engine e).verdict = none → (s.engine e).stop = none → (s.engine e).phase = .unload →
      P (s.stopped e c)) : P (s.takeStop e c) := by
  cases hs : (s.engine e).stop with
  | some x =>
    unfold State.takeStop
    dsimp only
    split
    · exact drops
    · exact drops
    · rwa [hs]
  | none =>
  cases hv : (s.engine e).verdict with
  | some v =>
    unfold State.takeStop
    simp only [hs, hv]
    split
    · exact drops
    · exact drops
    · split
      next hc => exact late hc hs (hv ▸ Option.some_ne_none v)
      next => exact drops
  | none =>
  cases hp : (s.engine e).phase with
  | free => simpa only [State.takeStop, hp] using drops
  | close => simpa only [State.takeStop, hp] using drops
  | reserve => exact State.takeStop_reserve hv hs hp ▸ reserve hv hs hp
  | acquire => exact State.takeStop_acquire hv hs hp ▸ acquire hv hs hp
  | load => exact State.takeStop_load hv hs (.inl hp) ▸ load hv hs (.inl hp)
  | watch => exact State.takeStop_load hv hs (.inr hp) ▸ load hv hs (.inr hp)
  | unload =>
    have ht : s.takeStop e c = s.stopped e c := by
      simp only [State.takeStop, hp, hv, hs]
      rfl
    exact ht ▸ unload hv hs hp

end Sys2Proof.Machine
end

section
/-! SUPPORT. What work on one engine leaves at another: nothing, but for a bank request that the arbiter takes from
its wait list meanwhile (R163). -/

namespace Sys2Proof.Machine

/-- The submission of an engine waits at the feed supervisor. -/
def State.Submits (s : State) (e : EngineIx) : Prop := ∃ w ∈ s.feed.waits, w.engine = e

/-- The bank request of an engine waits at the arbiter. -/
def State.AwaitsBanks (s : State) (e : EngineIx) : Prop := ∃ w ∈ s.arb.waits, w.engine = e

/-- From `s` to `t` the engine has been left alone: it is as it was, or its waiting bank request has gone into
service, and neither wait list has come to name it. -/
structure State.Aside (e : EngineIx) (s t : State) : Prop where
  engine : t.engine e = s.engine e ∨
    s.AwaitsBanks e ∧ t.engine e = { s.engine e with bankReq := .connecting }
  submits : t.Submits e → s.Submits e
  awaits : t.AwaitsBanks e → s.AwaitsBanks e

namespace State.Aside

variable {s t u : State} {e f : EngineIx} {bs : List BankIx} {c : StopCause}

theorem refl (e : EngineIx) (s : State) : State.Aside e s s := ⟨.inl rfl, id, id⟩

theorem trans (h : State.Aside e s t) (k : State.Aside e t u) : State.Aside e s u where
  engine := by
    obtain hk | ⟨hw, hk⟩ := k.engine <;> rw [hk]
    · exact h.engine
    · refine .inr ⟨h.awaits hw, ?_⟩
      obtain hh | ⟨-, hh⟩ := h.engine <;> rw [hh]
  submits := h.submits ∘ k.submits
  awaits := h.awaits ∘ k.awaits

/-- An engine whose bank request does not wait is as it was. -/
theorem engine_eq (h : State.Aside e s t) (hw : ¬s.AwaitsBanks e) : t.engine e = s.engine e :=
  h.engine.resolve_right fun hc => hw hc.1

/-- What does not depend on the bank request of the engine is as it was. -/
theorem reads {α : Type} (h : State.Aside e s t) {g : Engine → α}
    (hg : ∀ en b, g { en with bankReq := b } = g en) : g (t.engine e) = g (s.engine e) := by
  obtain hh | ⟨-, hh⟩ := h.engine <;> rw [hh]
  exact hg ..

/-- A change of neither the engine nor a wait list. -/
theorem same (h : State.Aside e s t) (he : u.engine e = t.engine e) (hf : u.feed.waits = t.feed.waits)
    (ha : u.arb.waits = t.arb.waits) : State.Aside e s u :=
  h.trans ⟨.inl he, by simp [State.Submits, hf], by simp [State.AwaitsBanks, ha]⟩

theorem of_onlyEngine (h : State.Aside e s t) (ho : t.OnlyEngine u f bs) (hf : f ≠ e) :
    State.Aside e s u := h.same (ho.engines e hf.symm) ho.feedWaits ho.bankWaits

theorem foldl {α : Type} {op : State → α → State} (ho : ∀ v a, State.Aside e s v → State.Aside e s (op v a))
    (l : List α) (h : State.Aside e s t) : State.Aside e s (l.foldl op t) := by
  induction l generalizing t with
  | nil => exact h
  | cons a l ih => exact ih (ho t a h)

theorem modEngine (h : State.Aside e s t) (hf : f ≠ e) (x : Engine → Engine) :
    State.Aside e s (t.modEngine f x) := h.of_onlyEngine (.modEngine t f [] x) hf

theorem acquireExit (h : State.Aside e s t) (hf : f ≠ e) : State.Aside e s (t.acquireExit f) :=
  h.of_onlyEngine (.acquireExit t f []) hf

theorem engineClose (h : State.Aside e s t) (hf : f ≠ e) : State.Aside e s (t.engineClose f) :=
  h.of_onlyEngine (.engineClose t f []) hf

theorem setFeed (h : State.Aside e s t) {x : Feed} (hx : ∀ w ∈ x.waits, w ∈ t.feed.waits) :
    State.Aside e s (t.setFeed x) :=
  h.trans ⟨.inl rfl, fun ⟨w, hw, he⟩ => ⟨w, hx w hw, he⟩, id⟩

theorem setBankWaits (h : State.Aside e s t) {x : List BankWait} (hx : ∀ w ∈ x, w ∈ t.arb.waits) :
    State.Aside e s (t.setBankWaits x) :=
  h.trans ⟨.inl rfl, id, fun ⟨w, hw, he⟩ => ⟨w, hx w hw, he⟩⟩

theorem feedWithdraw (h : State.Aside e s t) (hf : f ≠ e) : State.Aside e s (t.feedWithdraw f) :=
  (h.setFeed (x := t.feed.withdraw f) fun _ hw => List.mem_of_mem_filter hw).modEngine hf _

theorem bankWithdraw (h : State.Aside e s t) (f : EngineIx) : State.Aside e s (t.bankWithdraw f) :=
  h.setBankWaits fun _ hw => List.mem_of_mem_filter hw

/-- R163: the test of the arbiter's list takes at most the head of it into service. -/
theorem bankTest (h : State.Aside e s t) : State.Aside e s t.bankTest := by
  unfold State.bankTest
  split
  next w rest _ hw =>
    split
    next b bs _ =>
      extract_lets s1 s2
      have hs2 : s2.engines = t.engines ∧ s2.feed = t.feed ∧ s2.arb.waits = rest := by
        refine ⟨?_, ?_, ?_⟩
        · exact foldl_keeps State.engines (fun v c => v.modBank c _) (fun _ _ => rfl) _ _
        · exact foldl_keeps State.feed (fun v c => v.modBank c _) (fun _ _ => rfl) _ _
        · exact foldl_keeps (fun v : State => v.arb.waits) (fun v c => v.modBank c _) (fun _ _ => rfl) _ _
      obtain ⟨heng, hfeed, hwaits⟩ := hs2
      refine h.trans ⟨?_, ?_, ?_⟩
      · have hget : s2.engine e = t.engine e := congrArg (·.get e) heng
        have hask := State.engine_modEngine (s2.ask ⟨b, .connect w.bay, false⟩) w.engine e fun en =>
          { en with bankReq := .connecting }
        by_cases he : e = w.engine
        · refine .inr ⟨⟨w, by rw [hw]; exact List.mem_cons_self, he.symm⟩, hask.trans ?_⟩
          rw [if_pos he, ← he]
          exact congrArg (fun en : Engine => { en with bankReq := .connecting }) hget
        · exact .inl (hask.trans ((if_neg he).trans hget))
      · exact fun ⟨x, hx, he⟩ => ⟨x, hfeed ▸ hx, he⟩
      · exact fun ⟨x, hx, he⟩ => ⟨x, by rw [hw]; exact List.mem_cons_of_mem _ (hwaits ▸ hx), he⟩
    · exact h
  · exact h

theorem endService (h : State.Aside e s t) (v : Service) (x : ServiceStatus) :
    State.Aside e s (t.endService v x) := by
  obtain ⟨ro, as, hf⟩ := State.foldl_unchoose_frame v.chosen t
  unfold State.endService
  rw [hf]
  exact h.same rfl rfl rfl

theorem withdraw (h : State.Aside e s t) (hf : f ≠ e) : State.Aside e s (t.withdraw f) := by
  unfold State.withdraw
  split
  next v _ =>
    split
    · have hs := h.endService v .withdrawn
      dsimp only
      split
      · exact (hs.acquireExit hf).bankTest
      · exact hs
    · exact h.acquireExit hf
  · exact h.acquireExit hf

/-- R117, R118: a stop cause at one engine leaves every other. -/
theorem takeStop (h : State.Aside e s t) (hf : f ≠ e) (c : StopCause) :
    State.Aside e s (t.takeStop f c) := by
  have hstop : State.Aside e s (t.stopped f c) := h.modEngine hf _
  refine State.takeStop_rule h (fun _ _ _ => h.modEngine hf _)
    (fun _ _ _ => (hstop.feedWithdraw hf).engineClose hf) (fun _ _ _ => ?_) (fun hv hs hp => ?_)
    fun _ _ _ => hstop
  · split
    · exact hstop.withdraw hf
    · exact (hstop.bankWithdraw f).acquireExit hf
    · exact hstop.acquireExit hf
  · rw [← State.takeStop_load hv hs hp]
    exact h.of_onlyEngine (.takeStop_load hv hs hp fun _ hg => List.mem_map_of_mem hg) hf

end State.Aside

end Sys2Proof.Machine
end
section
/-! SUPPORT. What a stop cause and the end of a step leave of the feed supervisor: its books with the reservation or
the submission of the engine taken out (R115, R118, R177). -/

namespace Sys2Proof.Machine

variable {s t : State} {e : EngineIx} {c : StopCause}

/-- The feed of `t` is that of `s`, or `s`'s with the reservation or the submission of the engine taken out. -/
def State.FeedLeaves (s t : State) (e : EngineIx) : Prop :=
  t.feed = s.feed ∨ t.feed = s.feed.drop e ∨ t.feed = s.feed.withdraw e

@[simp] theorem State.bankTest_feed (s : State) : s.bankTest.feed = s.feed := by
  unfold State.bankTest
  split
  · split
    · exact foldl_keeps State.feed (fun v c => v.modBank c _) (fun _ _ => rfl) _ _
    · rfl
  · rfl

@[simp] theorem State.endService_feed (s : State) (v : Service) (x : ServiceStatus) :
    (s.endService v x).feed = s.feed := by
  obtain ⟨ro, as, hf⟩ := State.foldl_unchoose_frame v.chosen s
  unfold State.endService
  rw [hf]
  rfl

theorem State.unloadAdvance_feedLeaves (s : State) (e : EngineIx) :
    (s.unloadAdvance e).feed = s.feed ∨ (s.unloadAdvance e).feed = s.feed.drop e := by
  unfold State.unloadAdvance
  dsimp only
  split
  · exact .inl rfl
  split
  · split
    · exact .inl (State.engineClose_feed ..)
    · exact .inl rfl
  split
  · split
    · exact .inr (State.engineClose_feed ..)
    · exact .inr (foldl_keeps State.feed (fun v (g : GrantBank) => v.askRelease g.bank) (fun _ _ => rfl) _ _)
  · exact .inl rfl

theorem State.enterUnload_feedLeaves (s : State) (e : EngineIx) :
    (s.enterUnload e).feed = s.feed ∨ (s.enterUnload e).feed = s.feed.drop e := by
  have hsets (l : List GrantBank) : (l.foldl (fun t g => t.askSet g.bank 0 false) s).feed = s.feed :=
    foldl_keeps State.feed (fun v (g : GrantBank) => v.askSet g.bank 0 false) (fun _ _ => rfl) _ _
  unfold State.enterUnload
  extract_lets en loaded s1 s2
  have hs2 : s2.feed = s.feed := hsets _
  rw [← hs2]
  exact s2.unloadAdvance_feedLeaves e

theorem State.withdraw_feed (s : State) (e : EngineIx) :
    (s.withdraw e).feed = s.feed ∨ (s.withdraw e).feed = s.feed.drop e := by
  unfold State.withdraw
  split
  next v _ =>
    split
    · dsimp only
      split
      · exact .inr (by simp [State.withdrawComplete])
      · exact .inl (s.endService_feed ..)
    · exact .inr (State.acquireExit_feed ..)
  · exact .inr (State.acquireExit_feed ..)

theorem State.takeStop_feedLeaves (s : State) (e : EngineIx) (c : StopCause) :
    s.FeedLeaves (s.takeStop e c) e := by
  have hrecall : ((s.stopped e c).recallSets e).feed = s.feed := ((s.stopped e c).recallSets_spec e).2.2.2.1
  refine State.takeStop_rule (P := (s.FeedLeaves · e)) (.inl rfl) (fun _ _ _ => .inl rfl) (fun _ _ _ => ?_)
    (fun _ _ _ => ?_) (fun _ _ _ => ?_) fun _ _ _ => .inl rfl
  · exact .inr (.inr (State.engineClose_feed ..))
  · split
    · exact ((s.stopped e c).withdraw_feed e).imp id .inl
    · exact .inr (.inl (State.acquireExit_feed ..))
    · exact .inr (.inl (State.acquireExit_feed ..))
  · split
    · obtain h | h := ((s.stopped e c).recallSets e).enterUnload_feedLeaves e
      · exact .inl (h.trans hrecall)
      · exact .inr (.inl (h.trans (congrArg (Feed.drop · e) hrecall)))
    · exact ((s.stopped e c).enterUnload_feedLeaves e).imp id .inl

theorem State.FeedLeaves.reservations (h : s.FeedLeaves t e) :
    ∀ x ∈ t.feed.reservations, x ∈ s.feed.reservations := by
  obtain h | h | h := h <;> rw [h]
  · exact fun _ => id
  · exact fun _ hx => List.mem_of_mem_filter hx
  · exact fun _ => id

end Sys2Proof.Machine
end

section
/-! The feed frame: what it stores, its over-draw comparison and its window judgement (R91 to R96, R179 to R183). -/

namespace Sys2Proof.Machine

variable {s t : State} {e : EngineIx} {bytes : List Byte} {f : FeedFields} {c : WorkingCopy} {d v : Nat}

/-! ### The checks of a feed frame (R92, R204, R206) -/

/-- R92: a frame is accepted when all three checks pass. -/
theorem State.acceptFeed_eq_some : s.acceptFeed bytes = some f ↔
    readFeedFields bytes = some f ∧ crc8Ok bytes = true ∧ s.feedSense.seq ≠ some f.seq := by
  unfold State.acceptFeed
  cases readFeedFields bytes with
  | none => simp
  | some g =>
    dsimp only
    split
    next h =>
      constructor
      · rintro ⟨⟩
        exact ⟨rfl, h⟩
      · exact fun hg => hg.1
    next h =>
      refine iff_of_false (by simp) ?_
      rintro ⟨⟨⟩, hg⟩
      exact h hg

/-- R92 check 1: a frame that has fields is of 7 bytes and of kind 0x02. -/
theorem readFeedFields_shape (h : readFeedFields bytes = some f) :
    bytes.length = 7 ∧ bytes.head? = some 0x02#8 := by
  unfold readFeedFields at h
  split at h
  · split at h
    next hk => exact ⟨rfl, congrArg some hk⟩
    next => cases h
  · cases h

/-- R204: the fields that the bytes of a feed frame spell. -/
def feedFieldsOf (d1 d0 v1 v0 fs : Byte) : FeedFields where
  draw := d1.toNat * 256 + d0.toNat
  volts := v1.toNat * 256 + v0.toNat
  seq := fs.toNat / 16

theorem readFeedFields_withCrc8 (d1 d0 v1 v0 fs : Byte) :
    readFeedFields (withCrc8 [0x02#8, d1, d0, v1, v0, fs]) = some (feedFieldsOf d1 d0 v1 v0 fs) := rfl

/-- R92, R194: a frame that fails a check changes nothing, held in reset or not. -/
theorem execFeedFrame_refuses (ha : s.acceptFeed bytes = none) : exec (.feedFrame bytes) s = .next s := by
  refine congrArg Host.Outcome.next ?_
  unfold State.live
  split
  · rfl
  · simp only [ha]

theorem execFeedFrame_accepts (hh : s.held = false) (ha : s.acceptFeed bytes = some f) :
    exec (.feedFrame bytes) s =
      .next (((s.storeFeed f).overDraw f.stored.draw).judgeWindow f.stored.volts) := by
  refine congrArg Host.Outcome.next ((State.live_of_released hh).trans ?_)
  simp only [ha]

/-! ### FEED_LOST to every engine past RESERVE (R183) -/

/-- R183: an engine other than the one that FEED_LOST is sent to is left alone. -/
theorem State.Aside.sendFeedLost {s t : State} {e g : EngineIx} (h : State.Aside e s t) (hg : g ≠ e) :
    State.Aside e s (sendFeedLost t g) := by
  unfold Machine.sendFeedLost
  split
  · exact (h.setFeed (x := t.feed.markSent g) fun _ hw => hw).takeStop hg _
  · exact h

/-- What holds of the engine after its own turn holds after all six, when every other turn leaves it. -/
theorem State.foldl_turn {P Q : State → Prop} {op : State → EngineIx → State} {e : EngineIx}
    (before : ∀ v g, g ≠ e → P v → P (op v g)) (turn : ∀ v, P v → Q (op v e))
    (after : ∀ v g, g ≠ e → Q v → Q (op v g)) (hs : P s) : Q ((List.finRange 6).foldl op s) := by
  have walk (l : List EngineIx) (hn : l.Nodup) : ∀ v, (Q v → e ∉ l → Q (l.foldl op v)) ∧
      (P v → e ∈ l → Q (l.foldl op v)) := by
    induction l with
    | nil => exact fun v => ⟨fun hq _ => hq, fun _ hm => absurd hm List.not_mem_nil⟩
    | cons g l ih =>
      obtain ⟨hg, hl⟩ := List.nodup_cons.mp hn
      refine fun v => ⟨fun hq hm => ?_, fun hp hm => ?_⟩
      · obtain ⟨hne, hm⟩ := not_or.mp (mt List.mem_cons.mpr hm)
        exact (ih hl _).1 (after v g (Ne.symm hne) hq) hm
      · by_cases hge : g = e
        · subst hge
          exact (ih hl _).1 (turn v hp) hg
        · exact (ih hl _).2 (before v g hge hp) ((List.mem_cons.mp hm).resolve_left (Ne.symm hge))
  exact (walk _ (List.nodup_finRange 6) s).2 hs (List.mem_finRange e)

/-- R183: FEED_LOST reaches no engine in RESERVE. -/
theorem State.feedFault_reserve (hp : (s.engine e).phase = .reserve) (hw : ¬s.AwaitsBanks e) :
    s.feedFault.engine e = s.engine e := by
  let entered := s.setFeed { s.feed with window := .fault, recoverFrom := none, outCount := 0 }
  have hstart : State.Aside e s entered := (State.Aside.refl e s).setFeed fun _ hx => hx
  have turn (v : State) (hv : State.Aside e s v) : State.Aside e s (sendFeedLost v e) := by
    have hphase : (v.engine e).phase = .reserve := (hv.reads fun _ _ => rfl).trans hp
    have hsame : sendFeedLost v e = v := by
      unfold Machine.sendFeedLost
      rw [hphase]
      rfl
    rwa [hsame]
  exact (State.foldl_turn (P := State.Aside e s) (Q := State.Aside e s) (fun _ _ hg hv => hv.sendFeedLost hg)
    turn (fun _ _ hg hv => hv.sendFeedLost hg) hstart).engine_eq hw

/-- What an engine that unloads with a stop cause shows. -/
def Engine.UnloadsFor (en : Engine) (c : StopCause) : Prop := en.stop = some c ∧ en.phase = .unload

theorem State.Aside.unloadsFor {s t : State} {e : EngineIx} {x : StopCause} (h : State.Aside e s t)
    (hs : (s.engine e).UnloadsFor x) : (t.engine e).UnloadsFor x :=
  ⟨(h.reads fun _ _ => rfl).trans hs.1, (h.reads fun _ _ => rfl).trans hs.2⟩

/-- R183: FEED_LOST reaches every engine on a load step. -/
theorem State.feedFault_onLoad (hl : s.OnLoad e c) : (s.feedFault.engine e).UnloadsFor .feedLost := by
  let entered := s.setFeed { s.feed with window := .fault, recoverFrom := none, outCount := 0 }
  have hstart : State.Aside e s entered := (State.Aside.refl e s).setFeed fun _ hx => hx
  have turn (v : State) (hv : State.Aside e s v) : ((sendFeedLost v e).engine e).UnloadsFor .feedLost := by
    obtain ⟨hc, hp, hver, hst, hg⟩ := hl
    have hload : v.OnLoad e c := by
      refine ⟨(hv.reads fun _ _ => rfl).trans hc, ?_, (hv.reads fun _ _ => rfl).trans hver,
        (hv.reads fun _ _ => rfl).trans hst, ?_⟩
      · rwa [hv.reads (g := Engine.phase) fun _ _ => rfl]
      · rwa [hv.reads (g := Engine.grant) fun _ _ => rfl]
    have hpast : (v.engine e).phase.pastReserve = true := by
      obtain hp | hp := hload.2.1 <;> rw [hp] <;> rfl
    unfold Machine.sendFeedLost
    rw [if_pos hpast]
    obtain ⟨hun, hstop, -⟩ :=
      State.takeStop_unloads (v.setFeed (v.feed.markSent e)) e c .feedLost hload
    exact ⟨hstop, hun.1⟩
  exact State.foldl_turn (P := State.Aside e s) (fun _ _ hg hv => hv.sendFeedLost hg) turn
    (fun v g hg hv => ((State.Aside.refl e v).sendFeedLost hg).unloadsFor hv) hstart

@[simp] theorem sendFeedLost_shell (s : State) (e : EngineIx) : (sendFeedLost s e).shell = s.shell := by
  unfold sendFeedLost
  split
  · exact (State.takeStop_shell ..).trans (State.setFeed_shell _ rfl)
  · rfl

theorem State.feedFault_shell (s : State) : s.feedFault.shell =
    (s.setFeed { s.feed with window := .fault, recoverFrom := none, outCount := 0 }).shell :=
  foldl_keeps State.shell sendFeedLost sendFeedLost_shell _ _

end Sys2Proof.Machine
end
section
/-! The window state of the feed follows the voltage, and FAULT stops the load steps (R107, R117, R181 to R183). -/

namespace Sys2Proof.Machine

variable {s t : State} {e : EngineIx} {bytes : List Byte} {f : FeedFields} {c : WorkingCopy} {d v : Nat}

/-! ### The over-draw comparison (R179, R180) -/

theorem State.overDraw_paused (h : 0 < s.feed.pause) :
    s.overDraw d = s.setFeed { s.feed with pause := s.feed.pause - 1 } := if_pos h

theorem State.overDraw_within (hp : s.feed.pause = 0) (h : d ≤ s.feed.budget) :
    s.overDraw d = s.setFeed { s.feed with overCount := 0 } := by
  unfold State.overDraw
  rw [if_neg (by omega), if_neg (by omega)]

theorem State.overDraw_counts (hp : s.feed.pause = 0) (h : s.feed.budget < d) (hn : s.feed.overCount < 2) :
    s.overDraw d = s.setFeed { s.feed with overCount := s.feed.overCount + 1 } := by
  unfold State.overDraw
  rw [if_neg (by omega), if_pos h, if_pos (by omega)]

theorem State.overDraw_sheds (hp : s.feed.pause = 0) (h : s.feed.budget < d) (hn : 2 ≤ s.feed.overCount) :
    s.overDraw d = s.shed := by
  unfold State.overDraw
  rw [if_neg (by omega), if_pos h, if_neg (by omega)]

theorem State.shed_of_none (h : s.feed.victim = none) :
    s.shed = s.setFeed { s.feed with overCount := 0 } := by
  simp only [State.shed, h]

/-- R180: the feed with the mark of the victim set, and both counts of the over-draw written. -/
def Feed.shedding (f : Feed) (r : Reservation) : Feed :=
  { f.markSent r.engine with overCount := 0, pause := Config.shedPause }

theorem State.shed_of_victim {r : Reservation} (h : s.feed.victim = some r) :
    s.shed = (s.setFeed (s.feed.shedding r)).stopEngine r.engine .shed := by
  simp only [State.shed, h]
  rfl

/-- R179, R180: the comparison writes the over-draw count and the pause, and works on engines and lists. -/
theorem State.overDraw_shell (s : State) (d : Nat) : ∃ p n,
    (s.overDraw d).shell = (s.setFeed { s.feed with pause := p, overCount := n }).shell := by
  by_cases hp : 0 < s.feed.pause
  · exact ⟨_, _, congrArg State.shell (State.overDraw_paused hp)⟩
  replace hp : s.feed.pause = 0 := by omega
  by_cases hd : s.feed.budget < d
  · by_cases hn : s.feed.overCount < 2
    · exact ⟨_, _, congrArg State.shell (State.overDraw_counts hp hd hn)⟩
    · rw [State.overDraw_sheds hp hd (by omega)]
      cases hv : s.feed.victim with
      | none => exact ⟨_, _, congrArg State.shell (State.shed_of_none hv)⟩
      | some r => exact ⟨_, _, (congrArg State.shell (State.shed_of_victim hv)).trans (State.stopEngine_shell ..)⟩
  · exact ⟨_, _, congrArg State.shell (State.overDraw_within hp (by omega))⟩

/-- R179: a draw at or below the budget changes neither engine nor list. -/
theorem State.overDraw_of_le (h : d ≤ s.feed.budget) : ∃ p n,
    s.overDraw d = s.setFeed { s.feed with pause := p, overCount := n } := by
  by_cases hp : 0 < s.feed.pause
  · exact ⟨_, _, State.overDraw_paused hp⟩
  · exact ⟨_, _, State.overDraw_within (by omega) h⟩

/-! ### The window judgement (R181, R182) -/

/-- R181: the voltage lies in the band, 50 mV inside both limits. -/
def Feed.Band (f : Feed) (v : Nat) : Prop := f.low + 50 ≤ v ∧ v + 50 ≤ f.high

theorem State.inBand_iff : s.inBand v = true ↔ s.feed.Band v := by
  simp [State.inBand, Feed.Band]

section

variable (hn : s.feed.window = .normal)
include hn

theorem State.judgeWindow_inLimits (hl : s.feed.low ≤ v) (hh : v ≤ s.feed.high) :
    s.judgeWindow v = s.setFeed { s.feed with outCount := 0 } := by
  simp [State.judgeWindow, hn, hl, hh]

theorem State.judgeWindow_firstOut (hv : v < s.feed.low ∨ s.feed.high < v) (h0 : s.feed.outCount = 0) :
    s.judgeWindow v = s.setFeed { s.feed with outCount := 1 } := by
  have hout : ¬(s.feed.low ≤ v ∧ v ≤ s.feed.high) := by omega
  simp [State.judgeWindow, hn, hout, h0]

theorem State.judgeWindow_secondOut (hv : v < s.feed.low ∨ s.feed.high < v) (h1 : 1 ≤ s.feed.outCount) :
    s.judgeWindow v = s.feedFault := by
  have hout : ¬(s.feed.low ≤ v ∧ v ≤ s.feed.high) := by omega
  have hcount : ¬s.feed.outCount + 1 < 2 := by omega
  simp only [State.judgeWindow, hn, if_neg hout, if_neg hcount]

end

theorem State.judgeWindow_recovers (hf : s.feed.window = .fault) (hb : s.feed.Band v) : s.judgeWindow v =
    s.setFeed { s.feed with window := .recovering, recoverFrom := some s.now, outCount := 0 } := by
  simp [State.judgeWindow, hf, State.inBand_iff.mpr hb]

theorem State.judgeWindow_stays (hf : s.feed.window = .fault) (hb : ¬s.feed.Band v) :
    s.judgeWindow v = s := by
  simp [State.judgeWindow, hf, mt State.inBand_iff.mp hb]

theorem State.judgeWindow_recovering (hr : s.feed.window = .recovering) (hb : s.feed.Band v) :
    s.judgeWindow v =
      s.setFeed { s.feed with recoverFrom := some (s.feed.recoverFrom.getD s.now) } := by
  simp [State.judgeWindow, hr, State.inBand_iff.mpr hb]

theorem State.judgeWindow_fails (hr : s.feed.window = .recovering) (hb : ¬s.feed.Band v) :
    s.judgeWindow v = s.feedFault := by
  simp [State.judgeWindow, hr, mt State.inBand_iff.mp hb]

/-- R181: the judgement either writes the window state with its count and timer alone, or enters FAULT. -/
theorem State.judgeWindow_cases (s : State) (v : Nat) : s.judgeWindow v = s.feedFault ∨ ∃ w o r,
    s.judgeWindow v = s.setFeed { s.feed with window := w, outCount := o, recoverFrom := r } := by
  have hset {f : Feed} (h : s.judgeWindow v = s.setFeed f)
      (hf : f = { s.feed with window := f.window, outCount := f.outCount, recoverFrom := f.recoverFrom }) :
      s.judgeWindow v = s.feedFault ∨ ∃ w o r,
        s.judgeWindow v = s.setFeed { s.feed with window := w, outCount := o, recoverFrom := r } :=
    .inr ⟨_, _, _, hf ▸ h⟩
  cases hw : s.feed.window with
  | normal =>
    by_cases hv : v < s.feed.low ∨ s.feed.high < v
    · by_cases h0 : s.feed.outCount = 0
      · exact hset (State.judgeWindow_firstOut hw hv h0) rfl
      · exact .inl (State.judgeWindow_secondOut hw hv (by omega))
    · exact hset (State.judgeWindow_inLimits hw (by omega) (by omega)) rfl
  | fault =>
    by_cases hb : s.feed.Band v
    · exact hset (State.judgeWindow_recovers hw hb) rfl
    · exact hset (f := s.feed) (State.judgeWindow_stays hw hb) rfl
  | recovering =>
    by_cases hb : s.feed.Band v
    · exact hset (State.judgeWindow_recovering hw hb) rfl
    · exact .inl (State.judgeWindow_fails hw hb)

theorem State.judgeWindow_shell (s : State) (v : Nat) : ∃ w o r, (s.judgeWindow v).shell =
    (s.setFeed { s.feed with window := w, outCount := o, recoverFrom := r }).shell := by
  obtain h | ⟨w, o, r, h⟩ := s.judgeWindow_cases v
  · exact ⟨_, _, _, (congrArg State.shell h).trans s.feedFault_shell⟩
  · exact ⟨w, o, r, congrArg State.shell h⟩

/-- R181, R183: the window state, its count and its timer after the entry into FAULT. -/
theorem State.feedFault_window (s : State) : s.feedFault.feed.window = .fault ∧
    s.feedFault.feed.outCount = 0 ∧ s.feedFault.feed.recoverFrom = none := by
  rw [Feed.shell_frame (State.shell_feed s.feedFault_shell)]
  exact ⟨rfl, rfl, rfl⟩

/-- R179: the comparison leaves what the window judgement reads. -/
theorem State.overDraw_window (s : State) (d : Nat) :
    let u := s.overDraw d
    u.feed.window = s.feed.window ∧ u.feed.low = s.feed.low ∧ u.feed.high = s.feed.high ∧
      u.feed.outCount = s.feed.outCount ∧ u.feed.recoverFrom = s.feed.recoverFrom ∧ u.now = s.now := by
  obtain ⟨p, n, h⟩ := s.overDraw_shell d
  dsimp only
  rw [Feed.shell_frame (State.shell_feed h), State.shell_now h]
  exact ⟨rfl, rfl, rfl, rfl, rfl, rfl⟩

theorem State.judgeWindow_limits (s : State) (v : Nat) :
    (s.judgeWindow v).feed.low = s.feed.low ∧ (s.judgeWindow v).feed.high = s.feed.high := by
  obtain ⟨w, o, r, h⟩ := s.judgeWindow_shell v
  rw [Feed.shell_frame (State.shell_feed h)]
  exact ⟨rfl, rfl⟩

/-- R183: whom the entry into FAULT reaches. -/
def State.FaultReaches (s t : State) : Prop :=
  (∀ e c, s.OnLoad e c → (t.engine e).stop = some .feedLost ∧ (t.engine e).phase = .unload) ∧
    ∀ e, (s.engine e).phase = .reserve → (∀ w ∈ s.arb.waits, w.engine ≠ e) → t.engine e = s.engine e

theorem State.feedFault_reaches {u : State} (he : u.engines = s.engines) (ha : u.arb = s.arb) :
    s.FaultReaches u.feedFault := by
  have hengine (e : EngineIx) : u.engine e = s.engine e := congrArg (·.get e) he
  refine ⟨fun e c hl => State.feedFault_onLoad (c := c) ?_, fun e hp hw => ?_⟩
  · unfold State.OnLoad
    rwa [hengine]
  · rw [State.feedFault_reserve (by rwa [hengine]) fun ⟨w, hm, hx⟩ => hw w (ha ▸ hm) hx]
    exact hengine e

/-! ### A stale feed and the recovery timer (R94, R181, R182) -/

theorem State.feedStaleEvent_inFault (h : s.feed.window = .fault) :
    s.feedStaleEvent = s.setFeed { s.feed with overCount := 0 } := by
  simp [State.feedStaleEvent, h]

theorem State.feedStaleEvent_faults (h : s.feed.window ≠ .fault) :
    s.feedStaleEvent = (s.setFeed { s.feed with overCount := 0 }).feedFault := by
  simp [State.feedStaleEvent, h]

/-- R94: the state in which the feed has gone STALE, at a tick and with a turn of the load link. -/
def State.feedStaled (s : State) (k : Nat) (u : Option Turn) : State :=
  { s.atTime k u with feedSense := { s.feedSense with sense := .stale } }

theorem execFeedStale_of_not_fresh (hh : s.held = false) (hf : s.feedSense.sense ≠ .fresh) :
    exec .feedStale s = .next s :=
  congrArg Host.Outcome.next ((State.live_of_released hh).trans (if_pos hf))

/-- R94: at an age of 101 the feed is STALE, which the supervisor is told. -/
theorem execFeedStale_of_fresh (hh : s.held = false) (hf : s.feedSense.sense = .fresh)
    (ho : s.ownWork = none) : ∃ k u, s.PassedTo (s.feedStaled k u) (s.feedSense.arrival + 101) ∧
      exec .feedStale s = .next (s.feedStaled k u).feedStaleEvent := by
  obtain ⟨k, u, hat, hk, hsame, hnew⟩ :=
    State.atTick_eq_atTime ho (s.feedSense.arrival + Config.feedStaleMs + 1)
  refine ⟨k, u, ⟨hk, hsame, hnew⟩,
    congrArg Host.Outcome.next ((State.live_of_released hh).trans ((if_neg (· hf)).trans ?_))⟩
  simp only [hat]
  rfl

/-- R182: the state in which the recovery has ended, at a tick and with a turn of the load link. -/
def State.recovered (s : State) (k : Nat) (u : Option Turn) : State :=
  (s.atTime k u).setFeed { s.feed with window := .normal, recoverFrom := none }

/-- R182: at 1000 ms the state is NORMAL and the list is tested. -/
theorem execRecoveryExpiry_ends {z : Nat} (hh : s.held = false) (hz : s.feed.recoverFrom = some z)
    (ho : s.ownWork = none) : ∃ k u, s.PassedTo (s.recovered k u) (z + 1000) ∧
      exec .recoveryExpiry s = .next (s.recovered k u).feedTest := by
  obtain ⟨k, u, hat, hk, hsame, hnew⟩ := State.atTick_eq_atTime ho (z + Config.recoveryMs)
  refine ⟨k, u, ⟨hk, hsame, hnew⟩, congrArg Host.Outcome.next ((State.live_of_released hh).trans ?_)⟩
  simp only [hz, hat]
  rfl

theorem State.PassedTo.of_shell {u : State} {n : Nat} (h : s.PassedTo u n) (hs : t.shell = u.shell) :
    s.PassedTo t n := by
  unfold State.PassedTo
  rw [State.shell_now hs, State.shell_turn hs]
  exact h

/-- R181, R183: the entry into FAULT is no business of the store, the sense receiver or the time base. -/
theorem State.feedFault_keeps (s : State) : let t := s.feedFault
    t.now = s.now ∧ t.arb.turn = s.arb.turn ∧ t.feedSense = s.feedSense ∧ t.store = s.store ∧
      t.feed.overCount = s.feed.overCount := by
  have hsh := s.feedFault_shell
  have hfeed := Feed.shell_frame (State.shell_feed hsh)
  dsimp only
  rw [State.shell_now hsh, State.shell_turn hsh, State.shell_feedSense hsh, State.shell_store hsh, hfeed]
  exact ⟨rfl, rfl, rfl, rfl, rfl⟩

/-- R181: a stale feed enters FAULT. -/
theorem State.feedStaleEvent_spec (h : s.feed.window ≠ .fault) : let t := s.feedStaleEvent
    t.now = s.now ∧ t.arb.turn = s.arb.turn ∧ t.feedSense = s.feedSense ∧ t.store = s.store ∧
      t.feed.overCount = 0 ∧ t.feed.window = .fault ∧ t.feed.outCount = 0 ∧ t.feed.recoverFrom = none ∧
      s.FaultReaches t := by
  rw [State.feedStaleEvent_faults h]
  obtain ⟨hnow, hturn, hsense, hstore, hover⟩ :=
    State.feedFault_keeps (s.setFeed { s.feed with overCount := 0 })
  obtain ⟨hfault, hout, hfrom⟩ := State.feedFault_window (s.setFeed { s.feed with overCount := 0 })
  have hreach : s.FaultReaches (s.setFeed { s.feed with overCount := 0 }).feedFault :=
    State.feedFault_reaches rfl rfl
  generalize State.feedFault _ = t at *
  exact ⟨hnow, hturn, hsense, hstore, hover, hfault, hout, hfrom, hreach⟩

/-- Settles O49, by the cases of the window judgement: the comparison before it leaves what it reads, and FAULT
works on each engine in its turn. -/
theorem feedWindowFollowsTheVoltage : Obligations.FeedWindowFollowsTheVoltage := by
  refine ⟨fun s bytes f hh ha => ?_, fun s hh => ⟨execFeedStale_of_not_fresh hh, fun hf ho => ?_⟩,
    fun s z hh hz ho => ?_⟩
  · refine ⟨_, execFeedFrame_accepts hh ha, ?_⟩
    obtain ⟨hwin, hlow, hhigh, hout, hfrom, hnow⟩ := (s.storeFeed f).overDraw_window f.stored.draw
    have hwithin := State.overDraw_of_le (s := s.storeFeed f) (d := f.stored.draw)
    generalize (s.storeFeed f).overDraw f.stored.draw = u at *
    have hwin : u.feed.window = s.feed.window := hwin
    have hlow : u.feed.low = s.feed.low := hlow
    have hhigh : u.feed.high = s.feed.high := hhigh
    have hout : u.feed.outCount = s.feed.outCount := hout
    have hfrom : u.feed.recoverFrom = s.feed.recoverFrom := hfrom
    have hnow : u.now = s.now := hnow
    have hlimits := u.judgeWindow_limits f.stored.volts
    rw [← hwin, ← hlow, ← hhigh, ← hout, ← hfrom, ← hnow]
    refine ⟨hlimits.1, hlimits.2, fun hn hl hv => ?_, fun hn hv h0 => ?_, fun hw hb => ?_, fun hw hb => ?_,
      fun hw hb => ?_, fun hbad => ?_⟩
    · rw [State.judgeWindow_inLimits (v := f.stored.volts) hn hl hv]
      exact ⟨hn, rfl, rfl⟩
    · rw [State.judgeWindow_firstOut (v := f.stored.volts) hn hv h0]
      exact ⟨hn, rfl, rfl⟩
    · rw [State.judgeWindow_recovers (v := f.stored.volts) hw hb]
      exact ⟨rfl, rfl, rfl⟩
    · rw [State.judgeWindow_stays (v := f.stored.volts) hw hb]
      exact ⟨hw, rfl⟩
    · rw [State.judgeWindow_recovering (v := f.stored.volts) hw hb]
      exact ⟨hw, rfl⟩
    · have hfault : u.judgeWindow f.stored.volts = u.feedFault := by
        obtain ⟨hn, hv, h1⟩ | ⟨hr, hb⟩ := hbad
        · exact State.judgeWindow_secondOut hn hv h1
        · exact State.judgeWindow_fails hr hb
      rw [hfault]
      obtain ⟨hw, ho, hr⟩ := u.feedFault_window
      refine ⟨hw, ho, hr, fun hd => ?_⟩
      obtain ⟨p, n, rfl⟩ := hwithin hd
      exact State.feedFault_reaches rfl rfl
  · obtain ⟨k, u, hp, hexec⟩ := execFeedStale_of_fresh hh hf ho
    refine ⟨_, hexec, ?_⟩
    by_cases hw : s.feed.window = .fault
    · rw [State.feedStaleEvent_inFault (s := s.feedStaled k u) hw]
      exact ⟨hp, rfl, rfl, hw, rfl, fun _ => rfl, fun hn => absurd hw hn⟩
    · obtain ⟨hnow, hturn, hsense, hstore, hover, hfault, hout, hfrom, hreach⟩ :=
        State.feedStaleEvent_spec (s := s.feedStaled k u) hw
      refine ⟨?_, hsense, hover, hfault, hstore, fun hn => absurd hn hw, fun _ => ⟨hout, hfrom, hreach⟩⟩
      unfold State.PassedTo
      rw [hnow, hturn]
      exact hp
  · obtain ⟨k, u, hp, hexec⟩ := execRecoveryExpiry_ends hh hz ho
    have hsh := State.feedTest_shell (s.recovered k u)
    have hfeed := Feed.shell_frame (State.shell_feed hsh)
    refine ⟨_, hexec, hp.of_shell hsh, by rw [hfeed]; rfl, by rw [hfeed]; rfl, (State.shell_store hsh).trans rfl,
      fun hw => ?_⟩
    rw [State.feedTest_of_waits (s.recovered k u) hw]
    rfl

end Sys2Proof.Machine
end
section
/-! The third feed frame in a row above the budget sheds the lowest-priority reservation (R92, R179, R180; log 21). -/

namespace Sys2Proof.Machine

variable {s t u : State} {e : EngineIx} {bytes : List Byte} {f : FeedFields} {c : WorkingCopy} {d v : Nat}
  {r : Reservation}

/-! ### The victim (R180) -/

/-- R180: of two candidates, the one that is shed later: of higher priority, or admitted earlier. -/
def Reservation.ShedAfter (x r : Reservation) : Prop :=
  x.priority < r.priority ∨ x.priority = r.priority ∧ x.number < r.number

theorem Feed.laterVictim_eq (a b : Reservation) : Feed.laterVictim a b = a ∨ Feed.laterVictim a b = b := by
  unfold laterVictim
  split
  · exact .inr rfl
  · exact .inl rfl

theorem Feed.laterVictim_of_shedAfter {x r : Reservation} (h : x.ShedAfter r) :
    Feed.laterVictim x r = r ∧ Feed.laterVictim r x = r := by
  unfold Reservation.ShedAfter at h
  unfold laterVictim
  simp only [Bool.or_eq_true, Bool.and_eq_true, decide_eq_true_eq]
  exact ⟨if_pos h, if_neg (by omega)⟩

/-- R180: the candidate that all others are shed after is found wherever it stands. -/
theorem Feed.foldl_laterVictim {l : List Reservation} {a r : Reservation} (hr : r ∈ a :: l)
    (hl : ∀ x ∈ a :: l, x ≠ r → x.ShedAfter r) : l.foldl Feed.laterVictim a = r := by
  induction l generalizing a with
  | nil => exact (List.mem_singleton.mp hr).symm
  | cons b l ih =>
    have hsame : Feed.laterVictim r r = r := (Feed.laterVictim_eq r r).elim id id
    have hab (x : Reservation) (hx : x ∈ Feed.laterVictim a b :: l) : x ∈ a :: b :: l := by
      obtain rfl | hx := List.mem_cons.mp hx
      · obtain h | h := Feed.laterVictim_eq a b <;> simp [h]
      · exact List.mem_cons_of_mem _ (List.mem_cons_of_mem _ hx)
    refine ih ?_ fun x hx => hl x (hab x hx)
    by_cases ha : a = r
    · subst ha
      by_cases hb : b = a
      · rw [hb, hsame]
        exact List.mem_cons_self
      · rw [(Feed.laterVictim_of_shedAfter (hl b (by simp) hb)).2]
        exact List.mem_cons_self
    · obtain rfl | hm := List.mem_cons.mp ((List.mem_cons.mp hr).resolve_left (Ne.symm ha))
      · rw [(Feed.laterVictim_of_shedAfter (hl a List.mem_cons_self ha)).1]
        exact List.mem_cons_self
      · exact List.mem_cons_of_mem _ hm

theorem Feed.candidate_iff : Feed.candidate r = true ↔ 0 < r.amount ∧ r.stopSent = false := by
  simp [Feed.candidate]

theorem Feed.victim_eq_none {f : Feed} (h : ∀ r ∈ f.reservations, r.amount = 0 ∨ r.stopSent = true) :
    f.victim = none := by
  have hnil : f.reservations.filter Feed.candidate = [] := List.filter_eq_nil_iff.mpr fun r hr hc => by
    obtain ⟨ha, hs⟩ := Feed.candidate_iff.mp hc
    obtain h | h := h r hr
    · omega
    · simp [hs] at h
  simp only [Feed.victim, hnil]

theorem Feed.victim_eq_some {f : Feed} (hr : r ∈ f.reservations) (ha : 0 < r.amount)
    (hs : r.stopSent = false) (hl : ∀ x ∈ f.reservations, 0 < x.amount → x.stopSent = false → x ≠ r →
      x.ShedAfter r) : f.victim = some r := by
  have hm : r ∈ f.reservations.filter Feed.candidate :=
    List.mem_filter.mpr ⟨hr, Feed.candidate_iff.mpr ⟨ha, hs⟩⟩
  have hall (x : Reservation) (hx : x ∈ f.reservations.filter Feed.candidate) (hne : x ≠ r) :
      x.ShedAfter r := by
    obtain ⟨hx, hc⟩ := List.mem_filter.mp hx
    obtain ⟨ha, hs⟩ := Feed.candidate_iff.mp hc
    exact hl x hx ha hs hne
  unfold Feed.victim
  split
  next hnil => simp [hnil] at hm
  next a l hcons =>
    rw [hcons] at hm hall
    exact congrArg some (Feed.foldl_laterVictim hm hall)

/-! ### The victim takes SHED and keeps it (R118, R175) -/

/-- The stop-sent mark of every reservation of the engine is set. -/
def Feed.Marked (f : Feed) (e : EngineIx) : Prop := ∀ x ∈ f.reservations, x.engine = e → x.stopSent = true

theorem Feed.markSent_marked (f : Feed) (e : EngineIx) : (f.markSent e).Marked e := by
  intro x hx he
  obtain ⟨y, -, rfl⟩ := List.mem_map.mp hx
  by_cases hy : y.engine = e
  · simp [hy]
  · simp [hy] at he

theorem Feed.Marked.markSent {f : Feed} {e : EngineIx} (h : f.Marked e) (g : EngineIx) :
    (f.markSent g).Marked e := by
  intro x hx he
  obtain ⟨y, hy, rfl⟩ := List.mem_map.mp hx
  by_cases hg : y.engine = g
  · simp [hg]
  · simp only [hg, if_false] at he ⊢
    exact h y hy he

theorem Feed.Marked.of_feedLeaves {g : EngineIx} (h : s.feed.Marked e) (hf : s.FeedLeaves t g) :
    t.feed.Marked e := fun x hx => h x (hf.reservations x hx)

/-- The engine unloads for SHED and its reservations are marked. -/
def State.HasShed (s : State) (e : EngineIx) : Prop := (s.engine e).UnloadsFor .shed ∧ s.feed.Marked e

/-- R117: an engine that unloads with a stop cause drops FEED_LOST. -/
theorem State.HasShed.sendFeedLost (h : s.HasShed e) (g : EngineIx) : (sendFeedLost s g).HasShed e := by
  obtain ⟨⟨hstop, hphase⟩, hmarks⟩ := h
  have hmark := hmarks.markSent g
  unfold Machine.sendFeedLost
  split
  · refine ⟨?_, hmark.of_feedLeaves (State.takeStop_feedLeaves ..)⟩
    by_cases hg : g = e
    · subst hg
      have hheld : (s.engine g).phase ≠ .free := by
        rw [hphase]
        decide
      rw [State.takeStop_held (s := s.setFeed (s.feed.markSent g)) hheld (x := .shed) hstop]
      exact ⟨hstop, hphase⟩
    · exact ((State.Aside.refl e (s.setFeed (s.feed.markSent g))).takeStop hg _).unloadsFor ⟨hstop, hphase⟩
  · exact ⟨⟨hstop, hphase⟩, hmarks⟩

theorem State.HasShed.judgeWindow (h : s.HasShed e) (v : Nat) : (s.judgeWindow v).HasShed e := by
  obtain hj | ⟨w, o, z, hj⟩ := s.judgeWindow_cases v <;> rw [hj]
  · let entered := s.setFeed { s.feed with window := .fault, recoverFrom := none, outCount := 0 }
    have walk (l : List EngineIx) (u : State) (hu : u.HasShed e) :
        (l.foldl Machine.sendFeedLost u).HasShed e := by
      induction l generalizing u with
      | nil => exact hu
      | cons g l ih => exact ih _ (hu.sendFeedLost g)
    have hentered : entered.HasShed e := h
    exact walk _ _ hentered
  · exact h

/-- R180: the victim on a load step takes SHED, and its mark is set. -/
theorem State.shed_hasShed (hv : s.feed.victim = some r) (hl : s.OnLoad r.engine c)
    (hw : s.feed.waits = []) : s.shed.HasShed r.engine := by
  rw [State.shed_of_victim hv]
  have hload : (s.setFeed (s.feed.shedding r)).OnLoad r.engine c := hl
  obtain ⟨hun, hstop, -⟩ := State.takeStop_unloads _ r.engine c .shed hload
  have hmark : (s.setFeed (s.feed.shedding r)).feed.Marked r.engine := s.feed.markSent_marked r.engine
  rw [State.stopEngine_onLoad _ r.engine c .shed hload hw]
  exact ⟨⟨hstop, hun.1⟩, hmark.of_feedLeaves (State.takeStop_feedLeaves ..)⟩

/-! ### What a frame leaves (R94, R179) -/

/-- R181: the judgement leaves what the over-draw comparison has written, and the settings of the budget. -/
theorem State.judgeWindow_draw (s : State) (v : Nat) : let t := s.judgeWindow v
    t.feed.budget = s.feed.budget ∧ t.feed.guard = s.feed.guard ∧ t.feed.pause = s.feed.pause ∧
      t.feed.overCount = s.feed.overCount := by
  obtain ⟨w, o, r, h⟩ := s.judgeWindow_shell v
  dsimp only
  rw [Feed.shell_frame (State.shell_feed h)]
  exact ⟨rfl, rfl, rfl, rfl⟩

theorem State.shed_draw (hv : s.feed.victim = some r) :
    s.shed.feed.pause = 5 ∧ s.shed.feed.overCount = 0 := by
  have hsh : s.shed.shell = (s.setFeed (s.feed.shedding r)).shell :=
    (congrArg State.shell (State.shed_of_victim hv)).trans (State.stopEngine_shell ..)
  rw [Feed.shell_frame (State.shell_feed hsh)]
  exact ⟨rfl, rfl⟩

/-- What a change of the feed, the engines and the lists alone leaves. -/
theorem State.setFeed_shell_keeps {f : Feed} (h : u.shell = (s.setFeed f).shell) :
    u.feedSense = s.feedSense ∧ u.store = s.store ∧ u.senses = s.senses ∧ u.bays = s.bays ∧
      u.models = s.models :=
  ⟨(State.shell_feedSense h).trans rfl, (State.shell_store h).trans rfl, (State.shell_senses h).trans rfl,
    (State.shell_bays h).trans rfl, (State.shell_models h).trans rfl⟩

/-- R94: what a frame leaves beside the supervisor and the engines that it works on. -/
theorem State.feedFrame_keeps (s : State) (d v : Nat) : let t := (s.overDraw d).judgeWindow v
    t.feedSense = s.feedSense ∧ t.feed.budget = s.feed.budget ∧ t.feed.guard = s.feed.guard ∧
      t.store = s.store ∧ t.senses = s.senses ∧ t.bays = s.bays ∧ t.models = s.models := by
  obtain ⟨p, n, hu⟩ := s.overDraw_shell d
  obtain ⟨w, o, r, ht⟩ := (s.overDraw d).judgeWindow_shell v
  obtain ⟨hb, hg, -⟩ := (s.overDraw d).judgeWindow_draw v
  have hfeed := Feed.shell_frame (State.shell_feed hu)
  obtain ⟨hsense, hstore, hsenses, hbays, hmodels⟩ := State.setFeed_shell_keeps hu
  obtain ⟨hsense', hstore', hsenses', hbays', hmodels'⟩ := State.setFeed_shell_keeps ht
  refine ⟨hsense'.trans hsense, hb.trans ?_, hg.trans ?_, hstore'.trans hstore, hsenses'.trans hsenses,
    hbays'.trans hbays, hmodels'.trans hmodels⟩ <;> rw [hfeed] <;> rfl

/-- R179, R180: what a frame makes of the over-draw count and of the pause, and whom it sheds. -/
theorem State.feedFrame_draw (s : State) (d v : Nat) : let t := (s.overDraw d).judgeWindow v
    (0 < s.feed.pause → t.feed.pause = s.feed.pause - 1 ∧ t.feed.overCount = s.feed.overCount) ∧
    (s.feed.pause = 0 → d ≤ s.feed.budget → t.feed.pause = 0 ∧ t.feed.overCount = 0) ∧
    (s.feed.pause = 0 → s.feed.budget < d → s.feed.overCount < 2 →
      t.feed.pause = 0 ∧ t.feed.overCount = s.feed.overCount + 1) ∧
    (s.feed.pause = 0 → s.feed.budget < d → 2 ≤ s.feed.overCount → t.feed.overCount = 0 ∧
      (s.feed.victim = none → t.feed.pause = 0) ∧
      (∀ r c, s.feed.victim = some r → s.OnLoad r.engine c → s.feed.waits = [] →
        t.feed.pause = 5 ∧ t.HasShed r.engine)) := by
  obtain ⟨-, -, hpause, hover⟩ := (s.overDraw d).judgeWindow_draw v
  dsimp only
  rw [hpause, hover]
  refine ⟨fun hp => ?_, fun hp hd => ?_, fun hp hd hn => ?_, fun hp hd hn => ?_⟩
  · rw [State.overDraw_paused hp]
    exact ⟨rfl, rfl⟩
  · rw [State.overDraw_within hp hd]
    exact ⟨hp, rfl⟩
  · rw [State.overDraw_counts hp hd hn]
    exact ⟨hp, rfl⟩
  · rw [State.overDraw_sheds hp hd hn]
    refine ⟨?_, fun hv => ?_, fun r c hv hl hw => ⟨(State.shed_draw hv).1, ?_⟩⟩
    · cases hv : s.feed.victim with
      | none => rw [State.shed_of_none hv]; rfl
      | some r => exact (State.shed_draw hv).2
    · rw [State.shed_of_none hv]
      exact hp
    · exact (State.shed_hasShed hv hl hw).judgeWindow v

/-- Settles O48: the comparison comes before the window judgement, which leaves the counts and an engine that
already unloads for SHED. -/
theorem overDrawShedsTheVictim : Obligations.OverDrawShedsTheVictim := by
  refine ⟨fun s bytes hbad => ?_, fun s d1 d0 v1 v0 fs hh => ⟨fun hseq => ?_, fun hseq => ?_⟩⟩
  · refine execFeedFrame_refuses (Option.eq_none_iff_forall_ne_some.mpr fun f ha => ?_)
    obtain ⟨hf, hcrc, -⟩ := State.acceptFeed_eq_some.mp ha
    obtain ⟨hlen, hkind⟩ := readFeedFields_shape hf
    simp [hcrc, hlen, hkind] at hbad
  · refine execFeedFrame_refuses (Option.eq_none_iff_forall_ne_some.mpr fun f ha => ?_)
    obtain ⟨hf, -, hnew⟩ := State.acceptFeed_eq_some.mp ha
    rw [readFeedFields_withCrc8] at hf
    obtain rfl := Option.some.inj hf
    exact hnew hseq
  · have ha := State.acceptFeed_eq_some.mpr
      ⟨readFeedFields_withCrc8 d1 d0 v1 v0 fs, crc8Ok_withCrc8 _, hseq⟩
    refine ⟨_, execFeedFrame_accepts hh ha, ?_⟩
    obtain ⟨hsense, hbudget, hguard, hstore, hsenses, hbays, hmodels⟩ :=
      (s.storeFeed (feedFieldsOf d1 d0 v1 v0 fs)).feedFrame_keeps (feedFieldsOf d1 d0 v1 v0 fs).stored.draw
        (feedFieldsOf d1 d0 v1 v0 fs).stored.volts
    obtain ⟨hpaused, hwithin, hcounts, hsheds⟩ :=
      (s.storeFeed (feedFieldsOf d1 d0 v1 v0 fs)).feedFrame_draw (feedFieldsOf d1 d0 v1 v0 fs).stored.draw
        (feedFieldsOf d1 d0 v1 v0 fs).stored.volts
    generalize State.judgeWindow _ _ = t at *
    refine ⟨hsense, hbudget, hguard, hstore, hsenses, hbays, hmodels, hpaused, hwithin, hcounts,
      fun hp hd hn => ?_⟩
    obtain ⟨hover, hnone, hsome⟩ := hsheds hp hd hn
    refine ⟨hover, fun hno => hnone (Feed.victim_eq_none hno), fun r c hr hamt hs hlast hl hw => ?_⟩
    obtain ⟨hpause, ⟨hstop, hphase⟩, hmarked⟩ := hsome r c (Feed.victim_eq_some hr hamt hs hlast) hl hw
    exact ⟨hpause, hstop, hphase, hmarked⟩

end Sys2Proof.Machine
end

section
/-! SUPPORT. The agreement of the engines with the lists that name them, with the records that they run and with the
banks that they hold, said engine by engine, record by record and bank by bank (R108, R156). -/

namespace Sys2Proof.Machine

variable {s t u : State} {e : EngineIx} {i : SlotIx} {en : Engine} {p q a l : Prop}

/-! ### One engine (R108) -/

/-- R108: an engine is sound and stands where those that name it say: `p` that its submission waits, `q` that its bank
request does, `a` that its request is in service, and `l` that it is being withdrawn. -/
structure Engine.Placed (en : Engine) (p q a l : Prop) : Prop where
  sound : en.Sound p
  submits : p → en.phase = .reserve
  awaits : q → en.phase = .acquire ∧ en.bankReq = .waiting
  active : a → en.phase = .acquire ∧ en.bankReq = .connecting
  leaving : l → en.phase = .acquire ∧ en.bankReq = .connecting ∧ en.stop.isSome = true

theorem Engine.Sound.mono {p' : Prop} (h : en.Sound p) (hp : p' → p) : en.Sound p' := by
  obtain ⟨hfree, hbusy, hunload, hverdict, heval, hearly⟩ := h
  refine ⟨hfree, hbusy, hunload, hverdict, fun hx => ?_, hearly⟩
  obtain ⟨hr, hno, hd⟩ := heval hx
  exact ⟨hr, hno ∘ hp, hd⟩

/-- An engine stays in its place when fewer name it. -/
theorem Engine.Placed.mono {p' q' a' l' : Prop} (h : en.Placed p q a l) (hp : p' → p) (hq : q' → q)
    (ha : a' → a) (hl : l' → l) : en.Placed p' q' a' l' :=
  ⟨h.sound.mono hp, h.submits ∘ hp, h.awaits ∘ hq, h.active ∘ ha, h.leaving ∘ hl⟩

/-- R107: the phases of an engine past ACQUIRE that has not closed. -/
def Engine.Busy (en : Engine) : Prop := en.phase = .load ∨ en.phase = .watch ∨ en.phase = .unload

/-- R108: what is asked of a busy engine. -/
structure Engine.Working (en : Engine) : Prop where
  busy : en.Busy
  copy : en.copy.isSome = true
  unload : en.phase = .unload → en.verdict.isSome = true ∨ en.stop.isSome = true
  verdict : ∀ v, en.verdict = some v → v.outcome ≠ .doubt
  unasked : en.evalAsked = false

theorem Engine.Busy.phase_ne (h : en.Busy) :
    en.phase ≠ .free ∧ en.phase ≠ .reserve ∧ en.phase ≠ .acquire ∧ en.phase ≠ .close := by
  obtain h | h | h := h <;> simp [h]

/-- No list names a busy engine. -/
theorem Engine.placed_iff_of_busy (hb : en.Busy) :
    en.Placed p q a l ↔ en.Working ∧ ¬p ∧ ¬q ∧ ¬a ∧ ¬l := by
  obtain ⟨hfree, hres, hacq, hclose⟩ := hb.phase_ne
  constructor
  · intro ⟨⟨_, hcopy, hunload, hverdict, heval, _⟩, hp, hq, ha, hl⟩
    exact ⟨⟨hb, (hcopy hfree).2, hunload, hverdict,
      Bool.eq_false_iff.mpr fun hx => hres (heval hx).1⟩, hres ∘ hp, fun hx => hacq (hq hx).1,
      fun hx => hacq (ha hx).1, fun hx => hacq (hl hx).1⟩
  · intro ⟨hw, hp, hq, ha, hl⟩
    refine ⟨⟨fun h => absurd h hfree, fun _ => ⟨hclose, hw.copy⟩, hw.unload, hw.verdict, fun hx => ?_,
      fun h => absurd h (not_or.mpr ⟨hres, hacq⟩)⟩, fun h => absurd h hp, fun h => absurd h hq,
      fun h => absurd h ha, fun h => absurd h hl⟩
    rw [hw.unasked] at hx
    cases hx

/-- R116: no list names a FREE engine. -/
theorem Engine.placed_free : Engine.free.Placed p q a l ↔ ¬p ∧ ¬q ∧ ¬a ∧ ¬l := by
  constructor
  · intro h
    exact ⟨fun hx => (nomatch h.submits hx), fun hx => (nomatch (h.awaits hx).1),
      fun hx => (nomatch (h.active hx).1), fun hx => (nomatch (h.leaving hx).1)⟩
  · intro ⟨hp, hq, ha, hl⟩
    exact ⟨Engine.sound_free p, fun h => absurd h hp, fun h => absurd h hq, fun h => absurd h ha,
      fun h => absurd h hl⟩

/-- R108: an engine holds the record of a handle, and has not taken DOUBT for it. -/
def Engine.Bears (en : Engine) (h : Handle) : Prop :=
  en.phase ≠ .free ∧ en.copy.map (·.handle) = some h ∧ en.stop ≠ some .doubt

/-- An engine holds a bank in its grant. -/
def Engine.HoldsBank (en : Engine) (b : BankIx) : Prop := ∃ g ∈ en.grant, g.bank = b

theorem Engine.holdsBank_iff {b : BankIx} : en.HoldsBank b ↔ b ∈ en.grant.map (·.bank) := by
  simp [Engine.HoldsBank]

/-! ### The machine -/

/-- The request of an engine is in service, and the service stands as the status says. -/
def State.Serves (s : State) (e : EngineIx) (x : ServiceStatus) : Prop :=
  ∃ v, s.arb.service = some v ∧ v.engine = e ∧ v.status = x

/-- R108: the engine is in its place in `s`. -/
def State.InPlace (s : State) (e : EngineIx) (en : Engine) : Prop :=
  en.Placed (s.Submits e) (s.AwaitsBanks e) (s.Serves e .active) (s.Serves e .withdrawn)

/-- R108: every engine is in its place, and stands once in the bank wait list. -/
structure State.MachineSound (s : State) : Prop where
  placed : ∀ e, s.InPlace e (s.engine e)
  once : (s.arb.waits.map (·.engine)).Nodup

/-- R116: a close of the record of a handle that writes it. -/
def Message.Closes (m : Message) (h : Handle) : Prop :=
  ∃ n k o v c a late, m = .close h n k o v c a late ∧ o ≠ .doubt

/-- R122: a close of the record of a handle by an engine is still to be served. -/
def State.Closing (s : State) (e : EngineIx) (h : Handle) : Prop := ∃ m ∈ s.outbox.get e, m.Closes h

/-- R116, R122: an engine holds the record of a handle, or its close of it is still to be served. -/
def State.Bears (s : State) (e : EngineIx) (h : Handle) : Prop := (s.engine e).Bears h ∨ s.Closing e h

/-- R108: the record of a slot, when it is RUNNING, is borne by the engine that it names. -/
def State.Borne (s : State) (i : SlotIx) : Prop :=
  ∀ r, s.record i = some r → r.state = .running → ∃ e, r.engaged = some e ∧ s.Bears e (s.handleOf i)

/-- The service in progress has chosen the bank for the engine. -/
def State.Chooses (s : State) (e : EngineIx) (b : BankIx) : Prop :=
  ∃ v, s.arb.service = some v ∧ v.status = .active ∧ v.engine = e ∧ b ∈ v.chosen

/-- R156: every CONNECTED bank is held or chosen for the engine that it names, but for those that `X` lists. -/
def State.HeldBut (s : State) (X : EngineIx → BankIx → Prop) : Prop :=
  ∀ b e, b.val < s.straps.banks → (s.bank b).state = .connected → (s.bank b).engine = some e →
    (s.engine e).HoldsBank b ∨ s.Chooses e b ∨ X e b

theorem State.banksHeld_iff : s.BanksHeld ↔ s.HeldBut fun _ _ => False := by
  simp [State.BanksHeld, State.HeldBut, Engine.HoldsBank, State.Chooses]

theorem State.enginesSound_iff : s.EnginesSound ↔ s.MachineSound ∧ ∀ i, s.Borne i := by
  constructor
  · intro ⟨hsound, hfeed, hbank, honce, hserv, hrec⟩
    refine ⟨⟨fun e => ⟨hsound e, ?_, ?_, ?_, ?_⟩, honce⟩, fun i r hr hrun => hrec i r hr hrun⟩
    · rintro ⟨w, hw, rfl⟩
      exact hfeed w hw
    · rintro ⟨w, hw, rfl⟩
      exact hbank w hw
    · rintro ⟨v, hv, rfl, hx⟩
      exact (hserv v hv).1 hx
    · rintro ⟨v, hv, rfl, hx⟩
      exact (hserv v hv).2 hx
  · intro ⟨⟨hplace, honce⟩, hrec⟩
    refine ⟨fun e => (hplace e).sound, fun w hw => (hplace w.engine).submits ⟨w, hw, rfl⟩,
      fun w hw => (hplace w.engine).awaits ⟨w, hw, rfl⟩, honce, fun v hv => ⟨fun hx => ?_, fun hx => ?_⟩,
      fun i r hr hrun => hrec i r hr hrun⟩
    · exact (hplace v.engine).active ⟨v, hv, rfl, hx⟩
    · exact (hplace v.engine).leaving ⟨v, hv, rfl, hx⟩

/-- No list and no service names the engine. -/
def State.Unnamed (s : State) (e : EngineIx) : Prop :=
  ¬s.Submits e ∧ ¬s.AwaitsBanks e ∧ ¬s.Serves e .active ∧ ¬s.Serves e .withdrawn

theorem State.MachineSound.working (h : s.MachineSound) (hb : (s.engine e).Busy) :
    (s.engine e).Working ∧ s.Unnamed e := (Engine.placed_iff_of_busy hb).mp (h.placed e)

/-- R116: a FREE engine holds nothing, and none names it. -/
theorem State.MachineSound.free (h : s.MachineSound) (hp : (s.engine e).phase = .free) :
    s.engine e = Engine.free ∧ s.Unnamed e := by
  have hplace := h.placed e
  have hfree := hplace.sound.1 hp
  rw [hfree] at hplace
  exact ⟨hfree, Engine.placed_free.mp hplace⟩

/-- R110, R176: of an engine in RESERVE no bank request stands. -/
theorem State.MachineSound.reserve (h : s.MachineSound) (hp : (s.engine e).phase = .reserve)
    (hs : ¬s.Submits e) : s.Unnamed e := by
  have hplace := h.placed e
  refine ⟨hs, fun hx => ?_, fun hx => ?_, fun hx => ?_⟩
  · have := (hplace.awaits hx).1; simp [hp] at this
  · have := (hplace.active hx).1; simp [hp] at this
  · have := (hplace.leaving hx).1; simp [hp] at this

/-- R111: an engine in ACQUIRE has no submission waiting, and holds no bank. -/
theorem State.MachineSound.acquire (h : s.MachineSound) (hp : (s.engine e).phase = .acquire) :
    ¬s.Submits e ∧ (s.engine e).grant = [] := by
  have hplace := h.placed e
  refine ⟨fun hx => ?_, (hplace.sound.2.2.2.2.2 (.inr hp)).1⟩
  have := hplace.submits hx
  simp [hp] at this

/-- R111: the bank request of an engine is neither waiting nor connecting. -/
theorem State.MachineSound.unasked (h : s.MachineSound) (hp : (s.engine e).phase = .acquire)
    (hw : (s.engine e).bankReq ≠ .waiting) (hc : (s.engine e).bankReq ≠ .connecting) : s.Unnamed e :=
  ⟨(h.acquire hp).1, fun hx => hw ((h.placed e).awaits hx).2, fun hx => hc ((h.placed e).active hx).2,
    fun hx => hc ((h.placed e).leaving hx).2.1⟩

end Sys2Proof.Machine
end

section
/-! SUPPORT. What every operation but a change of the budget keeps: the total within B − G, the total as the sum of the
reservations, the order of the wait lists, and the agreement of the engines (R108, R156, R162, R173 to R177). -/

namespace Sys2Proof.Machine

/-- The record of the slot is RUNNING. -/
def State.RunsSlot (s : State) (i : SlotIx) : Prop := ∃ r, s.record i = some r ∧ r.state = .running

/-- No bank is owed to an engine. -/
def NoDebt : EngineIx → BankIx → Prop := fun _ _ => False

/-- The books of the feed and the agreement of the engines in `s` hold in `t` too. The records stay borne, and the
banks held but for the debt `D`, when the engines of `s` are sound. -/
structure State.Sane (s t : State) (D : EngineIx → BankIx → Prop := NoDebt) : Prop where
  sum : s.TotalIsTheSum → t.TotalIsTheSum
  ordered : s.WaitListsOrdered → t.WaitListsOrdered
  sound : s.MachineSound → t.MachineSound
  borne : s.MachineSound → ∀ i, s.Borne i → t.Borne i
  held : s.MachineSound → ∀ X, (∀ e b, D e b → X e b) → s.HeldBut X → t.HeldBut X

/-- R173, R176: the budget and the guard stand, and the total rises only within B − G. -/
structure State.Frugal (s t : State) : Prop where
  budget : t.feed.budget = s.feed.budget
  guard : t.feed.guard = s.feed.guard
  total : t.feed.total ≤ max s.feed.total (s.feed.budget - s.feed.guard)

/-- What every operation but a change of the budget keeps. -/
structure State.Keeps (s t : State) (D : EngineIx → BankIx → Prop := NoDebt) : Prop
    extends State.Sane s t D, State.Frugal s t

/-- What the agreement of the engines and the books of the feed read of the machine. -/
structure Gear where
  slots : Tab ShelfSlot 32
  engines : Tab Engine 6
  outbox : Tab (List Message) 6
  budget : Nat
  guard : Nat
  total : Nat
  reservations : List Reservation
  submissions : List FeedWait
  requests : List BankWait
  service : Option Service
  roster : Tab Bank 8
  banks : Nat

def State.gear (s : State) : Gear where
  slots := s.store.slots
  engines := s.engines
  outbox := s.outbox
  budget := s.feed.budget
  guard := s.feed.guard
  total := s.feed.total
  reservations := s.feed.reservations
  submissions := s.feed.waits
  requests := s.arb.waits
  service := s.arb.service
  roster := s.arb.roster
  banks := s.straps.banks

theorem State.Sane.trans {s t u : State} {D : EngineIx → BankIx → Prop} (h : s.Sane t D) (k : t.Sane u) :
    s.Sane u D where
  sum := k.sum ∘ h.sum
  ordered := k.ordered ∘ h.ordered
  sound := k.sound ∘ h.sound
  borne hs i := k.borne (h.sound hs) i ∘ h.borne hs i
  held hs X hD := k.held (h.sound hs) X (fun _ _ => False.elim) ∘ h.held hs X hD

namespace State.Keeps

variable {s t u : State} {D : EngineIx → BankIx → Prop} {e : EngineIx} {b : BankIx}

theorem refl (s : State) : s.Keeps s where
  sum := id
  ordered := id
  sound := id
  borne _ _ := id
  held _ _ _ := id
  budget := rfl
  guard := rfl
  total := Nat.le_max_left ..

theorem trans (h : s.Keeps t D) (k : t.Keeps u) : s.Keeps u D where
  toSane := h.toSane.trans k.toSane
  budget := k.budget.trans h.budget
  guard := k.guard.trans h.guard
  total := by
    have ht := h.total
    have hu := k.total
    rw [h.budget, h.guard] at hu
    omega

/-- A change of nothing that the relation reads, as it computes. -/
theorem same (h : s.Keeps t D) (hk : u.gear = t.gear) : s.Keeps u D := by
  refine h.trans ?_
  obtain ⟨hslots, hengines, houtbox, hbudget, hguard, htotal, hres, hsub, hreq, hserv, hroster, hbanks⟩ :=
    Gear.mk.injEq .. ▸ hk
  have hengine (e : EngineIx) : u.engine e = t.engine e := congrArg (·.get e) hengines
  have hslot (i : SlotIx) : u.slot i = t.slot i := congrArg (·.get i) hslots
  have hrecord (i : SlotIx) : u.record i = t.record i := congrArg ShelfSlot.record (hslot i)
  have hhandle (i : SlotIx) : u.handleOf i = t.handleOf i :=
    congrArg (fun x : ShelfSlot => (⟨.shelf, i, x.gen⟩ : Handle)) (hslot i)
  have hbank (b : BankIx) : u.bank b = t.bank b := congrArg (·.get b) hroster
  have hsubmits (e : EngineIx) : u.Submits e ↔ t.Submits e := by simp only [State.Submits, hsub]
  have hawaits (e : EngineIx) : u.AwaitsBanks e ↔ t.AwaitsBanks e := by simp only [State.AwaitsBanks, hreq]
  have hserves (e : EngineIx) (x : ServiceStatus) : u.Serves e x ↔ t.Serves e x := by
    simp only [State.Serves, hserv]
  refine { sum := ?_, ordered := ?_, sound := ?_, borne := ?_, held := ?_, budget := hbudget, guard := hguard,
           total := htotal ▸ Nat.le_max_left .. }
  · simp only [State.TotalIsTheSum, htotal, hres]
    exact id
  · simp only [State.WaitListsOrdered, hsub, hreq]
    exact id
  · refine fun ht => ⟨fun e => ?_, hreq ▸ ht.once⟩
    rw [hengine]
    exact (ht.placed e).mono (hsubmits e).mp (hawaits e).mp (hserves e _).mp (hserves e _).mp
  · intro _ i hi
    simpa only [State.Borne, State.Bears, State.Closing, hrecord, hengine, hhandle, houtbox] using hi
  · intro _ X _ hX
    simpa only [State.HeldBut, State.Chooses, hengine, hbank, hserv, hbanks] using hX

theorem foldl {α : Type} {f : State → α → State} (hf : ∀ v a, s.Keeps v → s.Keeps (f v a)) (l : List α)
    (h : s.Keeps t) : s.Keeps (l.foldl f t) := by
  induction l generalizing t with
  | nil => exact h
  | cons a l ih => exact ih (hf t a h)

end State.Keeps

end Sys2Proof.Machine
end

section
/-! SUPPORT. What single writes keep of the agreement of the engines and of the books of the feed. -/

namespace Sys2Proof.Machine

/-- An engine that takes the place of another one leaves no record and no bank behind, and stands wherever that one
could. -/
structure Engine.Follows (en en' : Engine) : Prop where
  placed : ∀ p q a l, en.Placed p q a l → en'.Placed p q a l
  bears : ∀ h, en.Bears h → en'.Bears h
  holds : ∀ b, en.HoldsBank b → en'.HoldsBank b

/-- Every entry of the list `x` is one of an engine that has an entry in `y`. -/
def EntriesFrom {α : Type} (key : α → EngineIx) (x y : List α) : Prop := ∀ w ∈ x, ∃ v ∈ y, key v = key w

/-- R121: an engine that holds a verdict or a stop cause has an outcome. -/
theorem Engine.outcome_isSome {en : Engine} (h : en.verdict.isSome = true ∨ en.stop.isSome = true) :
    en.outcome.isSome = true := by
  unfold Engine.outcome
  cases hv : en.verdict <;> cases hs : en.stop <;> simp_all

theorem StopCause.outcome_ne_doubt {c : StopCause} (h : c ≠ .doubt) : c.outcome ≠ .doubt := by
  cases c <;> simp_all [StopCause.outcome]

/-- R121: without the stop cause DOUBT the outcome is another. -/
theorem Engine.outcome_ne_doubt {en : Engine} {p : Prop} {v : Verdict} {late : Bool} (h : en.Sound p)
    (hs : en.stop ≠ some .doubt) (ho : en.outcome = some (v, late)) : v.outcome ≠ .doubt := by
  unfold Engine.outcome at ho
  split at ho
  next hv _ =>
    cases ho
    exact h.2.2.2.1 _ hv
  next hv _ =>
    cases ho
    exact h.2.2.2.1 _ hv
  next hc =>
    cases ho
    exact StopCause.outcome_ne_doubt fun hd => hs (hd ▸ hc)
  next => cases ho

namespace State.Keeps

variable {s t u : State} {D : EngineIx → BankIx → Prop} {e f : EngineIx} {b : BankIx}

/-! ### Engines -/

/-- A write of one engine, which lets go of no bank that is CONNECTED. -/
theorem writeEngine (h : s.Keeps t D) (e : EngineIx) {x : Engine}
    (hx : s.MachineSound → t.MachineSound → t.InPlace e x)
    (hb : s.MachineSound → t.MachineSound → ∀ i, t.RunsSlot i → (t.engine e).Bears (t.handleOf i) →
      x.Bears (t.handleOf i) ∨ t.Closing e (t.handleOf i))
    (hg : s.MachineSound → t.MachineSound → ∀ b, (t.engine e).HoldsBank b →
      x.HoldsBank b ∨ (t.bank b).state ≠ .connected) :
    s.Keeps (t.setEngine e x) D where
  sum := h.sum
  ordered := h.ordered
  sound hs := by
    have ht := h.sound hs
    refine ⟨fun f => ?_, ht.once⟩
    rw [State.engine_setEngine]
    split
    next hf => exact hf ▸ hx hs ht
    next => exact ht.placed f
  borne hs i hi r hr hrun := by
    obtain ⟨f, hf, hbears⟩ := h.borne hs i hi r hr hrun
    refine ⟨f, hf, hbears.elim (fun hk => ?_) .inr⟩
    by_cases hfe : f = e
    · subst hfe
      refine (hb hs (h.sound hs) i ⟨r, hr, hrun⟩ hk).imp (fun hk => ?_) id
      rwa [State.engine_setEngine, if_pos rfl]
    · refine .inl ?_
      rwa [State.engine_setEngine, if_neg hfe]
  held hs X hD hX b f hlt hcon hen := by
    obtain hk | hk := h.held hs X hD hX b f hlt hcon hen
    · refine .inl ?_
      rw [State.engine_setEngine]
      split
      next hfe =>
        rw [hfe] at hk
        exact (hg hs (h.sound hs) b hk).resolve_right fun hno => hno hcon
      next => exact hk
    · exact .inr hk
  budget := h.budget
  guard := h.guard
  total := h.total

/-- A write of one engine, which keeps its banks. -/
theorem setEngine (h : s.Keeps t D) (e : EngineIx) {x : Engine}
    (hx : s.MachineSound → t.MachineSound → t.InPlace e x)
    (hb : s.MachineSound → t.MachineSound → ∀ i, t.RunsSlot i → (t.engine e).Bears (t.handleOf i) →
      x.Bears (t.handleOf i) ∨ t.Closing e (t.handleOf i))
    (hg : s.MachineSound → t.MachineSound → ∀ b, (t.engine e).HoldsBank b → x.HoldsBank b) :
    s.Keeps (t.setEngine e x) D :=
  h.writeEngine e hx hb fun hs ht b hk => .inl (hg hs ht b hk)

theorem modEngine (h : s.Keeps t) (e : EngineIx) {g : Engine → Engine}
    (hg : s.MachineSound → t.MachineSound → (t.engine e).Follows (g (t.engine e))) :
    s.Keeps (t.modEngine e g) :=
  h.setEngine e (fun hs ht => (hg hs ht).placed _ _ _ _ (ht.placed e))
    (fun hs ht _ _ hk => .inl ((hg hs ht).bears _ hk)) fun hs ht => (hg hs ht).holds

/-- R116: a message goes out behind every other. -/
theorem send (h : s.Keeps t) (e : EngineIx) (m : Message) : s.Keeps (t.send e m) where
  sum := h.sum
  ordered := h.ordered
  sound hs := ⟨(h.sound hs).placed, (h.sound hs).once⟩
  borne hs i hi r hr hrun := by
    obtain ⟨f, hf, hbears⟩ := h.borne hs i hi r hr hrun
    refine ⟨f, hf, hbears.imp id fun ⟨m', hm', hc⟩ => ⟨m', ?_, hc⟩⟩
    rw [State.outbox_send]
    split
    next hfe => exact List.mem_append_left _ (hfe ▸ hm')
    next => exact hm'
  held := h.held
  budget := h.budget
  guard := h.guard
  total := h.total

/-- R116: an engine that holds a verdict or a stop cause, and no bank, closes. -/
theorem engineClose (h : s.Keeps t) (e : EngineIx) (hu : s.MachineSound → t.Unnamed e)
    (ho : s.MachineSound → (t.engine e).verdict.isSome = true ∨ (t.engine e).stop.isSome = true)
    (hg : s.MachineSound → (t.engine e).grant = []) : s.Keeps (t.engineClose e) := by
  have placed (v : State) (hv : s.MachineSound → v.Unnamed e) (hs : s.MachineSound) :
      v.InPlace e Engine.free := Engine.placed_free.mpr (hv hs)
  have holds (hs : s.MachineSound) (b : BankIx) (hb : (t.engine e).HoldsBank b) : Engine.free.HoldsBank b := by
    obtain ⟨g, hgm, -⟩ := hb
    rw [hg hs] at hgm
    cases hgm
  unfold State.engineClose
  dsimp only
  split
  next c v late hc hout =>
    refine (h.send e (.close c.handle c.index c.kind v.outcome v.value v.cause c.attempt late)).setEngine e
      (x := Engine.free) (fun hs _ => placed t hu hs) (fun hs ht i _ hk => .inr ?_) fun hs _ => holds hs
    obtain ⟨-, hcopy, hstop⟩ := hk
    have hhandle : c.handle = t.handleOf i := by
      have hcopy : (t.engine e).copy.map (·.handle) = some (t.handleOf i) := hcopy
      simpa [hc] using hcopy
    refine ⟨.close c.handle c.index c.kind v.outcome v.value v.cause c.attempt late, ?_, c.index, c.kind,
      v.outcome, v.value, v.cause, c.attempt, late,
      congrArg (Message.close · c.index c.kind v.outcome v.value v.cause c.attempt late) hhandle, ?_⟩
    · rw [State.outbox_send, if_pos rfl]
      exact List.mem_append_right _ (List.mem_singleton.mpr rfl)
    · exact Engine.outcome_ne_doubt (h.sound hs |>.placed e).sound hstop hout
  next hno =>
    refine h.setEngine e (x := Engine.free) (fun hs _ => placed t hu hs) (fun hs ht i _ hk => ?_)
      fun hs _ => holds hs
    obtain ⟨hphase, -, -⟩ := hk
    obtain ⟨c, hc⟩ := Option.isSome_iff_exists.mp ((ht.placed e).sound.2.1 hphase).2
    obtain ⟨⟨v, late⟩, hv⟩ := Option.isSome_iff_exists.mp (Engine.outcome_isSome (ho hs))
    exact absurd hv (hno c v late hc)

/-! ### The feed -/

/-- A write of the feed that leaves the settings of the budget, and brings no engine into the wait list. -/
theorem setFeed (h : s.Keeps t) {x : Feed} (hb : x.budget = t.feed.budget) (hg : x.guard = t.feed.guard)
    (htotal : x.total ≤ max t.feed.total (t.feed.budget - t.feed.guard))
    (hsum : t.feed.total = (t.feed.reservations.map (·.amount)).sum →
      x.total = (x.reservations.map (·.amount)).sum)
    (hord : (t.feed.waits.Pairwise fun v w => FeedWait.before w v = false) →
      x.waits.Pairwise fun v w => FeedWait.before w v = false)
    (hfrom : EntriesFrom FeedWait.engine x.waits t.feed.waits) : s.Keeps (t.setFeed x) := by
  refine h.trans { sum := hsum, ordered := fun ht => ⟨hord ht.1, ht.2⟩, sound := fun ht => ⟨fun e => ?_, ht.once⟩,
                   borne := fun _ _ => id, held := fun _ _ _ => id, budget := hb, guard := hg, total := htotal }
  refine (ht.placed e).mono (fun ⟨w, hw, he⟩ => ?_) id id id
  obtain ⟨v, hv, hvw⟩ := hfrom w hw
  exact ⟨v, hv, hvw.trans he⟩

/-- A write of the feed that leaves its lists. -/
theorem setCounts (h : s.Keeps t) {x : Feed} (hb : x.budget = t.feed.budget) (hg : x.guard = t.feed.guard)
    (htotal : x.total = t.feed.total)
    (hamounts : x.reservations.map (·.amount) = t.feed.reservations.map (·.amount))
    (hw : x.waits = t.feed.waits) : s.Keeps (t.setFeed x) := by
  refine h.setFeed hb hg (htotal ▸ Nat.le_max_left ..) ?_ (hw ▸ id) fun w hm => ⟨w, hw ▸ hm, rfl⟩
  rw [htotal, hamounts]
  exact id

theorem markSent (h : s.Keeps t) (e : EngineIx) : s.Keeps (t.setFeed (t.feed.markSent e)) := by
  refine h.setCounts rfl rfl rfl ?_ rfl
  refine (List.map_map ..).trans (List.map_congr_left fun r _ => ?_)
  dsimp only [Function.comp]
  split <;> rfl

/-- R177: the reservation of an engine leaves the set and the total. -/
theorem drop (h : s.Keeps t) (e : EngineIx) : s.Keeps (t.setFeed (t.feed.drop e)) := by
  have split (l : List Reservation) : (l.map (·.amount)).sum =
      ((l.filter (·.engine ≠ e)).map (·.amount)).sum + ((l.filter (·.engine = e)).map (·.amount)).sum := by
    induction l with
    | nil => rfl
    | cons r l ih =>
      by_cases hr : r.engine = e <;> simp [hr, ih] <;> omega
  refine h.setFeed rfl rfl ((Nat.sub_le ..).trans (Nat.le_max_left ..)) (fun hsum => ?_) id fun w hw => ⟨w, hw, rfl⟩
  dsimp only [Feed.drop]
  rw [hsum, split]
  omega

/-- R176: the submission of an engine leaves the wait list. -/
theorem withdrawFeed (h : s.Keeps t) (e : EngineIx) : s.Keeps (t.setFeed (t.feed.withdraw e)) :=
  h.setFeed rfl rfl (Nat.le_max_left ..) id (·.sublist List.filter_sublist)
    fun w hw => ⟨w, List.mem_of_mem_filter hw, rfl⟩

/-- R176: the reservation of a submission that fits joins the set and the total. -/
theorem admitted (h : s.Keeps t) {w : FeedWait} (hf : t.feed.fits w = true) :
    s.Keeps (t.setFeed (t.feed.admitted w)) := by
  obtain ⟨-, hle⟩ := Feed.fits_iff.mp hf
  refine h.setFeed rfl rfl (hle.trans (Nat.le_max_right ..)) (fun hsum => ?_) (·.sublist List.filter_sublist)
    fun v hv => ⟨v, List.mem_of_mem_filter hv, rfl⟩
  simp [Feed.admitted, hsum]

/-! ### The arbiter -/

/-- A write of the bank wait list that brings no engine into it, and none twice. -/
theorem setBankWaits (h : s.Keeps t D) {x : List BankWait}
    (hord : (t.arb.waits.Pairwise fun v w => BankWait.before w v = false) →
      x.Pairwise fun v w => BankWait.before w v = false)
    (hfrom : EntriesFrom BankWait.engine x t.arb.waits)
    (honce : (t.arb.waits.map (·.engine)).Nodup → (x.map (·.engine)).Nodup) :
    s.Keeps (t.setBankWaits x) D := by
  refine h.trans { refl t with
    ordered := fun ht => ⟨ht.1, hord ht.2⟩, sound := fun ht => ⟨fun e => ?_, honce ht.once⟩ }
  refine (ht.placed e).mono id (fun ⟨w, hw, he⟩ => ?_) id id
  obtain ⟨v, hv, hvw⟩ := hfrom w hw
  exact ⟨v, hv, hvw.trans he⟩

theorem bankWithdraw (h : s.Keeps t) (e : EngineIx) : s.Keeps (t.bankWithdraw e) :=
  h.setBankWaits (·.sublist List.filter_sublist) (fun w hw => ⟨w, List.mem_of_mem_filter hw, rfl⟩)
    fun hn => hn.sublist (List.filter_sublist.map _)

/-- A write of the roster after which no bank is CONNECTED that was not, for the same engine. -/
theorem setRoster (h : s.Keeps t D) {x : Tab Bank 8} (hx : ∀ b, (x.get b).state = .connected →
    (t.bank b).state = .connected ∧ (x.get b).engine = (t.bank b).engine) :
    s.Keeps { t with arb := { t.arb with roster := x } } D := by
  refine h.trans { refl t with sound := fun ht => ⟨ht.placed, ht.once⟩, held := fun _ X _ hX b e hlt hcon hen => ?_ }
  obtain ⟨hcon', hen'⟩ := hx b hcon
  exact hX b e hlt hcon' (hen'.symm.trans hen)

theorem modBank (h : s.Keeps t) (b : BankIx) {f : Bank → Bank} (hf : (f (t.bank b)).state = .connected →
    (t.bank b).state = .connected ∧ (f (t.bank b)).engine = (t.bank b).engine) : s.Keeps (t.modBank b f) := by
  refine h.setRoster fun c hc => ?_
  have hbank : (t.arb.roster.put b (f (t.bank b))).get c = (t.modBank b f).bank c := rfl
  rw [hbank, State.bank_modBank] at hc ⊢
  split at hc
  next hcb =>
    rw [if_pos hcb, hcb]
    exact hf hc
  next hcb =>
    rw [if_neg hcb]
    exact ⟨hc, rfl⟩

theorem ask (h : s.Keeps t) (a : Asked) : s.Keeps (t.ask a) := h.same rfl

/-- A service begins, ends or changes its status: the engine that it still names stands in ACQUIRE and connects, and
the banks that were chosen are held without it. -/
theorem setService (h : s.Keeps t D) {x : Option Service}
    (hx : s.MachineSound → t.MachineSound → ∀ v, x = some v → v.status ≠ .failed →
      (t.engine v.engine).phase = .acquire ∧ (t.engine v.engine).bankReq = .connecting ∧
        (v.status = .withdrawn → (t.engine v.engine).stop.isSome = true))
    (hc : s.MachineSound → ∀ b e, t.Chooses e b → (t.bank b).state = .connected →
      (t.engine e).HoldsBank b ∨ (t.setService x).Chooses e b ∨ D e b) : s.Keeps (t.setService x) D where
  sum := h.sum
  ordered := h.ordered
  sound hs := by
    have ht := h.sound hs
    refine ⟨fun e => ?_, ht.once⟩
    have hplace := ht.placed e
    refine ⟨hplace.sound, hplace.submits, hplace.awaits, ?_, ?_⟩
    · rintro ⟨v, hv, rfl, hst⟩
      obtain ⟨hp, hr, -⟩ := hx hs ht v hv (by simp [hst])
      exact ⟨hp, hr⟩
    · rintro ⟨v, hv, rfl, hst⟩
      obtain ⟨hp, hr, hstop⟩ := hx hs ht v hv (by simp [hst])
      exact ⟨hp, hr, hstop hst⟩
  borne := h.borne
  held hs X hD hX b e hlt hcon hen := by
    obtain hk | hk | hk := h.held hs X hD hX b e hlt hcon hen
    · exact .inl hk
    · exact (hc hs b e hk hcon).imp id (.imp id (hD e b))
    · exact .inr (.inr hk)
  budget := h.budget
  guard := h.guard
  total := h.total

/-! ### Records -/

/-- A write of a slot after which a RUNNING record is one that was, of the same engine and handle. -/
theorem setSlot (h : s.Keeps t) (i : SlotIx) {x : ShelfSlot} (hx : ∀ r', x.record = some r' →
    r'.state = .running → ∃ r, t.record i = some r ∧ r.state = .running ∧ r.engaged = r'.engaged ∧
      x.gen = (t.slot i).gen) : s.Keeps (t.setSlot i x) := by
  refine h.trans { refl t with sound := fun ht => ⟨ht.placed, ht.once⟩, borne := fun _ j hj r' hr hrun => ?_ }
  have hslot := State.slot_setSlot t i j x
  by_cases hji : j = i
  · subst hji
    rw [if_pos rfl] at hslot
    obtain ⟨r, hold, hwas, heng, hgen⟩ := hx r' (hslot ▸ hr) hrun
    obtain ⟨e, he, hb⟩ := hj r hold hwas
    have hhandle : (t.setSlot j x).handleOf j = t.handleOf j := by
      simp only [State.handleOf, hslot, hgen]
    exact ⟨e, heng ▸ he, hhandle ▸ hb⟩
  · rw [if_neg hji] at hslot
    obtain ⟨e, he, hb⟩ := hj r' (by rw [State.record, ← hslot]; exact hr) hrun
    have hhandle : (t.setSlot i x).handleOf j = t.handleOf j := by simp only [State.handleOf, hslot]
    exact ⟨e, he, hhandle ▸ hb⟩

theorem writeRecord (h : s.Keeps t) (i : SlotIx) {r' : ShelfRecord} (hr : r'.state = .running →
    ∃ r, t.record i = some r ∧ r.state = .running ∧ r.engaged = r'.engaged) : s.Keeps (t.writeRecord i r') := by
  refine h.setSlot i fun r hs hrun => ?_
  cases hs
  obtain ⟨r, hold, hwas, heng⟩ := hr hrun
  exact ⟨r, hold, hwas, heng, rfl⟩

end State.Keeps

end Sys2Proof.Machine
end

section
/-! SUPPORT. Engines that follow one another: the writes of one engine that leave it in its place (R108,
R113 to R118). -/

namespace Sys2Proof.Machine

variable {en en' : Engine} {p q a l : Prop} {b : BankIx} {c : StopCause}

/-- What the rules of R108 read of an engine, the rest of it erased. -/
def Engine.gist (en : Engine) : Engine :=
  { en with takeTick := 0, reservation := .none, granted := none, watch := false, releasing := false
            setSent := false, stepLevel := 0, goodLevel := 0, lowSeen := false, captured := 0, pExp := 0
            collection := none }

theorem Engine.placed_gist (hf : en.phase ≠ .free) : en.gist.Placed p q a l ↔ en.Placed p q a l := by
  constructor
  · intro ⟨⟨_, hrest⟩, hp, hq, ha, hl⟩
    exact ⟨⟨fun h => absurd h hf, hrest⟩, hp, hq, ha, hl⟩
  · intro ⟨⟨_, hrest⟩, hp, hq, ha, hl⟩
    exact ⟨⟨fun h => absurd h hf, hrest⟩, hp, hq, ha, hl⟩

/-- A change of an engine in use beside its gist. -/
theorem Engine.follows_of_gist (hf : en.phase ≠ .free) (hk : en'.gist = en.gist) : en.Follows en' := by
  have hphase : en'.gist.phase = en.gist.phase := congrArg Engine.phase hk
  have hf' : en'.phase ≠ .free := fun h => hf (hphase.symm.trans h)
  have hbears (k : Handle) : en'.Bears k ↔ en.Bears k := by
    show en'.gist.Bears k ↔ en.gist.Bears k
    rw [hk]
  have hholds (b : BankIx) : en'.HoldsBank b ↔ en.HoldsBank b := by
    show en'.gist.HoldsBank b ↔ en.gist.HoldsBank b
    rw [hk]
  refine ⟨fun p q a l h => ?_, fun k => (hbears k).mpr, fun b => (hholds b).mpr⟩
  rw [← Engine.placed_gist hf', hk]
  exact (Engine.placed_gist hf).mpr h

/-- A busy engine that goes on as one, with the record and the banks that it has, and without DOUBT. -/
theorem Engine.follows_of_working (hb : en.Busy) (hb' : en'.Busy) (hw : en.Working → en'.Working)
    (hcopy : en'.copy.map (·.handle) = en.copy.map (·.handle))
    (hstop : en'.stop = some .doubt → en.stop = some .doubt)
    (hgrant : en'.grant.map (·.bank) = en.grant.map (·.bank)) : en.Follows en' := by
  refine ⟨fun p q a l h => ?_, fun k ⟨_, hk, hs⟩ => ⟨hb'.phase_ne.1, hcopy.trans hk, hs ∘ hstop⟩, fun b h => ?_⟩
  · obtain ⟨hwork, hn⟩ := (Engine.placed_iff_of_busy hb).mp h
    exact (Engine.placed_iff_of_busy hb').mpr ⟨hw hwork, hn⟩
  · rw [Engine.holdsBank_iff] at h ⊢
    rwa [hgrant]

/-- R118: an engine whose timers are quiet, and that waits for no answer. -/
theorem Engine.placed_quiet (hf : en.phase ≠ .free) (h : en.Placed p q a l) : en.quiet.Placed p q a l := by
  obtain ⟨⟨-, hcopy, hunload, hverdict, -, hearly⟩, hp, hq, ha, hl⟩ := h
  have hdet : en.quiet.detection ≠ .armed := by
    unfold Engine.quiet
    cases en.detection <;> simp
  exact ⟨⟨fun hx => absurd hx hf, hcopy, hunload, hverdict, nofun,
    fun hx => ⟨(hearly hx).1, hdet, rfl, rfl, rfl, rfl, rfl, rfl⟩⟩, hp, hq, ha, hl⟩

/-- R117: an engine in use takes a stop cause. -/
theorem Engine.placed_stop (hf : en.phase ≠ .free) (h : en.Placed p q a l) :
    ({ en with stop := some c } : Engine).Placed p q a l := by
  obtain ⟨⟨-, hcopy, -, hrest⟩, hp, hq, ha, hl⟩ := h
  refine ⟨⟨fun hx => absurd hx hf, hcopy, fun _ => .inr rfl, hrest⟩, hp, hq, ha, fun hx => ?_⟩
  obtain ⟨hacq, hreq, -⟩ := hl hx
  exact ⟨hacq, hreq, rfl⟩

/-- A change of the entries of the grant, each of which stays or goes. -/
theorem Engine.placed_grant {g : List GrantBank} (hg : en.grant = [] → g = []) (h : en.Placed p q a l) :
    ({ en with grant := g } : Engine).Placed p q a l := by
  obtain ⟨⟨hfree, hcopy, hunload, hverdict, heval, hearly⟩, hp, hq, ha, hl⟩ := h
  refine ⟨⟨fun hx => ?_, hcopy, hunload, hverdict, heval, fun hx => ?_⟩, hp, hq, ha, hl⟩
  · have hen := hfree hx
    subst hen
    rw [hg rfl]
    rfl
  · obtain ⟨hgrant, hrest⟩ := hearly hx
    exact ⟨hg hgrant, hrest⟩

theorem Engine.follows_grant {g : List GrantBank} (hg : g.map (·.bank) = en.grant.map (·.bank)) :
    en.Follows { en with grant := g } := by
  refine ⟨fun p q a l => Engine.placed_grant fun h => ?_, fun _ => id, fun d hd => ?_⟩
  · rw [h] at hg
    exact List.map_eq_nil_iff.mp hg
  · rw [Engine.holdsBank_iff] at hd ⊢
    exact hg.symm ▸ hd

theorem Engine.follows_modGrant {f : GrantBank → GrantBank} (hf : ∀ g, (f g).bank = g.bank) :
    en.Follows (en.modGrant b f) := by
  refine Engine.follows_grant ((List.map_map ..).trans (List.map_congr_left fun g _ => ?_))
  dsimp only [Function.comp]
  split
  · exact hf g
  · rfl

/-- R108: a copy with another priority. -/
theorem Engine.follows_reprice (n : Nat) :
    en.Follows { en with copy := en.copy.map fun c => { c with priority := n } } := by
  have hhandle : (en.copy.map fun c => { c with priority := n }).map (·.handle) = en.copy.map (·.handle) := by
    cases en.copy <;> rfl
  refine ⟨fun p q a l ⟨⟨hfree, hcopy, hunload, hverdict, heval, hearly⟩, hp, hq, ha, hl⟩ => ?_,
    fun k ⟨hf, hk, hs⟩ => ⟨hf, hhandle.trans hk, hs⟩, fun _ => id⟩
  refine ⟨⟨fun hx => ?_, fun hx => ?_, hunload, hverdict, fun hx => ?_, hearly⟩, hp, hq, ha, hl⟩
  · have hen := hfree hx
    subst hen
    rfl
  · rw [Option.isSome_map]
    exact hcopy hx
  · obtain ⟨hr, hno, c, d, hc, hd⟩ := heval hx
    exact ⟨hr, hno, { c with priority := n }, d, by rw [hc]; rfl, hd⟩

/-- R111: an engine in ACQUIRE that no request names takes another state of its request. -/
theorem Engine.placed_bankReq {r : BankReq} (hacq : en.phase = .acquire) (hl' : ¬l) (h : en.Placed p q a l)
    (hq : q → r = .waiting) (ha : a → r = .connecting) : ({ en with bankReq := r } : Engine).Placed p q a l := by
  obtain ⟨⟨hfree, hrest⟩, hp, -, -, -⟩ := h
  exact ⟨⟨fun hx => absurd (hacq.symm.trans hx) (by decide), hrest⟩, hp, fun hx => ⟨hacq, hq hx⟩,
    fun hx => ⟨hacq, ha hx⟩, fun hx => absurd hx hl'⟩

end Sys2Proof.Machine
end

section
/-! SUPPORT. Close, unload and stop causes keep the agreement of the engines and the books of the feed (R115
to R119). -/

namespace Sys2Proof.Machine

namespace State

variable {s t u : State} {D : EngineIx → BankIx → Prop} {e f : EngineIx} {b : BankIx} {c : StopCause}

/-- R108: a FREE engine holds neither a verdict nor a stop cause. -/
theorem MachineSound.phase_ne_free (h : s.MachineSound)
    (ho : (s.engine e).verdict.isSome = true ∨ (s.engine e).stop.isSome = true) : (s.engine e).phase ≠ .free := by
  intro hp
  rw [(h.free hp).1] at ho
  simp [Engine.free] at ho

/-- No RUNNING record is borne by the engine. -/
def Unrun (s : State) (e : EngineIx) : Prop := ∀ i, s.RunsSlot i → ¬(s.engine e).Bears (s.handleOf i)

theorem foldl_askRelease_engine (s : State) (l : List GrantBank) (e : EngineIx) :
    (l.foldl (fun t g => t.askRelease g.bank) s).engine e = s.engine e :=
  congrArg (·.get e) (s.foldl_askRelease l).1

theorem foldl_askSet_engine (s : State) (l : List GrantBank) (n : GrantBank → Nat) (load : Bool) (e : EngineIx) :
    (l.foldl (fun t g => t.askSet g.bank (n g) load) s).engine e = s.engine e :=
  congrArg (·.get e) (s.foldl_askSet l n load).1

/-- R163: a bank goes CONNECTING in the roster. -/
def connectBank (r : Tab Bank 8) (b : BankIx) : Tab Bank 8 := r.put b { r.get b with state := .connecting }

theorem foldl_connectBank (l : List BankIx) (s : State) :
    l.foldl (fun t c => t.modBank c fun k => { k with state := .connecting }) s =
      { s with arb := { s.arb with roster := l.foldl connectBank s.arb.roster } } := by
  induction l generalizing s with
  | nil => rfl
  | cons b l ih => exact ih _

/-- R163: a bank that is CONNECTED afterwards is none of those that went CONNECTING. -/
theorem get_foldl_connectBank {l : List BankIx} {r : Tab Bank 8} {b : BankIx}
    (h : ((l.foldl connectBank r).get b).state = .connected) : (l.foldl connectBank r).get b = r.get b := by
  induction l generalizing r with
  | nil => rfl
  | cons c l ih =>
    have hrest := ih h
    rw [List.foldl_cons] at h ⊢
    rw [hrest] at h ⊢
    have hput : (connectBank r c).get b = if b = c then { r.get c with state := .connecting } else r.get b :=
      Tab.get_put ..
    rw [hput] at h ⊢
    split at h
    · cases h
    next hb => exact if_neg hb

namespace Keeps

/-! ### Reservations and banks -/

/-- R177: an engine in use gives its reservation up. -/
theorem feedRelease (h : s.Keeps t) (e : EngineIx) (hf : s.MachineSound → (t.engine e).phase ≠ .free) :
    s.Keeps (t.feedRelease e) :=
  (h.drop e).modEngine e fun hs _ => Engine.follows_of_gist (hf hs) rfl

/-- R118: an engine in use takes its submission back. -/
theorem feedWithdraw (h : s.Keeps t) (e : EngineIx) (hf : s.MachineSound → (t.engine e).phase ≠ .free) :
    s.Keeps (t.feedWithdraw e) :=
  (h.withdrawFeed e).modEngine e fun hs _ => Engine.follows_of_gist (hf hs) rfl

theorem askSet (h : s.Keeps t) (b : BankIx) (n : Nat) (load : Bool) : s.Keeps (t.askSet b n load) :=
  (h.modBank b (f := fun k => { k with level := n }) fun hc => ⟨hc, rfl⟩).ask _

theorem askSets (h : s.Keeps t) (l : List GrantBank) (n : GrantBank → Nat) (load : Bool) :
    s.Keeps (l.foldl (fun t g => t.askSet g.bank (n g) load) t) :=
  foldl (fun _ g hv => hv.askSet g.bank (n g) load) l h

theorem askRelease (h : s.Keeps t) (b : BankIx) : s.Keeps (t.askRelease b) :=
  (h.modBank b (f := fun k => { k with state := .releasing }) (nomatch ·)).ask _

theorem askOwnRelease (h : s.Keeps t) (b : BankIx) : s.Keeps (t.askOwnRelease b) :=
  (h.modBank b (f := fun k => { k with state := .releasing, engine := none }) (nomatch ·)).ask _

/-! ### Close and unload (R115, R116) -/

/-- R118, R119: the reservation is released and the engine closes. -/
theorem acquireExit (h : s.Keeps t) (e : EngineIx) (hu : s.MachineSound → t.Unnamed e)
    (ho : s.MachineSound → (t.engine e).verdict.isSome = true ∨ (t.engine e).stop.isSome = true)
    (hg : s.MachineSound → (t.engine e).grant = []) : s.Keeps (t.acquireExit e) := by
  have hengine : (t.feedRelease e).engine e = { t.engine e with reservation := .none } :=
    (State.engine_modEngine ..).trans (if_pos rfl)
  refine (h.feedRelease e fun hs => (h.sound hs).phase_ne_free (ho hs)).engineClose e hu (fun hs => ?_)
    fun hs => ?_
  · rw [hengine]
    exact ho hs
  · rw [hengine]
    exact hg hs

theorem unloadAdvance (h : s.Keeps t) (e : EngineIx) : s.Keeps (t.unloadAdvance e) := by
  unfold State.unloadAdvance
  dsimp only
  split
  · exact h
  next hp =>
    have hp : (t.engine e).phase = .unload := not_not.mp hp
    have hwork (hs : s.MachineSound) := (h.sound hs).working (e := e) (.inr (.inr hp))
    have hunnamed (hs : s.MachineSound) : t.Unnamed e := (hwork hs).2
    have houtcome (hs : s.MachineSound) := (hwork hs).1.unload hp
    split
    · split
      next hg => exact h.engineClose e hunnamed houtcome fun _ => hg
      next => exact h
    split
    · split
      next hg => exact h.acquireExit e hunnamed houtcome fun _ => hg
      next =>
        have hfree : (t.engine e).phase ≠ .free := by rw [hp]; decide
        refine (foldl (fun _ (g : GrantBank) hv => hv.askRelease g.bank) _ (h.feedRelease e fun _ => hfree)).modEngine
          e fun _ _ => Engine.follows_of_gist ?_ rfl
        rw [State.foldl_askRelease_engine, State.feedRelease, State.engine_modEngine, if_pos rfl]
        exact hfree
    · exact h

/-- R115: a busy engine with a verdict or a stop cause enters UNLOAD. -/
theorem enterUnload (h : s.Keeps t) (e : EngineIx) (hb : s.MachineSound → (t.engine e).Busy)
    (ho : s.MachineSound → (t.engine e).verdict.isSome = true ∨ (t.engine e).stop.isSome = true) :
    s.Keeps (t.enterUnload e) := by
  refine unloadAdvance ((h.askSets _ (fun _ => 0) false).modEngine e fun hs _ => ?_) e
  rw [State.foldl_askSet_engine]
  refine Engine.follows_of_working (hb hs) (.inr (.inr rfl)) (fun hw => ?_) rfl id ?_
  · exact ⟨.inr (.inr rfl), hw.copy, fun _ => ho hs, hw.verdict, rfl⟩
  · exact (List.map_map ..).trans rfl

/-! ### The arbiter's list and its service (R163 to R166) -/

/-- R165, R166: a service ends as failed or withdrawn; the engine of one withdrawn still connects, with a stop
cause. -/
theorem endService (h : s.Keeps t) {v : Service} (hv : t.arb.service = some v) {x : ServiceStatus}
    (hx : x ≠ .active) (hw : s.MachineSound → x = .withdrawn → (t.engine v.engine).phase = .acquire ∧
      (t.engine v.engine).bankReq = .connecting ∧ (t.engine v.engine).stop.isSome = true) :
    s.Keeps (t.endService v x) := by
  obtain ⟨ro, as, hframe⟩ := State.foldl_unchoose_frame v.chosen t
  have hbank (b : BankIx) : ro.get b =
      if b ∈ v.chosen then (t.bank b).unchosen (t.exchange b).isSome else t.bank b := by
    rw [← State.foldl_unchoose_bank, hframe]
    rfl
  have hlet : s.Keeps (v.chosen.foldl State.unchoose t) := by
    rw [hframe]
    refine (h.setRoster (x := ro) fun b hc => ?_).same rfl
    rw [hbank] at hc
    split at hc
    · exact absurd hc (Bank.unchosen_ne_connected _ _)
    next hb =>
      rw [hbank, if_neg hb]
      exact ⟨hc, rfl⟩
  unfold State.endService
  dsimp only
  refine hlet.setService (fun hs _ v' hv' hst => ?_) fun _ b e ⟨v', hv', _, _, hb⟩ hc => ?_
  · split at hv'
    · cases hv'
      rw [hframe]
      have hxw : x = .withdrawn := by cases x <;> simp_all
      obtain ⟨hp, hr, hstop⟩ := hw hs hxw
      exact ⟨hp, hr, fun _ => hstop⟩
    · cases hv'
  · rw [hframe] at hv' hc
    obtain rfl : v' = v := Option.some.inj (hv'.symm.trans hv)
    have hc : (ro.get b).state = .connected := hc
    rw [hbank, if_pos hb] at hc
    exact absurd hc (Bank.unchosen_ne_connected _ _)

theorem setBankReq (h : s.Keeps t D) (e : EngineIx) {r : BankReq}
    (ha : s.MachineSound → (t.engine e).phase = .acquire) (hl : s.MachineSound → ¬t.Serves e .withdrawn)
    (hq : s.MachineSound → t.AwaitsBanks e → r = .waiting)
    (hv : s.MachineSound → t.Serves e .active → r = .connecting) :
    s.Keeps (t.modEngine e fun en => { en with bankReq := r }) D :=
  h.setEngine e (x := { t.engine e with bankReq := r })
    (fun hs ht => Engine.placed_bankReq (ha hs) (hl hs) (ht.placed e) (hq hs) (hv hs))
    (fun _ _ _ _ hk => .inl hk) fun _ _ _ hk => hk

/-- R163: the head of the wait list comes into service. -/
theorem bankTest (h : s.Keeps t D) : s.Keeps t.bankTest D := by
  unfold State.bankTest
  split
  next w rest hserv hwaits =>
    split
    next b bs _ =>
      have hrest : s.Keeps (t.setBankWaits rest) D := by
        refine h.setBankWaits ?_ (fun x hx => ⟨x, ?_, rfl⟩) ?_ <;> rw [hwaits]
        · exact fun hp => hp.of_cons
        · exact List.mem_cons_of_mem w hx
        · exact fun hn => (List.nodup_cons.mp hn).2
      have hwait (hs : s.MachineSound) : (t.engine w.engine).phase = .acquire ∧
          (t.engine w.engine).bankReq = .waiting :=
        ((h.sound hs).placed w.engine).awaits ⟨w, by rw [hwaits]; exact List.mem_cons_self, rfl⟩
      have honce (hs : s.MachineSound) : ¬(t.setBankWaits rest).AwaitsBanks w.engine := by
        rintro ⟨x, hx, hxw⟩
        have hn := (h.sound hs).once
        rw [hwaits, List.map_cons, List.nodup_cons] at hn
        exact hn.1 (List.mem_map.mpr ⟨x, hx, hxw⟩)
      have hreq : s.Keeps ((t.setBankWaits rest).modEngine w.engine fun en =>
          { en with bankReq := .connecting }) D :=
        hrest.setBankReq w.engine (fun hs => (hwait hs).1)
          (fun _ ⟨v, hv, _⟩ => absurd (hserv.symm.trans hv) (by simp)) (fun hs hx => absurd hx (honce hs))
          fun _ _ => rfl
      have hroster := hreq.setRoster (x := (b :: bs).foldl connectBank t.arb.roster) fun c hc => by
        have hsame := get_foldl_connectBank hc
        rw [hsame] at hc ⊢
        exact ⟨hc, rfl⟩
      dsimp only
      rw [State.foldl_connectBank]
      refine (hroster.setService (x := some ⟨w.engine, w.need, w.bay, w.joined, b :: bs, .active⟩)
        (fun hs _ v hv _ => ?_) fun _ b e ⟨v, hv, _⟩ _ => absurd (hserv.symm.trans hv) (by simp)).same rfl
      cases hv
      have hengine := State.engine_modEngine (t.setBankWaits rest) w.engine w.engine fun en =>
        { en with bankReq := .connecting }
      rw [if_pos rfl] at hengine
      have hphase := congrArg Engine.phase hengine
      exact ⟨hphase.trans (hwait hs).1, congrArg Engine.bankReq hengine, nofun⟩
    · exact h
  · exact h

/-- R118, R166: an engine in ACQUIRE with a stop cause, whose request connects, withdraws it. -/
theorem withdraw (h : s.Keeps t) (e : EngineIx) (hp : s.MachineSound → (t.engine e).phase = .acquire)
    (hr : (t.engine e).bankReq = .connecting) (ho : (t.engine e).stop.isSome = true)
    (hl : s.MachineSound → ¬t.Serves e .withdrawn) : s.Keeps (t.withdraw e) := by
  have hwait (hs : s.MachineSound) : ¬t.AwaitsBanks e := fun hx => by
    have := (((h.sound hs).placed e).awaits hx).2
    rw [hr] at this
    cases this
  have hempty (hs : s.MachineSound) := (h.sound hs).acquire (hp hs)
  have exit (hv : ¬t.Serves e .active) : s.Keeps (t.acquireExit e) :=
    h.acquireExit e (fun hs => ⟨(hempty hs).1, hwait hs, hv, hl hs⟩) (fun _ => .inr ho) fun hs => (hempty hs).2
  unfold State.withdraw
  split
  next v hv =>
    split
    next hve =>
      obtain ⟨hve, -⟩ := hve
      have hend : s.Keeps (t.endService v .withdrawn) :=
        h.endService hv (by decide) fun hs _ => by rw [hve]; exact ⟨hp hs, hr, ho⟩
      obtain ⟨ro, as, hframe⟩ := State.foldl_unchoose_frame v.chosen t
      have hkept : t.endService v .withdrawn = { t with
          arb := { t.arb with roster := ro, asked := as, service := (t.endService v .withdrawn).arb.service } } := by
        unfold State.endService
        rw [hframe]
        rfl
      dsimp only
      split
      next hnone =>
        generalize t.endService v .withdrawn = u at hend hkept hnone
        refine (hend.acquireExit e (fun hs => ?_) (fun _ => ?_) fun hs => ?_).bankTest
        · have hn (x : ServiceStatus) : ¬u.Serves e x := fun ⟨v, hv, _⟩ => absurd (hnone.symm.trans hv) (by simp)
          refine ⟨?_, ?_, hn _, hn _⟩ <;> rw [hkept]
          · exact (hempty hs).1
          · exact hwait hs
        · rw [hkept]
          exact .inr ho
        · rw [hkept]
          exact (hempty hs).2
      next => exact hend
    next hne =>
      refine exit fun ⟨v', hv', he, hst⟩ => hne ?_
      obtain rfl := Option.some.inj (hv.symm.trans hv')
      exact ⟨he, hst⟩
  next hnone => exact exit fun ⟨v, hv, _⟩ => absurd (hnone.symm.trans hv) (by simp)

end Keeps

end State

end Sys2Proof.Machine
end

section
/-! SUPPORT. Stop causes, verdicts, detection and admission keep the agreement of the engines and the books of the feed
(R99, R110 to R119, R176). -/

namespace Sys2Proof.Machine

namespace State

variable {s t u : State} {e f : EngineIx} {b : BankIx} {c : StopCause}

theorem foldl_recall_engine (s : State) (l : List GrantBank) (e : EngineIx) :
    (l.foldl (fun t g => (t.modBank g.bank fun k => { k with level := 0 }).dropAsked g.bank) s).engine e =
      s.engine e :=
  congrArg (·.get e) (s.foldl_recall l).1

/-- R108: an engine in use that is neither in RESERVE nor in ACQUIRE is busy. -/
theorem MachineSound.busy (h : s.MachineSound) (hf : (s.engine e).phase ≠ .free)
    (hr : (s.engine e).phase ≠ .reserve) (ha : (s.engine e).phase ≠ .acquire) : (s.engine e).Busy := by
  have hclose := ((h.placed e).sound.2.1 hf).1
  unfold Engine.Busy
  cases hp : (s.engine e).phase <;> simp_all

/-- R108: an engine whose detection is armed is past ACQUIRE. -/
theorem MachineSound.busy_of_armed (h : s.MachineSound) (hd : (s.engine e).detection = .armed) :
    (s.engine e).Busy := by
  have hearly := (h.placed e).sound.2.2.2.2.2
  refine h.busy (fun hp => ?_) (fun hp => (hearly (.inl hp)).2.1 hd) fun hp => (hearly (.inr hp)).2.1 hd
  rw [(h.free hp).1] at hd
  cases hd

namespace Keeps

/-! ### Stop causes (R117 to R119) -/

/-- R117: an engine in use takes a stop cause; DOUBT is taken for no RUNNING record. -/
theorem setStop (h : s.Keeps t) (e : EngineIx) {g : Engine → Engine}
    (hg : s.MachineSound → ∀ p q a l, (t.engine e).Placed p q a l → (g (t.engine e)).Placed p q a l)
    (hphase : (g (t.engine e)).phase = (t.engine e).phase) (hcopy : (g (t.engine e)).copy = (t.engine e).copy)
    (hgrant : (g (t.engine e)).grant = (t.engine e).grant) (hstop : (g (t.engine e)).stop = some c)
    (hd : c = .doubt → s.MachineSound → t.Unrun e) : s.Keeps (t.modEngine e g) := by
  refine h.setEngine e (x := g (t.engine e)) (fun hs ht => hg hs _ _ _ _ (ht.placed e))
    (fun hs _ i hi hk => .inl ⟨?_, ?_, ?_⟩) fun _ _ b hb => ?_
  · rw [hphase]
    exact hk.1
  · rw [hcopy]
    exact hk.2.1
  · rw [hstop]
    rintro ⟨⟩
    exact hd rfl hs i hi hk
  · unfold Engine.HoldsBank
    rwa [hgrant]

theorem stopped (h : s.Keeps t) (e : EngineIx) (c : StopCause) (hf : (t.engine e).phase ≠ .free)
    (hd : c = .doubt → s.MachineSound → t.Unrun e) : s.Keeps (t.stopped e c) :=
  h.setStop e (fun _ _ _ _ _ hp => Engine.placed_stop hf (Engine.placed_quiet hf hp)) rfl rfl rfl rfl hd

theorem recallSets (h : s.Keeps t) (e : EngineIx) : s.Keeps (t.recallSets e) := by
  refine (foldl (fun _ (g : GrantBank) hv => (hv.modBank g.bank (f := fun k => { k with level := 0 })
    fun hc => ⟨hc, rfl⟩).same (by rfl)) _ h).modEngine e fun _ _ => ?_
  rw [State.foldl_recall_engine]
  exact Engine.follows_grant ((List.map_map ..).trans rfl)

/-- R117, R118: an engine meets a stop cause; DOUBT is met for no RUNNING record. -/
theorem takeStop (h : s.Keeps t) (e : EngineIx) (c : StopCause) (hd : c = .doubt → s.MachineSound → t.Unrun e) :
    s.Keeps (t.takeStop e c) := by
  have hengine := t.stopped_engine e c
  have hstop : ((t.stopped e c).engine e).verdict.isSome = true ∨ ((t.stopped e c).engine e).stop.isSome = true := by
    rw [hengine]
    exact .inr rfl
  have hst (hf : (t.engine e).phase ≠ .free) : s.Keeps (t.stopped e c) := h.stopped e c hf hd
  refine State.takeStop_rule (P := (s.Keeps ·)) h (fun hc _ hv => ?_) (fun _ _ hp => ?_) (fun _ hs hp => ?_)
    (fun _ _ hp => ?_) fun _ _ hp => hst (by simp [hp])
  · subst hc
    refine h.setStop e (g := fun en => { en with stop := some .aborted })
      (fun hs _ _ _ _ => Engine.placed_stop fun hp => hv ?_) rfl rfl rfl rfl hd
    rw [((h.sound hs).free hp).1]
    rfl
  · have hf : (t.engine e).phase ≠ .free := by simp [hp]
    have hk := (hst hf).feedWithdraw e fun _ => by rw [hengine]; exact hf
    have hengine' : ((t.stopped e c).feedWithdraw e).engine e =
        { (t.stopped e c).engine e with reservation := .none } :=
      (State.engine_modEngine ..).trans (if_pos rfl)
    have hphase : (((t.stopped e c).feedWithdraw e).engine e).phase = .reserve := by rw [hengine', hengine]; exact hp
    refine hk.engineClose e (fun hs => (hk.sound hs).reserve hphase fun ⟨w, hw, he⟩ => ?_) (fun _ => ?_) fun hs => ?_
    · have hw : w ∈ t.feed.waits.filter (·.engine ≠ e) := hw
      simp [he] at hw
    · rw [hengine']
      exact hstop
    · exact (((hk.sound hs).placed e).sound.2.2.2.2.2 (.inl hphase)).1
  · have hf : (t.engine e).phase ≠ .free := by simp [hp]
    have hk := hst hf
    have hphase : ((t.stopped e c).engine e).phase = .acquire := by rw [hengine]; exact hp
    have hreq : ((t.stopped e c).engine e).bankReq = (t.engine e).bankReq := by rw [hengine]; rfl
    have hleave (hm : s.MachineSound) : ¬(t.stopped e c).Serves e .withdrawn := fun hx => by
      have := (((h.sound hm).placed e).leaving hx).2.2
      rw [hs] at this
      cases this
    have hempty (hm : s.MachineSound) := (hk.sound hm).acquire hphase
    split
    next hr =>
      exact hk.withdraw e (fun _ => hphase) (hreq.trans hr) (by rw [hengine]; rfl) hleave
    next hr =>
      refine (hk.bankWithdraw e).acquireExit e (fun hm => ⟨(hempty hm).1, fun ⟨w, hw, he⟩ => ?_, fun hx => ?_,
        hleave hm⟩) (fun _ => hstop) fun hm => (hempty hm).2
      · have hw : w ∈ t.arb.waits.filter (·.engine ≠ e) := hw
        simp [he] at hw
      · have := (((h.sound hm).placed e).active hx).2
        rw [hr] at this
        cases this
    next hc hw =>
      refine hk.acquireExit e (fun hm => (hk.sound hm).unasked hphase ?_ ?_) (fun _ => hstop)
        fun hm => (hempty hm).2 <;> rw [hreq]
      · exact hw
      · exact hc
  · have hb : (t.engine e).Busy := hp.imp id .inl
    have hk := hst hb.phase_ne.1
    split
    · refine (hk.recallSets e).enterUnload e (fun _ => ?_) fun _ => ?_ <;>
        rw [((t.stopped e c).recallSets_spec e).1, hengine]
      · exact hb
      · exact .inr rfl
    · refine hk.enterUnload e (fun _ => ?_) fun _ => hstop
      rw [hengine]
      exact hb

/-! ### Verdicts, detection and the passage (R99, R113, R114) -/

/-- A busy engine goes on as one, with its record and its banks. -/
theorem work (h : s.Keeps t) (e : EngineIx) {g : Engine → Engine} (hb : s.MachineSound → (t.engine e).Busy)
    (hb' : s.MachineSound → (g (t.engine e)).Busy)
    (hw : s.MachineSound → (t.engine e).Working → (g (t.engine e)).Working)
    (hcopy : (g (t.engine e)).copy.map (·.handle) = (t.engine e).copy.map (·.handle))
    (hstop : (g (t.engine e)).stop = (t.engine e).stop)
    (hgrant : (g (t.engine e)).grant.map (·.bank) = (t.engine e).grant.map (·.bank)) :
    s.Keeps (t.modEngine e g) :=
  h.modEngine e fun hs _ =>
    Engine.follows_of_working (hb hs) (hb' hs) (hw hs) hcopy (fun hd => hstop.symm.trans hd) hgrant

/-- R113: a busy engine reaches a verdict, which is not DOUBT. -/
theorem reachVerdict (h : s.Keeps t) (e : EngineIx) {v : Verdict} (hb : s.MachineSound → (t.engine e).Busy)
    (hv : v.outcome ≠ .doubt) : s.Keeps (t.reachVerdict e v) := by
  have hengine : (t.modEngine e fun en => { en with verdict := some v }).engine e =
      { t.engine e with verdict := some v } := (State.engine_modEngine ..).trans (if_pos rfl)
  refine enterUnload (t := t.modEngine e fun en => { en with verdict := some v })
    (h.work e hb hb (fun _ hw => ⟨hw.busy, hw.copy, fun _ => .inl rfl, ?_, hw.unasked⟩) rfl rfl rfl) e
    (fun hs => ?_) fun _ => ?_
  · rintro _ ⟨⟩
    exact hv
  · rw [hengine]
    exact hb hs
  · rw [hengine]
    exact .inl rfl

theorem passageAdvance (h : s.Keeps t) (e : EngineIx) : s.Keeps (t.passageAdvance e) := by
  unfold State.passageAdvance
  dsimp only
  split
  next hw =>
    have hf : (t.engine e).phase ≠ .free := by
      rw [hw.1]
      decide
    split
    · exact h.feedRelease e fun _ => hf
    · exact h
  · exact h

/-- R114: the passage of a busy engine into its RESTART step. -/
theorem passage (h : s.Keeps t) (e : EngineIx) {c : WorkingCopy} (r : RestartParams) (n : Nat) (x : DetectCause)
    (hb : s.MachineSound → (t.engine e).Busy) (hc : (t.engine e).copy = some c) :
    s.Keeps (t.passage e c r n x) := by
  have hk := (h.send e (.passage c.handle c.index n x c.attempt)).askSets
    ((t.engine e).grant.filter fun g => !g.load) (fun _ => 0) false
  refine (hk.modEngine e fun hs _ => ?_).passageAdvance e
  rw [State.foldl_askSet_engine]
  refine Engine.follows_of_working (hb hs) (.inr (.inl rfl)) (fun hw => ?_) ?_ id ?_
  · exact ⟨.inr (.inl rfl), rfl, nofun, nofun, rfl⟩
  · exact (congrArg (Option.map (·.handle)) hc).symm
  · refine (List.map_map ..).trans (List.map_congr_left fun g _ => ?_)
    dsimp only [Function.comp]
    split <;> rfl

theorem detect (h : s.Keeps t) (e : EngineIx) (x : DetectCause) (n : Nat) : s.Keeps (t.detect e x n) := by
  unfold State.detect
  dsimp only
  split
  next c harmed hc =>
    have hb (hs : s.MachineSound) : (t.engine e).Busy := (h.sound hs).busy_of_armed harmed
    have hengine : (t.modEngine e fun en => { en with detection := .made x n }).engine e =
        { t.engine e with detection := .made x n } := (State.engine_modEngine ..).trans (if_pos rfl)
    have hmade : s.Keeps (t.modEngine e fun en => { en with detection := .made x n }) :=
      h.work e hb hb (fun _ hw => ⟨hw.busy, hw.copy, hw.unload, hw.verdict, hw.unasked⟩) rfl rfl rfl
    have hb' (hs : s.MachineSound) : ((t.modEngine e fun en => { en with detection := .made x n }).engine e).Busy := by
      rw [hengine]
      exact hb hs
    split
    · exact hmade.reachVerdict e hb' nofun
    · exact hmade.reachVerdict e hb' nofun
    split
    · exact h
    split
    · exact h
    split
    · exact hmade.reachVerdict e hb' nofun
    · exact hmade.passage e _ _ _ hb' (by rw [hengine]; exact hc)
  · exact h

/-- R112: the first SET of a load step is sent. -/
theorem arm (h : s.Keeps t) (e : EngineIx) (hb : s.MachineSound → (t.engine e).Busy) : s.Keeps (t.arm e) := by
  unfold State.arm
  split
  · exact h
  next c _ =>
    have harm : s.Keeps (t.modEngine e fun en => { en with
        setSent := true, detection := .armed, tripFrom := if c.kind = .trip then some t.now else none }) :=
      h.work e hb hb (fun _ hw => ⟨hw.busy, hw.copy, hw.unload, hw.verdict, hw.unasked⟩) rfl rfl rfl
    dsimp only
    split
    · exact harm.detect ..
    · exact harm

theorem enterWatch (h : s.Keeps t) (e : EngineIx) (hb : s.MachineSound → (t.engine e).Busy) :
    s.Keeps (t.enterWatch e) :=
  h.work e hb (fun _ => .inr (.inl rfl))
    (fun _ hw => ⟨.inr (.inl rfl), hw.copy, nofun, hw.verdict, hw.unasked⟩) rfl rfl rfl

end Keeps

end State

end Sys2Proof.Machine
end

section
/-! SUPPORT. Loading, bank requests and admission keep the agreement of the engines and the books of the feed (R110 to
R112, R162, R176). -/

namespace Sys2Proof.Machine

namespace State

variable {s t u : State} {D : EngineIx → BankIx → Prop} {e f : EngineIx} {b : BankIx} {c : WorkingCopy}
  {g : List GrantBank} {n : Nat}

/-- R111: an engine that holds its whole grant. -/
def loaded (t : State) (e : EngineIx) (g : List GrantBank) : State :=
  t.modEngine e fun en => { en with
    phase := .load, watch := true, bankReq := if g = [] then .notMade else .granted, grant := g
    granted := some t.now }

theorem loaded_engine (t : State) (e : EngineIx) (g : List GrantBank) : (t.loaded e g).engine e =
    { t.engine e with
      phase := .load, watch := true, bankReq := if g = [] then .notMade else .granted, grant := g
      granted := some t.now } := (State.engine_modEngine ..).trans (if_pos rfl)

theorem loaded_busy (t : State) (e : EngineIx) (g : List GrantBank) : ((t.loaded e g).engine e).Busy := by
  rw [loaded_engine]
  exact .inl rfl

/-- A bank that is owed under a debt that cannot be is owed under none. -/
theorem Keeps.settle (h : s.Keeps t D) (hD : s.MachineSound → ∀ e b, ¬D e b) : s.Keeps t :=
  { h with held := fun hs X _ => h.held hs X fun e b hd => absurd hd (hD hs e b) }

namespace Keeps

/-! ### Loading (R111, R112) -/

/-- R111: an engine in ACQUIRE takes its grant, which settles the banks owed to it. -/
theorem loaded (h : s.Keeps t D) (e : EngineIx) (g : List GrantBank)
    (hp : s.MachineSound → (t.engine e).phase = .acquire) (hu : s.MachineSound → t.Unnamed e)
    (hD : s.MachineSound → ∀ f b, D f b → f = e ∧ b ∈ g.map (·.bank)) : s.Keeps (t.loaded e g) := by
  have hset : s.Keeps (t.loaded e g) D := by
    refine h.setEngine e (fun hs ht => ?_) (fun hs _ i _ hk => .inl ?_) fun hs ht b hb => ?_
    · obtain ⟨-, hcopy, -, hverdict, heval, -⟩ := (ht.placed e).sound
      have hunasked : (t.engine e).evalAsked = false := Bool.eq_false_iff.mpr fun hx => by
        have := (heval hx).1
        rw [hp hs] at this
        cases this
      have hhas : (t.engine e).copy.isSome = true := (hcopy (by rw [hp hs]; decide)).2
      exact (Engine.placed_iff_of_busy (.inl rfl)).mpr ⟨⟨.inl rfl, hhas, nofun, hverdict, hunasked⟩, hu hs⟩
    · exact ⟨nofun, hk.2⟩
    · obtain ⟨x, hx, -⟩ := hb
      rw [(ht.acquire (hp hs)).2] at hx
      cases hx
  refine { hset with held := fun hs X _ hX b f hlt hcon hen => ?_ }
  obtain hk | hk | hk | hk := hset.held hs (fun e b => X e b ∨ D e b) (fun _ _ => .inr)
    (fun b f hlt hcon hen => (hX b f hlt hcon hen).imp id (.imp id .inl)) b f hlt hcon hen
  · exact .inl hk
  · exact .inr (.inl hk)
  · exact .inr (.inr hk)
  · obtain ⟨rfl, hb⟩ := hD hs f b hk
    refine .inl ?_
    rw [loaded_engine, Engine.holdsBank_iff]
    exact hb

theorem enterLoad (h : s.Keeps t D) (e : EngineIx) (g : List GrantBank)
    (hp : s.MachineSound → (t.engine e).phase = .acquire) (hu : s.MachineSound → t.Unnamed e)
    (hD : s.MachineSound → ∀ f b, D f b → f = e ∧ b ∈ g.map (·.bank)) : s.Keeps (t.enterLoad e g) := by
  have hload := h.loaded e g hp hu hD
  unfold State.enterLoad
  split
  next hc =>
    refine h.settle fun hs => ?_
    have := (((h.sound hs).placed e).sound.2.1 (by rw [hp hs]; decide)).2
    rw [hc] at this
    cases this
  dsimp only
  have hdef : (t.modEngine e fun en => { en with
      phase := .load, watch := true, bankReq := if g = [] then .notMade else .granted, grant := g
      granted := some t.now }) = t.loaded e g := rfl
  rw [hdef]
  split
  · exact hload.takeStop e _ nofun
  split
  · have harm := hload.arm e fun _ => t.loaded_busy e g
    split
    next hphase => exact harm.enterWatch e fun _ => .inl hphase
    next => exact harm
  · refine (hload.askSets g (·.share) true).modEngine e fun _ _ => ?_
    exact Engine.follows_grant ((List.map_map ..).trans rfl)

/-! ### Bank requests (R111, R162) -/

/-- R162: the request of an engine that waits, and stands in the list no more than once, joins it. -/
theorem joinBankWaits (h : s.Keeps t) {w : BankWait} (hw : s.MachineSound →
    (t.engine w.engine).phase = .acquire ∧ (t.engine w.engine).bankReq = .waiting ∧ ¬t.AwaitsBanks w.engine) :
    s.Keeps (t.joinBankWaits w) where
  sum := h.sum
  ordered hs := by
    obtain ⟨hfeed, hbank⟩ := h.ordered hs
    exact ⟨hfeed, insertRanked_pairwise (before := BankWait.before)
      (fun _ _ => ranksBefore_asymm_of_age _ _ _ _ _ _)
      (fun _ _ _ => ranksBefore_trans_of_age _ _ _ _ _ _ _ _ _) _ hbank⟩
  sound hs := by
    obtain ⟨hacq, hwait, hno⟩ := hw hs
    have ht := h.sound hs
    refine ⟨fun e => ?_, ?_⟩
    · obtain ⟨hsound, hsub, hbank, hact, hleave⟩ := ht.placed e
      refine ⟨hsound, hsub, fun ⟨v, hv, hve⟩ => ?_, hact, hleave⟩
      obtain rfl | hv := (mem_insertRanked ..).mp hv
      · exact hve ▸ ⟨hacq, hwait⟩
      · exact hbank ⟨v, hv, hve⟩
    · refine (((insertRanked_perm ..).map _).nodup_iff).mpr (List.nodup_cons.mpr ⟨fun hm => hno ?_, ht.once⟩)
      obtain ⟨v, hv, hve⟩ := List.mem_map.mp hm
      exact ⟨v, hv, hve⟩
  borne := h.borne
  held := h.held
  budget := h.budget
  guard := h.guard
  total := h.total

theorem bankRequest (h : s.Keeps t) (e : EngineIx) (c : WorkingCopy) (n : Nat)
    (hp : s.MachineSound → (t.engine e).phase = .acquire) (hu : s.MachineSound → t.Unnamed e) :
    s.Keeps (t.bankRequest e c n) := by
  unfold State.bankRequest
  split
  · exact h.takeStop e _ nofun
  · have hreq := h.setBankReq e (r := .waiting) hp (fun hs => (hu hs).2.2.2) (fun _ _ => rfl)
      fun hs hx => absurd hx (hu hs).2.2.1
    have hengine : (t.modEngine e fun en => { en with bankReq := .waiting }).engine e =
        { t.engine e with bankReq := .waiting } := (State.engine_modEngine ..).trans (if_pos rfl)
    refine bankTest ((hreq.joinBankWaits (w := ⟨e, n, c.priority, c.bay, t.arb.nextJoin⟩) fun hs => ?_).same rfl)
    rw [hengine]
    exact ⟨hp hs, rfl, (hu hs).2.1⟩

theorem askBanks (h : s.Keeps t) (e : EngineIx) (hp : s.MachineSound → (t.engine e).phase = .acquire)
    (hu : s.MachineSound → t.Unnamed e) : s.Keeps (t.askBanks e) := by
  unfold State.askBanks
  split
  · exact h
  split
  · exact h.enterLoad e [] hp hu fun _ _ _ => False.elim
  · exact h.bankRequest e _ _ hp hu

/-! ### Admission (R110, R176) -/

/-- R176: a submission that fits leaves the wait list, and its engine enters ACQUIRE. -/
theorem admitHead (h : s.Keeps t) {w : FeedWait} (hw : w ∈ t.feed.waits) (hf : t.feed.fits w = true) :
    s.Keeps (t.admitHead w) := by
  have hadm := h.admitted hf
  have hsub : t.Submits w.engine := ⟨w, hw, rfl⟩
  have hout : ¬(t.setFeed (t.feed.admitted w)).Submits w.engine := by
    rintro ⟨v, hv, hve⟩
    have hv : v ∈ t.feed.waits.filter (·.engine ≠ w.engine) := hv
    simp [hve] at hv
  refine hadm.setEngine w.engine (fun hs ht => ?_) (fun hs _ i _ hk => .inl ?_) fun _ _ _ hb => hb
  · have hplace := (h.sound hs).placed w.engine
    have hp : (t.engine w.engine).phase = .reserve := hplace.submits hsub
    obtain ⟨-, hcopy, -, hverdict, heval, hearly⟩ := hplace.sound
    obtain ⟨-, hb, ha, hl⟩ := ht.reserve hp hout
    refine ⟨⟨nofun, fun _ => ⟨nofun, (hcopy (by rw [hp]; decide)).2⟩, nofun, hverdict,
      fun hx => absurd hsub (heval hx).2.1, fun _ => hearly (.inl hp)⟩, fun hx => absurd hx hout,
      fun hx => absurd hx hb, fun hx => absurd hx ha, fun hx => absurd hx hl⟩
  · exact ⟨nofun, hk.2⟩

theorem feedTest (h : s.Keeps t) : s.Keeps t.feedTest := by
  have upTo (n : Nat) {v : State} (hv : s.Keeps v) : s.Keeps (State.feedTestUpTo n v) := by
    induction n generalizing v with
    | zero => exact hv
    | succ n ih =>
      unfold State.feedTestUpTo
      split
      · exact hv
      next w _ hw =>
        split
        next hf => exact ih (hv.admitHead (by rw [hw]; exact List.mem_cons_self) hf)
        next => exact hv
  exact upTo _ h

theorem feedRetest (h : s.Keeps t) (b : State) : s.Keeps (State.feedRetest b t) := by
  unfold State.feedRetest
  split
  · exact h
  · exact h.feedTest

theorem stopEngine (h : s.Keeps t) (e : EngineIx) (c : StopCause)
    (hd : c = .doubt → s.MachineSound → t.Unrun e) : s.Keeps (t.stopEngine e c) :=
  (h.takeStop e c hd).feedRetest t

/-- R110: the submission of an engine in RESERVE that awaits no evaluation joins the wait list. -/
theorem joinFeedWaits (h : s.Keeps t) (e : EngineIx) (c : WorkingCopy) (n : Nat)
    (hp : s.MachineSound → (t.engine e).phase = .reserve)
    (ha : s.MachineSound → (t.engine e).evalAsked = false) : s.Keeps (t.joinFeedWaits e c n) := by
  have hjoin : s.Keeps (t.setFeed (t.feed.join e n c.priority c.bay)) :=
    { h with
      ordered := fun hs => by
        obtain ⟨hfeed, hbank⟩ := h.ordered hs
        exact ⟨insertRanked_pairwise (before := FeedWait.before)
          (fun _ _ => ranksBefore_asymm_of_age _ _ _ _ _ _)
          (fun _ _ _ => ranksBefore_trans_of_age _ _ _ _ _ _ _ _ _) _ hfeed, hbank⟩
      sound := fun hs => by
        refine ⟨fun f => ?_, (h.sound hs).once⟩
        obtain ⟨⟨hfree, hcopy, hunload, hverdict, heval, hearly⟩, hsub, hbank, hact, hleave⟩ := (h.sound hs).placed f
        have hor (hx : (t.setFeed (t.feed.join e n c.priority c.bay)).Submits f) : f = e ∨ t.Submits f := by
          obtain ⟨v, hv, hve⟩ := hx
          obtain rfl | hv := (mem_insertRanked ..).mp hv
          · exact .inl hve.symm
          · exact .inr ⟨v, hv, hve⟩
        refine ⟨⟨hfree, hcopy, hunload, hverdict, fun hx => ?_, hearly⟩,
          fun hx => (hor hx).elim (fun he => he ▸ hp hs) hsub, hbank, hact, hleave⟩
        obtain ⟨hr, hno, hd⟩ := heval hx
        refine ⟨hr, fun hy => (hor hy).elim (fun he => ?_) hno, hd⟩
        subst he
        exact absurd ((ha hs).symm.trans hx) (by decide) }
  exact hjoin.modEngine e fun hs _ => Engine.follows_of_gist (fun hf => by
    have hf : (t.engine e).phase = .free := hf
    rw [hp hs] at hf
    cases hf) rfl

theorem submit (h : s.Keeps t) (e : EngineIx) (c : WorkingCopy) (n : Nat)
    (hp : s.MachineSound → (t.engine e).phase = .reserve)
    (ha : s.MachineSound → (t.engine e).evalAsked = false) : s.Keeps (t.submit e c n) :=
  (h.joinFeedWaits e c n hp ha).feedTest

/-! ### The block's own work and the passing of time (log 37) -/

theorem ownWork (h : s.Keeps t) (hu : t.ownWork = some u) : s.Keeps u := by
  obtain ⟨e, he, rfl⟩ | ⟨e, c, n, -, -, hc, rfl⟩ := State.ownWork_cases hu
  · obtain ⟨hp, hr, -⟩ := State.bankAsker_spec he
    exact (h.askBanks e (fun _ => hp) fun hs =>
      (h.sound hs).unasked hp (by rw [hr]; decide) (by rw [hr]; decide)).feedRetest t
  · obtain ⟨hp, -, hcopy, p, hterms, -⟩ := State.submitter_spec hc
    refine h.submit e c n (fun _ => hp) fun hs => Bool.eq_false_iff.mpr fun hx => ?_
    obtain ⟨-, -, c', d, hc', hd⟩ := ((h.sound hs).placed e).sound.2.2.2.2.1 hx
    obtain rfl := Option.some.inj (hcopy.symm.trans hc')
    rw [hd] at hterms
    cases hterms

theorem settled (h : s.Keeps t) : s.Keeps t.settled :=
  State.settled_induct (P := (s.Keeps ·)) (fun _ _ hv hu => hv.ownWork hu) h

theorem passTo (h : s.Keeps t D) (n : Nat) : s.Keeps (t.passTo n) D := by
  refine h.same ?_
  unfold State.gear
  rw [State.passTo_store, State.passTo_engines, State.passTo_outbox, State.passTo_feed, State.passTo_waits,
    State.passTo_service, State.passTo_roster, State.passTo_straps]

theorem atTick (h : s.Keeps t) (n : Nat) : s.Keeps (t.atTick n) := by
  unfold State.atTick
  split
  · exact h.settled.passTo n
  · exact h

/-! ### A priority and a stop cause for the engine of a record (R59, R67) -/

theorem stopHolder (h : s.Keeps t) (i : SlotIx) (r : ShelfRecord) {c : StopCause} (hc : c ≠ .doubt) :
    s.Keeps (t.stopHolder i r c) := by
  unfold State.stopHolder
  split
  · split
    · exact h.stopEngine _ c fun hd => absurd hd hc
    · exact h
  · exact h

end Keeps

end State

/-- Where an engine has at most one entry, it has at most one when that entry has moved. -/
theorem reranked_nodup {α : Type} {before : α → α → Bool} {key : α → EngineIx} {e : EngineIx} {set : α → α}
    {l : List α} (hset : ∀ w, key (set w) = key w) (hn : (l.map key).Nodup) :
    ((reranked before key e set l).map key).Nodup := by
  unfold reranked
  split
  next w hw =>
    have hk : key (set w) = e := (hset w).trans (by simpa using List.find?_some hw)
    refine (((insertRanked_perm ..).map key).nodup_iff).mpr (List.nodup_cons.mpr ⟨fun hm => ?_, ?_⟩)
    · obtain ⟨v, hv, hve⟩ := List.mem_map.mp hm
      simp [hve, hk] at hv
    · exact hn.sublist (List.filter_sublist.map _)
  next => exact hn

namespace State.Keeps

variable {s t : State} {e : EngineIx} {n : Nat}

/-- R59, R176, R180: a submission and a reservation take another priority. -/
theorem reprioritise (h : s.Keeps t) (e : EngineIx) (n : Nat) :
    s.Keeps (t.setFeed (t.feed.reprioritise e n)) := by
  rw [Feed.reprioritise_eq]
  refine h.setFeed rfl rfl (Nat.le_max_left ..) (fun hsum => hsum.trans (congrArg List.sum ?_))
    (reranked_pairwise (fun _ _ => ranksBefore_asymm_of_age _ _ _ _ _ _)
      fun _ _ _ => ranksBefore_trans_of_age _ _ _ _ _ _ _ _ _) fun w hw => ?_
  · refine (List.map_congr_left fun r _ => ?_).trans (List.map_map ..).symm
    dsimp only [Function.comp]
    split <;> rfl
  · obtain ⟨v, hv, hk | hk⟩ := mem_of_mem_reranked hw <;> exact ⟨v, hv, by rw [hk]⟩

theorem bankReprioritise (h : s.Keeps t) (e : EngineIx) (n : Nat) : s.Keeps (t.bankReprioritise e n) := by
  rw [State.bankReprioritise_eq]
  refine h.setBankWaits (reranked_pairwise (fun _ _ => ranksBefore_asymm_of_age _ _ _ _ _ _)
      fun _ _ _ => ranksBefore_trans_of_age _ _ _ _ _ _ _ _ _) (fun w hw => ?_)
    (reranked_nodup fun _ => rfl)
  obtain ⟨v, hv, hk | hk⟩ := mem_of_mem_reranked hw <;> exact ⟨v, hv, by rw [hk]⟩

theorem passPriority (h : s.Keeps t) (e : EngineIx) (n : Nat) : s.Keeps (t.passPriority e n) := by
  unfold State.passPriority
  extract_lets s1 s2 s3 s4
  have h2 : s.Keeps s2 := (h.modEngine e fun _ _ => Engine.follows_reprice n).reprioritise e n
  have h3 : s.Keeps s3 := by
    unfold s3
    split
    · exact h2
    · exact h2.feedTest
  have h4 : s.Keeps s4 := h3.bankReprioritise e n
  split
  · exact h4
  · exact h4.bankTest

theorem passToHolder (h : s.Keeps t) (i : SlotIx) (r : ShelfRecord) (n : Nat) :
    s.Keeps (t.passToHolder i r n) := by
  unfold State.passToHolder
  split
  · split
    · exact h.settled.passPriority ..
    · exact h.settled
  · exact h

end State.Keeps

end Sys2Proof.Machine
end

section
/-! SUPPORT. The block's own work leaves every busy engine alone (log 37). -/

namespace Sys2Proof.Machine

namespace State

namespace Aside

variable {s t u : State} {e f : EngineIx} {c : WorkingCopy} {g : List GrantBank} {n : Nat}

theorem askSets (h : State.Aside e s t) (l : List GrantBank) (n : GrantBank → Nat) (load : Bool) :
    State.Aside e s (l.foldl (fun t g => t.askSet g.bank (n g) load) t) :=
  foldl (op := fun t g => t.askSet g.bank (n g) load) (fun _ _ hv => hv.same rfl rfl rfl) l h

theorem reachVerdict (h : State.Aside e s t) (hf : f ≠ e) (v : Verdict) :
    State.Aside e s (t.reachVerdict f v) :=
  h.of_onlyEngine (.reachVerdict (bs := List.finRange 8) (fun _ _ => List.mem_finRange _) v) hf

theorem passage (h : State.Aside e s t) (hf : f ≠ e) (c : WorkingCopy) (r : RestartParams) (n : Nat)
    (x : DetectCause) : State.Aside e s (t.passage f c r n x) := by
  refine State.Aside.of_onlyEngine ?_ (.passageAdvance _ f []) hf
  refine modEngine (askSets ?_ _ (fun _ => 0) false) hf _
  exact h.same rfl rfl rfl

theorem detect (h : State.Aside e s t) (hf : f ≠ e) (x : DetectCause) (n : Nat) :
    State.Aside e s (t.detect f x n) := by
  unfold State.detect
  dsimp only
  split
  · have hmade := h.modEngine hf fun en => { en with detection := .made x n }
    split
    · exact hmade.reachVerdict hf _
    · exact hmade.reachVerdict hf _
    split
    · exact h
    split
    · exact h
    split
    · exact hmade.reachVerdict hf _
    · exact hmade.passage hf ..
  · exact h

theorem arm (h : State.Aside e s t) (hf : f ≠ e) : State.Aside e s (t.arm f) := by
  unfold State.arm
  split
  · exact h
  dsimp only
  split
  · exact (h.modEngine hf _).detect hf ..
  · exact h.modEngine hf _

theorem enterLoad (h : State.Aside e s t) (hf : f ≠ e) (g : List GrantBank) :
    State.Aside e s (t.enterLoad f g) := by
  unfold State.enterLoad
  split
  · exact h
  dsimp only
  split
  · exact (h.modEngine hf _).takeStop hf _
  split
  · split
    · exact ((h.modEngine hf _).arm hf).modEngine hf _
    · exact (h.modEngine hf _).arm hf
  · exact ((h.modEngine hf _).askSets g (·.share) true).modEngine hf _

theorem bankRequest (h : State.Aside e s t) (hf : f ≠ e) (c : WorkingCopy) (n : Nat) :
    State.Aside e s (t.bankRequest f c n) := by
  unfold State.bankRequest
  split
  · exact h.takeStop hf _
  · refine bankTest (h.trans ⟨.inl ?_, id, fun ⟨w, hw, he⟩ => ?_⟩)
    · exact (State.engine_modEngine ..).trans (if_neg hf.symm)
    obtain rfl | hw := (mem_insertRanked ..).mp hw
    · exact absurd he hf
    · exact ⟨w, hw, he⟩

theorem askBanks (h : State.Aside e s t) (hf : f ≠ e) : State.Aside e s (t.askBanks f) := by
  unfold State.askBanks
  split
  · exact h
  split
  · exact h.enterLoad hf []
  · exact h.bankRequest hf ..

/-- R176: an engine that has submitted nothing is not admitted. -/
theorem feedTest (h : State.Aside e s t) (hn : ¬s.Submits e) : State.Aside e s t.feedTest := by
  have upTo (n : Nat) {v : State} (hv : State.Aside e s v) : State.Aside e s (State.feedTestUpTo n v) := by
    induction n generalizing v with
    | zero => exact hv
    | succ n ih =>
      unfold State.feedTestUpTo
      split
      · exact hv
      next w ws hw =>
        split
        · have hne : w.engine ≠ e := fun he => hn (hv.submits ⟨w, by rw [hw]; exact List.mem_cons_self, he⟩)
          exact ih ((hv.setFeed (x := v.feed.admitted w) fun _ hx => List.mem_of_mem_filter hx).modEngine hne _)
        · exact hv
  exact upTo _ h

theorem feedRetest (h : State.Aside e s t) (hn : ¬s.Submits e) (b : State) :
    State.Aside e s (State.feedRetest b t) := by
  unfold State.feedRetest
  split
  · exact h
  · exact h.feedTest hn

theorem submit (h : State.Aside e s t) (hn : ¬s.Submits e) (hf : f ≠ e) (c : WorkingCopy) (n : Nat) :
    State.Aside e s (t.submit f c n) := by
  refine feedTest (h.trans ⟨.inl ?_, fun ⟨w, hw, he⟩ => ?_, id⟩) hn
  · exact (State.engine_modEngine ..).trans (if_neg hf.symm)
  obtain rfl | hw := (mem_insertRanked ..).mp hw
  · exact absurd he hf
  · exact ⟨w, hw, he⟩

/-- R110, R111: the own work is that of engines in RESERVE and in ACQUIRE. -/
theorem ownWork (h : State.Aside e s t) (hn : ¬s.Submits e) (hr : (s.engine e).phase ≠ .reserve)
    (ha : (s.engine e).phase ≠ .acquire) (hu : t.ownWork = some u) : State.Aside e s u := by
  have hphase : (t.engine e).phase = (s.engine e).phase := h.reads fun _ _ => rfl
  obtain ⟨f, hf, rfl⟩ | ⟨f, c, n, -, -, hc, rfl⟩ := State.ownWork_cases hu
  · refine (h.askBanks fun hfe => ha ?_).feedRetest hn t
    rw [← hphase, ← hfe]
    exact (State.bankAsker_spec hf).1
  · refine h.submit hn (fun hfe => hr ?_) c n
    rw [← hphase, ← hfe]
    exact (State.submitter_spec hc).1

theorem settled (s : State) (hn : ¬s.Submits e) (hr : (s.engine e).phase ≠ .reserve)
    (ha : (s.engine e).phase ≠ .acquire) : State.Aside e s s.settled :=
  State.settled_induct (P := State.Aside e s) (fun _ _ hv hu => hv.ownWork hn hr ha hu) (refl e s)

end Aside

variable {s : State} {e : EngineIx}

theorem MachineSound.settled_engine (h : s.MachineSound) (hb : (s.engine e).Busy) :
    s.settled.engine e = s.engine e := by
  obtain ⟨-, hsub, hwait, -⟩ := h.working hb
  obtain ⟨-, hr, ha, -⟩ := hb.phase_ne
  exact (Aside.settled s hsub hr ha).engine_eq hwait

theorem MachineSound.atTick_engine (h : s.MachineSound) (hb : (s.engine e).Busy) (n : Nat) :
    (s.atTick n).engine e = s.engine e := by
  obtain ⟨-, ht⟩ | ⟨-, ht⟩ := s.atTick_cases n <;> rw [ht]
  exact (congrArg (·.get e) (s.settled.passTo_engines n)).trans (h.settled_engine hb)

end State

/-- R108: a timer of a step runs at the engine, or it awaits the report of a pulse. -/
def Engine.Timed (en : Engine) : Prop :=
  en.tripFrom.isSome = true ∨ en.holdFrom.isSome = true ∨ en.settleFrom.isSome = true ∨
    en.latchFrom.isSome = true ∨ en.restartFrom.isSome = true ∨ en.awaitRearm = true

/-- R108: an engine with a timer that runs is busy. -/
theorem State.MachineSound.busy_of_timed {s : State} {e : EngineIx} (h : s.MachineSound)
    (ht : (s.engine e).Timed) : (s.engine e).Busy := by
  have quiet (hp : (s.engine e).phase = .reserve ∨ (s.engine e).phase = .acquire) : ¬(s.engine e).Timed := by
    obtain ⟨-, -, htrip, hhold, hsettle, hlatch, hrestart, hrearm⟩ := (h.placed e).sound.2.2.2.2.2 hp
    simp [Engine.Timed, htrip, hhold, hsettle, hlatch, hrestart, hrearm]
  refine h.busy (fun hp => ?_) (fun hp => quiet (.inl hp) ht) fun hp => quiet (.inr hp) ht
  rw [(h.free hp).1] at ht
  simp [Engine.Timed, Engine.free] at ht

end Sys2Proof.Machine
end

section
/-! SUPPORT. The record store and the model table keep the agreement of the engines and the books of the feed
(R16 to R24, R46). -/

namespace Sys2Proof.Machine

namespace State

variable {s t u : State} {e : EngineIx} {i : SlotIx} {r r' : ShelfRecord}

/-- R188: a service changes nothing, or does its part for a request that it serves. -/
theorem serve_rule {P : State → Prop} {l : Link} {code : ReqCode} {f : Request → State → State} (h0 : P s)
    (h : ∀ q, s.Serving l code q → P (f q s)) : P (s.serve l code f) := by
  unfold State.serve
  split
  · exact h0
  next hh =>
    split
    next q hq =>
      split
      next hc => exact h q ⟨Bool.eq_false_iff.mpr hh, hq, hc⟩
      next => exact h0
    next => exact h0

/-- R24: what the store makes of a record with a mismatch is DOUBTFUL. -/
theorem doubtStore_record (s : State) (i : SlotIx) (r : ShelfRecord) :
    (s.doubtStore i r).record i = some r.doubted.seal := by
  unfold State.record State.slot
  rw [s.doubtStore_store, Tab.get_put, if_pos rfl]

/-- R24: the engine that holds a record whose state is no longer RUNNING runs no other record. -/
theorem unrun_of_holds (hh : t.holds e (t.handleOf i) = true)
    (hi : ∀ r, t.record i = some r → r.state ≠ .running) : t.Unrun e := by
  rintro j ⟨x, hx, hrun⟩ ⟨-, hcopy, -⟩
  have hheld : (t.engine e).copy.map (·.handle) = some (t.handleOf i) := by
    simp only [State.holds, Bool.and_eq_true, decide_eq_true_eq] at hh
    exact hh.2
  have hhandle : t.handleOf j = t.handleOf i := Option.some.inj (hcopy.symm.trans hheld)
  obtain rfl : j = i := congrArg Handle.index hhandle
  exact hi x hx hrun

namespace Keeps

/-! ### The links -/

theorem answer (h : s.Keeps t) (l : Link) (c : Code) (body : List Byte) : s.Keeps (t.answer l c body) := by
  rw [t.answer_frame]
  exact h.same rfl

theorem refuse (h : s.Keeps t) (l : Link) (c : Code) : s.Keeps (t.refuse l c) := h.answer ..

theorem completeLookups (h : s.Keeps t) (i : SlotIx) : s.Keeps (t.completeLookups i) := by
  rw [t.completeLookups_frame]
  exact h.same rfl

theorem serve {l : Link} {code : ReqCode} {f : Request → State → State}
    (h : ∀ q, s.Serving l code q → s.Keeps (f q s)) : s.Keeps (s.serve l code f) :=
  State.serve_rule (P := (s.Keeps ·)) (refl s) h

theorem live {f : State → State} (h : s.Keeps (f s)) : s.Keeps (s.live f) := by
  unfold State.live
  split
  · exact refl s
  · exact h

/-! ### Records and bays -/

/-- A record that stands is written with the engine that it had, and RUNNING only when it was. -/
theorem rewriteRecord (h : s.Keeps t) (hr : t.record i = some r) (hst : r'.state = .running → r.state = .running)
    (heng : r'.engaged = r.engaged) : s.Keeps (t.writeRecord i r') :=
  h.writeRecord i fun hrun => ⟨r, hr, hst hrun, heng.symm⟩

theorem holdQueued (h : s.Keeps t) (i : SlotIx) (r : ShelfRecord) (why : HoldReason) :
    s.Keeps (t.holdQueued i r why) :=
  (h.writeRecord i (r' := { r with state := .held, hold := some why }) nofun).same rfl

theorem setBay (h : s.Keeps t) (b : BayIx) (x : Bay) : s.Keeps (t.setBay b x) := h.same rfl

theorem clearRun (h : s.Keeps t) (b : Option BayIx) : s.Keeps (t.clearRun b) := by
  cases b with
  | none => exact h
  | some b => exact h.setBay ..

theorem clearBound (h : s.Keeps t) (k : Handle) : s.Keeps (t.clearBound k) :=
  foldl (fun _ b hv => hv.clearRun (some b)) _ h

/-! ### Integrity faults and validation (R16 to R24, R46) -/

theorem doubtRecord (h : s.Keeps t) (i : SlotIx) : s.Keeps (t.doubtRecord i) := by
  cases hr : t.record i with
  | none => simpa only [State.doubtRecord, hr] using h
  | some r =>
    cases hd : t.alreadyDoubtful i r with
    | true => rwa [State.doubtRecord_of_known hr hd]
    | false =>
      have hw : s.Keeps (t.writeRecord i r.doubted) := h.writeRecord i nofun
      have hl : s.Keeps ((t.writeRecord i r.doubted).leaveQueue i) := hw.same rfl
      have hs : s.Keeps (t.doubtStore i r) := (hl.clearBound (t.handleOf i)).same rfl
      rw [State.doubtRecord_of_fresh hr hd]
      refine completeLookups ?_ i
      unfold State.stopDoubted
      split
      next e he =>
        refine hs.stopEngine e .doubt fun _ _ => State.unrun_of_holds (i := i) ?_ fun x hx => ?_
        · have hholds := List.find?_some (p := fun e => (t.doubtStore i r).holds e (t.handleOf i)) he
          have hhandle : (t.doubtStore i r).handleOf i = t.handleOf i := by
            unfold State.handleOf State.slot
            rw [State.doubtStore_store, Tab.get_put, if_pos rfl]
            rfl
          rw [hhandle]
          exact hholds
        · obtain rfl := Option.some.inj ((t.doubtStore_record i r).symm.trans hx)
          nofun
      next => exact hs

theorem readRecord (h : s.Keeps t) (i : SlotIx) : s.Keeps (t.readRecord i) := by
  unfold State.readRecord
  split
  · split
    · exact h
    · exact h.doubtRecord i
  · exact h

theorem doubtModel (h : s.Keeps t) (m : ModelIx) : s.Keeps (t.doubtModel m) := by
  have hold (v : State) (i : SlotIx) (hv : s.Keeps v) : s.Keeps (State.holdForModel m v i) := by
    unfold State.holdForModel
    split
    · split
      · exact hv.holdQueued ..
      · exact hv
    · exact hv
  unfold State.doubtModel
  split
  · exact h
  split
  · exact h
  · exact foldl hold _ (h.same rfl)

theorem readModel (h : s.Keeps t) (m : ModelIx) : s.Keeps (t.readModel m) := by
  unfold State.readModel
  split
  · split
    · exact h
    · exact h.doubtModel m
  · exact h

theorem of_validate {h : Handle} {skip : Bool} {tier : Nat} {needed : ShelfRecord → Nat}
    {x : Check (SlotIx × ShelfRecord)} (hv : s.validate h skip tier needed = (u, x)) : s.Keeps u := by
  obtain ⟨c, k⟩ | ⟨c, k⟩ | ⟨r, -, -, k⟩ := s.validate_cases h skip tier needed <;> cases k.symm.trans hv
  · exact refl s
  · exact (refl s).readRecord _
  · exact (refl s).readRecord _

theorem of_validateModel {h : Handle} {skip : Bool} {tier : Nat} {x : Check (ModelIx × Model)}
    (hv : s.validateModel h skip tier = (u, x)) : s.Keeps u := by
  obtain ⟨c, k⟩ | ⟨m, c, k⟩ | ⟨m, y, -, k⟩ := s.validateModel_cases h skip tier <;> cases k.symm.trans hv
  · exact refl s
  · exact (refl s).readModel m
  · exact (refl s).readModel m

theorem of_carriedModel {h : Handle} {x : Check (ModelIx × Model)} (hc : s.carriedModel h = (u, x)) :
    s.Keeps u := by
  unfold State.carriedModel at hc
  split at hc
  · cases hc
    exact refl s
  next m _ =>
    have hm := (refl s).readModel m
    dsimp only at hc
    split at hc
    · split at hc <;> cases hc <;> exact hm
    · cases hc
      exact hm

theorem modelActive (h : s.Keeps t) (r : ShelfRecord) : s.Keeps (t.modelActive r).1 := by
  unfold State.modelActive
  split
  · exact h.readModel _
  · exact h

theorem adjustRef (h : s.Keeps t) (k : Handle) (f : Nat → Nat) : s.Keeps (t.adjustRef k f) := by
  obtain e | ⟨m, x, -, -, e⟩ := t.adjustRef_cases k f <;> rw [e]
  · exact h
  · exact h.same rfl

/-- R69: RELEASE retires the slot and frees the bay. -/
theorem releaseRecord (h : s.Keeps t) (i : SlotIx) (r : ShelfRecord) : s.Keeps (t.releaseRecord i r) := by
  have hlist : s.Keeps (t.unlisted i) := by
    rw [(t.unlisted_spec i).1]
    exact h.same rfl
  exact (hlist.adjustRef r.model fun n => n - 1).setSlot i nofun

/-- R61: a model change makes no record RUNNING. -/
theorem changeModel (h : s.Keeps t) (hr : t.record i = some r) (k : Handle) : s.Keeps (t.changeModel i r k) := by
  have hrun : t.stateAfterModel r = .running → r.state = .running := by
    unfold State.stateAfterModel
    split
    · split
      · nofun
      · split <;> nofun
    · exact id
  unfold State.changeModel
  extract_lets w
  have hw : s.Keeps w := h.rewriteRecord hr hrun rfl
  split
  · exact hw
  · exact (hw.adjustRef ..).adjustRef ..

end Keeps

end State

end Sys2Proof.Machine
end

section
/-! SUPPORT. Every request but SET_BUDGET keeps the agreement of the engines and the books of the feed. -/

namespace Sys2Proof.Machine

open State (Keeps)

variable {s t : State} {l : Link}

/-! ### ADMIT, LOOKUP, PROBE, FIND -/

/-- R51: ADMIT places a STAGED record. -/
theorem State.Keeps.admitRecord (h : s.Keeps t) (i : SlotIx) (b : AdmitBody) (tier : Nat) :
    s.Keeps (t.writeRecord i (b.record tier)) := h.writeRecord i nofun

theorem execAdmit_keeps (h : execAdmit l s = .next t) : s.Keeps t := by
  cases h
  refine .serve fun q _ => ?_
  have hs := Keeps.refl s
  split
  · exact hs.refuse ..
  unfold admitWith
  split
  · exact hs.refuse ..
  split
  next h => exact (Keeps.of_carriedModel h).refuse ..
  next s1 m x h =>
    have h1 := Keeps.of_carriedModel h
    split
    · exact h1.refuse ..
    split
    · exact h1.refuse ..
    split
    · exact h1.refuse ..
    split
    · exact h1.refuse ..
    next i _ =>
      split
      · exact h1.refuse ..
      · exact ((h1.admitRecord i _ _).same (by rfl)).answer ..

theorem execLookup_keeps (h : execLookup l s = .next t) : s.Keeps t := by
  cases h
  refine .serve fun q _ => ?_
  split
  · exact (Keeps.refl s).refuse ..
  split
  next h => exact (Keeps.of_validate h).refuse ..
  next s1 i r h =>
    have hv := Keeps.of_validate h
    split
    next e _ _ =>
      have hw : s.Keeps (s1.waitLookup l q ⟨e, s1.handleOf i⟩) := hv.same (by cases l <;> rfl)
      dsimp only
      unfold State.requestExtract
      split
      · split
        · exact hw.settled.send ..
        · exact hw.settled
      · exact hw.settled
    · exact hv.answer ..

theorem execProbe_keeps (h : execProbe l s = .next t) : s.Keeps t := by
  cases h
  refine .serve fun q _ => ?_
  split
  · exact (Keeps.refl s).refuse ..
  split
  next h => exact (Keeps.of_validate h).answer ..
  next h => exact (Keeps.of_validate h).answer ..

theorem execFind_keeps (h : execFind l s = .next t) : s.Keeps t := by
  cases h
  refine .serve fun q _ => ?_
  split
  · exact (Keeps.refl s).refuse ..
  · split <;> exact (Keeps.refl s).answer ..

/-! ### START, RESUME, ABORT, RELEASE, TAKE -/

theorem execStart_keeps (h : execStart l s = .next t) : s.Keeps t := by
  cases h
  refine .serve fun q _ => ?_
  split
  · exact (Keeps.refl s).refuse ..
  split
  next h => exact (Keeps.of_validate h).refuse ..
  next s1 i r h =>
    have hv := Keeps.of_validate h
    have ha := hv.modelActive r
    split
    · exact hv.refuse ..
    split
    · exact hv.refuse ..
    extract_lets a
    split
    · exact ha.refuse ..
    split
    · exact ha.refuse ..
    · exact ((ha.writeRecord i (r' := { r with state := .queued, cursor := 0, results := [], retry := 0 })
        nofun).same (by rfl)).answer ..

theorem execResume_keeps (h : execResume l s = .next t) : s.Keeps t := by
  cases h
  refine .serve fun q _ => ?_
  split
  · exact (Keeps.refl s).refuse ..
  split
  next h => exact (Keeps.of_validate h).refuse ..
  next s1 i r h =>
    have hv := Keeps.of_validate h
    have ha := hv.modelActive r
    split
    · exact hv.refuse ..
    split
    · exact hv.refuse ..
    extract_lets a
    split
    · exact ha.refuse ..
    split
    · exact ha.refuse ..
    · exact ((ha.writeRecord i (r' := { r with
        state := .queued, hold := none, retry := 0, cursor := a.1.queuedCursor r }) nofun).same
          (by rfl)).answer ..

theorem execAbort_keeps (h : execAbort l s = .next t) : s.Keeps t := by
  cases h
  refine .serve fun q _ => ?_
  split
  · exact (Keeps.refl s).refuse ..
  split
  next h => exact (Keeps.of_validate h).refuse ..
  next s1 i r h =>
    have hv := Keeps.of_validate h
    split
    · exact (hv.holdQueued ..).answer ..
    · exact (hv.stopHolder i r (by nofun)).answer ..
    · exact hv.refuse ..

theorem execRelease_keeps (h : execRelease l s = .next t) : s.Keeps t := by
  cases h
  refine .serve fun q _ => ?_
  split
  · exact (Keeps.refl s).refuse ..
  split
  next h => exact (Keeps.of_validate h).refuse ..
  next s1 i r h =>
    have hv := Keeps.of_validate h
    split
    · exact hv.refuse ..
    · exact (hv.releaseRecord i r).answer ..

theorem execTake_keeps (h : execTake l s = .next t) : s.Keeps t := by
  cases h
  refine .serve fun q _ => ?_
  split
  · exact (Keeps.refl s).refuse ..
  split
  · exact (Keeps.refl s).answer ..
  next xs _ =>
    have hx : s.Keeps { s with store := { s.store with attention := xs } } := (Keeps.refl s).same rfl
    exact hx.answer ..

/-! ### AMEND -/

theorem State.serveAmend_keeps {item : AmendItem}
    {f : Request → AmendValue → State → SlotIx → ShelfRecord → State}
    (hf : ∀ q v u i r, State.record u i = some r → u.Keeps (f q v u i r)) :
    s.Keeps (s.serveAmend l item f) := by
  refine .serve fun q _ => ?_
  split
  · exact .refl s
  split
  · exact (Keeps.refl s).refuse ..
  split
  next h => exact (Keeps.of_validate h).refuse ..
  next h => exact (Keeps.of_validate h).trans (hf _ _ _ _ _ (State.validate_pass h).1)

/-- An AMEND of a field that is neither the state nor the engine. -/
theorem State.Keeps.amendRecord {i : SlotIx} {r r' : ShelfRecord} (hr : s.record i = some r)
    (hst : r'.state = r.state) (heng : r'.engaged = r.engaged) {a : AmendItem} {value : List Byte} :
    s.Keeps ((s.writeRecord i r').amended l a value) :=
  ((Keeps.refl s).rewriteRecord hr (fun h => hst.symm.trans h) heng).answer ..

theorem execAmendPriority_keeps (h : execAmendPriority l s = .next t) : s.Keeps t := by
  cases h
  refine State.serveAmend_keeps fun q v u i r hr => ?_
  have hu := Keeps.refl u
  split
  next p =>
    split
    · exact hu.refuse ..
    · have hw : u.Keeps (u.writeRecord i { r with priority := p }) := hu.rewriteRecord hr id rfl
      refine Keeps.answer (Keeps.passToHolder ?_ ..) ..
      unfold State.requeue
      split
      · exact hw.same rfl
      · exact hw
  · exact hu

theorem execAmendGuardLevel_keeps (h : execAmendGuardLevel l s = .next t) : s.Keeps t := by
  cases h
  refine State.serveAmend_keeps fun q v u i r hr => ?_
  split
  · split
    · exact (Keeps.refl u).refuse ..
    · exact .amendRecord hr (by rfl) (by rfl)
  · exact .refl u

theorem execAmendNote_keeps (h : execAmendNote l s = .next t) : s.Keeps t := by
  cases h
  refine State.serveAmend_keeps fun q v u i r hr => ?_
  split
  · exact .amendRecord hr (by rfl) (by rfl)
  · exact .refl u

theorem execAmendModelHandle_keeps (h : execAmendModelHandle l s = .next t) : s.Keeps t := by
  cases h
  refine State.serveAmend_keeps fun q v u i r hr => ?_
  have hu := Keeps.refl u
  split
  · split
    · exact hu.refuse ..
    split
    next h => exact (Keeps.of_carriedModel h).refuse ..
    next h =>
      obtain ⟨rfl, -⟩ := State.carriedModel_pass h
      split
      · exact hu.refuse ..
      · exact (hu.changeModel hr _).answer ..
  · exact hu

theorem execAddModule_keeps (h : execAddModule l s = .next t) : s.Keeps t := by
  cases h
  refine State.serveAmend_keeps fun q v u i r hr => ?_
  have hu := Keeps.refl u
  split
  · split
    · exact hu.refuse ..
    split
    · exact hu.refuse ..
    split
    · exact hu.refuse ..
    split
    · exact hu.refuse ..
    · exact .amendRecord hr (by rfl) (by rfl)
  · exact hu

theorem execDropModule_keeps (h : execDropModule l s = .next t) : s.Keeps t := by
  cases h
  refine State.serveAmend_keeps fun q v u i r hr => ?_
  have hu := Keeps.refl u
  split
  · split
    · exact hu.refuse ..
    split
    · exact hu.refuse ..
    split
    · exact hu.refuse ..
    split
    · exact hu.refuse ..
    · exact .amendRecord hr (by rfl) (by rfl)
  · exact hu

theorem execAmendPresentFlag_keeps (h : execAmendPresentFlag l s = .next t) : s.Keeps t := by
  cases h
  refine State.serveAmend_keeps fun q v u i r hr => ?_
  have hu := Keeps.refl u
  split
  · split
    · exact hu.refuse ..
    split
    · exact hu.refuse ..
    split
    · exact hu.refuse ..
    · exact .amendRecord hr (by rfl) (by rfl)
  · exact hu

/-! ### BIND and UNBIND -/

theorem execBind_keeps (h : execBind l s = .next t) : s.Keeps t := by
  cases h
  refine .serve fun q _ => ?_
  split
  · exact (Keeps.refl s).refuse ..
  split
  · exact .refl s
  split
  next h => exact (Keeps.of_validate h).refuse ..
  next s1 i r h =>
    have hv := Keeps.of_validate h
    split
    · exact hv.refuse ..
    next b _ =>
      split
      · exact hv.refuse ..
      split
      · exact hv.refuse ..
      · refine (Keeps.setBay (hv.writeRecord i fun hrun => ?_) ..).answer ..
        dsimp only at hrun
        split at hrun <;> cases hrun

/-- R81: an unbind makes no record RUNNING. -/
theorem unboundState_ne_running {x : RecState} (h : x ≠ .running) : unboundState x ≠ .running := by
  unfold unboundState
  split
  · nofun
  · exact h

theorem execUnbind_keeps (h : execUnbind l s = .next t) : s.Keeps t := by
  cases h
  refine .serve fun q _ => ?_
  have hs := Keeps.refl s
  split
  · exact hs.refuse ..
  split
  · exact hs
  split
  · exact hs.refuse ..
  next b _ =>
    split
    · exact hs.refuse ..
    next i _ =>
      have hread := hs.readRecord i
      dsimp only
      split
      · exact hread.refuse ..
      next r _ =>
        split
        · exact hread.refuse ..
        split
        · exact hread.refuse ..
        split
        · exact hread.refuse ..
        next hst => exact (Keeps.same (hread.writeRecord i (r' := { r with bay := none, state := unboundState r.state })
            fun hrun => absurd hrun (unboundState_ne_running fun hr => hst (.inr hr))) (by rfl)).answer ..

/-! ### Model requests -/

theorem State.serveModel_keeps {α : Type} {code : ReqCode} {read : List Byte → Option α}
    {handle : α → Handle} {skip : Bool} {f : α → State → ModelIx → Model → State}
    (hf : ∀ a u m x, State.Keeps u (f a u m x)) :
    s.Keeps (s.serveModel l code read handle skip f) := by
  refine .serve fun q _ => ?_
  split
  · exact (Keeps.refl s).refuse ..
  split
  next h => exact (Keeps.of_validateModel h).refuse ..
  next h => exact (Keeps.of_validateModel h).trans (hf _ _ _ _)

/-- A write of a descriptor, with the answer that follows. -/
theorem State.Keeps.describe (s : State) (m : ModelIx) (x : ModelSlot) (l : Link) (c : Code)
    (body : List Byte) : s.Keeps ((s.setModelSlot m x).answer l c body) :=
  Keeps.answer (t := s.setModelSlot m x) ((Keeps.refl s).same rfl) ..

theorem execCreateModel_keeps (h : execCreateModel l s = .next t) : s.Keeps t := by
  cases h
  refine .serve fun q _ => ?_
  have hs := Keeps.refl s
  split
  · exact hs.refuse ..
  split
  · exact hs.refuse ..
  split
  · exact hs.refuse ..
  split
  · exact hs.refuse ..
  split
  · exact hs.refuse ..
  · exact .describe ..

theorem execEditModel_keeps (h : execEditModel l s = .next t) : s.Keeps t := by
  cases h
  refine State.serveModel_keeps fun a u m x => ?_
  have hu := Keeps.refl u
  split
  · exact hu.answer ..
  split
  · exact hu.answer ..
  split
  · exact hu.answer ..
  · exact .describe ..

theorem execActivate_keeps (h : execActivate l s = .next t) : s.Keeps t := by
  cases h
  refine State.serveModel_keeps fun a u m x => ?_
  have hu := Keeps.refl u
  split
  · exact hu.answer ..
  split
  · exact hu.answer ..
  · exact .describe ..

theorem execRevise_keeps (h : execRevise l s = .next t) : s.Keeps t := by
  cases h
  refine State.serveModel_keeps fun a u m x => ?_
  have hu := Keeps.refl u
  split
  · exact hu.answer ..
  split
  · exact hu.answer ..
  split
  · exact hu.answer ..
  split
  · exact hu.answer ..
  · exact .describe ..

theorem execDiscard_keeps (h : execDiscard l s = .next t) : s.Keeps t := by
  cases h
  refine State.serveModel_keeps fun a u m x => ?_
  split
  · exact (Keeps.refl u).answer ..
  · exact .describe ..

/-! ### Station requests -/

theorem execSetFeedWindow_keeps (h : execSetFeedWindow l s = .next t) : s.Keeps t := by
  cases h
  refine .serve fun q _ => ?_
  have hs := Keeps.refl s
  split
  · exact hs.refuse ..
  next lo hi _ =>
    split
    · exact hs.refuse ..
    · have hset : s.Keeps (s.setFeed (s.feed.setWindow lo hi)) := hs.same rfl
      exact hset.answer ..

theorem State.serveStation_keeps {code : ReqCode} {f : State → State} (hf : s.Keeps (f s)) :
    s.Keeps (s.serveStation l code f) := by
  refine .serve fun q _ => ?_
  split
  · exact (Keeps.refl s).refuse ..
  split
  · exact (Keeps.refl s).refuse ..
  · exact hf

theorem execBankStatus_keeps (h : execBankStatus l s = .next t) : s.Keeps t := by
  cases h
  exact State.serveStation_keeps ((Keeps.refl s).settled.answer ..)

theorem execStationStatus_keeps (h : execStationStatus l s = .next t) : s.Keeps t := by
  cases h
  exact State.serveStation_keeps ((Keeps.refl s).settled.answer ..)

end Sys2Proof.Machine
end

section
/-! SUPPORT. The soft reset, the other resets and SET_BUDGET keep the agreement of the engines and the sums and
orders of the books of the feed (R29, R173, R186, R194). -/

namespace Sys2Proof.Machine

open State (Sane Keeps)

variable {s t : State} {l : Link}

/-! ### Resets (R29, R172, R186, R194) -/

/-- A machine with no engine in use and with nothing that waits, RUNNING or CONNECTED is in agreement. -/
theorem State.Sane.blank (hengine : ∀ e, t.engine e = Engine.free) (hfeed : t.feed.waits = [])
    (hbank : t.arb.waits = []) (hserv : t.arb.service = none)
    (hrec : ∀ i r, t.record i = some r → r.state ≠ .running) (hres : t.feed.reservations = [])
    (htotal : t.feed.total = 0) (hroster : ∀ b, b.val < t.straps.banks → (t.bank b).state ≠ .connected) :
    s.Sane t where
  sum _ := by simp [State.TotalIsTheSum, hres, htotal]
  ordered _ := by simp [State.WaitListsOrdered, hfeed, hbank]
  sound _ := by
    refine ⟨fun e => ?_, by simp [hbank]⟩
    rw [hengine]
    exact Engine.placed_free.mpr (by simp [State.Submits, State.AwaitsBanks, State.Serves, hfeed, hbank, hserv])
  borne _ i _ r hr hrun := absurd hrun (hrec i r hr)
  held _ _ _ _ b _ hlt hcon := absurd hcon (hroster b hlt)

/-- R172: a bank that is CONNECTED after the arbiter's own RELEASEs is none of those released. -/
theorem State.foldl_askOwnRelease_connected {v : List BankIx} {b : BankIx}
    (h : ((v.foldl State.askOwnRelease s).bank b).state = .connected) :
    (s.bank b).state = .connected ∧ b ∉ v := by
  induction v generalizing s with
  | nil => exact ⟨h, List.not_mem_nil⟩
  | cons c v ih =>
    obtain ⟨hc, hv⟩ := ih h
    have hc : ((s.modBank c fun k => { k with state := .releasing, engine := none }).bank b).state =
      .connected := hc
    rw [State.bank_modBank] at hc
    split at hc
    · cases hc
    next hbc => exact ⟨hc, by simp [hbc, hv]⟩

/-- R172: the arbiter's part of a soft reset leaves no request, and no bank in service CONNECTED. -/
theorem State.softArbiter_blank (u : State) : u.softArbiter.arb.waits = [] ∧ u.softArbiter.arb.service = none ∧
    ∀ b, b.val < u.softArbiter.straps.banks → (u.softArbiter.bank b).state ≠ .connected := by
  unfold State.softArbiter
  refine ⟨?_, ?_, fun b hlt hcon => ?_⟩
  · rw [foldl_keeps (fun v : State => v.arb.waits) State.askOwnRelease fun _ _ => rfl]
    rfl
  · rw [foldl_keeps (fun v : State => v.arb.service) State.askOwnRelease fun _ _ => rfl]
    rfl
  · rw [foldl_keeps State.straps State.askOwnRelease fun _ _ => rfl] at hlt
    obtain ⟨hcon, hout⟩ := State.foldl_askOwnRelease_connected hcon
    have hcon : (u.bank b).state = .connected := hcon
    refine hout (List.mem_filter.mpr ⟨List.mem_filter.mpr ⟨List.mem_finRange b, ?_⟩, ?_⟩)
    · exact decide_eq_true hlt
    · simp [hcon]

theorem State.Keeps.softReset (h : s.Keeps t) : s.Keeps t.softReset := by
  obtain ⟨hfeed, hengine⟩ := t.softReset_feed_engine
  have hslot (i : SlotIx) : t.softReset.slot i = (t.slot i).softHeld := by
    have hheld := t.slot_softHeld i
    unfold State.softHeld at hheld
    unfold State.softReset State.softArbiter State.slot
    rw [foldl_keeps State.store State.askOwnRelease fun _ _ => rfl]
    exact hheld
  obtain ⟨u, hu⟩ : ∃ u, t.softReset = State.softArbiter u := ⟨_, rfl⟩
  obtain ⟨hwaits, hserv, hroster⟩ := u.softArbiter_blank
  rw [← hu] at hwaits hserv hroster
  refine h.trans { Sane.blank hengine ?_ hwaits hserv (fun i r hr hrun => ?_) ?_ ?_ hroster with
    budget := ?_, guard := ?_, total := ?_ }
  · rw [hfeed]; rfl
  · have hr : (t.slot i).softHeld.record = some r := (congrArg ShelfSlot.record (hslot i)).symm.trans hr
    unfold ShelfSlot.softHeld at hr
    split at hr
    next x hx =>
      split at hr
      · cases hr
        cases hrun
      next hno =>
        obtain rfl := Option.some.inj (hx.symm.trans hr)
        exact hno (.inr hrun)
    next hx => cases hx.symm.trans hr
  all_goals rw [hfeed]
  · rfl
  · rfl
  · rfl
  · rfl
  · exact Nat.zero_le _

theorem execReset_keeps (h : execReset l s = .next t) : s.Keeps t := by
  cases h
  refine State.serveStation_keeps (Keeps.softReset ?_)
  have hs := (Keeps.refl s).answer l .ok []
  unfold State.completeWaiting
  split
  · split
    · exact hs.answer ..
    · exact hs
  · exact hs

/-- R28, R125, R171, R186: what every reset but the soft one leaves. -/
theorem State.Sane.released {now : Nat} {pins : StrapPins} {seats indicators : BitVec 24}
    (hk : t.gear = { (State.atRelease now pins seats indicators).gear with banks := t.straps.banks }) :
    s.Sane t ∧ t.feed.total = 0 := by
  obtain ⟨hslots, hengines, -, -, -, htotal, hres, hsub, hreq, hserv, hroster, -⟩ := Gear.mk.injEq .. ▸ hk
  refine ⟨Sane.blank (fun e => ?_) hsub hreq hserv (fun i r hr => ?_) hres htotal fun b _ => ?_, htotal⟩
  · exact (congrArg (·.get e) hengines).trans (Tab.get_fill ..)
  · have hslot : t.slot i = ⟨1, none⟩ := (congrArg (·.get i) hslots).trans (Tab.get_fill ..)
    rw [State.record, hslot] at hr
    cases hr
  · have hbank : t.bank b = Bank.atRelease := (congrArg (·.get b) hroster).trans (Tab.get_fill ..)
    rw [hbank]
    nofun

theorem execPowerOnReset_sane (h : execPowerOnReset s = .next t) : s.Sane t ∧ t.feed.total = 0 := by
  cases h
  exact Sane.released (now := s.now) (pins := Config.resetPins) (seats := 0#24) (indicators := 0#24) rfl

theorem execResetRelease_sane {pins : StrapPins} {seats indicators : BitVec 24}
    (h : execResetRelease pins seats indicators s = .next t) : s.Sane t ∧ t.feed.total = 0 := by
  cases h
  exact Sane.released (now := s.now) (pins := pins) (seats := seats) (indicators := indicators) rfl

/-! ### SET_BUDGET (R173, R176) -/

/-- R173: the settings of the budget stand apart from the lists, the total and the engines. -/
theorem State.Sane.setBudget (s : State) (b g : Nat) : s.Sane (s.setFeed (s.feed.setBudget b g)) where
  sum := id
  ordered := id
  sound h := ⟨h.placed, h.once⟩
  borne _ _ := id
  held _ _ _ := id

/-- R176: SET_BUDGET holds the submissions before it to the old budget, and those that it tests to the new one. -/
theorem execSetBudget_sane (h : execSetBudget l s = .next t) : s.Keeps t ∨ (∃ q, s.Serving l .setBudget q) ∧
    s.Sane t ∧ t.feed.total ≤ max s.feed.total (max (s.feed.budget - s.feed.guard) (t.feed.budget - t.feed.guard)) := by
  cases h
  refine State.serve_rule (P := fun t => s.Keeps t ∨ (∃ q, s.Serving l .setBudget q) ∧ s.Sane t ∧ t.feed.total ≤
    max s.feed.total (max (s.feed.budget - s.feed.guard) (t.feed.budget - t.feed.guard)))
    (.inl (Keeps.refl s)) fun q hq => ?_
  split
  · exact .inl ((Keeps.refl s).refuse ..)
  next b g _ =>
    split
    · exact .inl ((Keeps.refl s).refuse ..)
    · have hold := (Keeps.refl s).settled
      have hset := Sane.setBudget s.settled b g
      have hnew : (s.settled.setFeed (s.settled.feed.setBudget b g)).Keeps
          ((s.settled.storeBudget b g).answer l .ok (be16 b ++ be16 (min g b))) := (Keeps.refl _).feedTest.answer ..
      refine .inr ⟨⟨q, hq⟩, (hold.toSane.trans hset).trans hnew.toSane, ?_⟩
      have hbefore := hold.total
      have hafter := hnew.total
      rw [← hnew.budget, ← hnew.guard] at hafter
      exact hafter.trans (by
        have htotal : (s.settled.setFeed (s.settled.feed.setBudget b g)).feed.total = s.settled.feed.total := rfl
        rw [htotal]
        omega)

end Sys2Proof.Machine
end

section
/-! SUPPORT. Scrubs, bay lines, frames and timers keep the agreement of the engines and the books of the feed. -/

namespace Sys2Proof.Machine

open State (Keeps)

variable {s t : State} {e : EngineIx} {f : List Byte}

/-- R116: an engine that differs from a FREE one is in use. -/
theorem State.MachineSound.in_use (h : s.MachineSound) (hf : s.engine e ≠ Engine.free) :
    (s.engine e).phase ≠ .free := fun hp => hf (h.free hp).1

/-! ### Scrubs (R27, R45) -/

theorem execShelfScrub_keeps (h : execShelfScrub s = .next t) : s.Keeps t := by
  cases h
  refine .live ?_
  extract_lets s0 s1
  have h0 : s.Keeps s0 := (Keeps.refl s).atTick _
  have h1 : s.Keeps s1 := h0.readRecord _
  exact h1.same rfl

theorem execModelScrub_keeps (h : execModelScrub s = .next t) : s.Keeps t := by
  cases h
  refine .live ?_
  extract_lets s0 s1
  have h0 : s.Keeps s0 := (Keeps.refl s).atTick _
  have h1 : s.Keeps s1 := h0.readModel _
  exact h1.same rfl

/-! ### Bay lines (R74 to R78) -/

theorem State.Keeps.seatEvent (h : s.Keeps t) (b : BayIx) (up : Bool) : s.Keeps (t.seatEvent b up) := by
  unfold State.seatEvent
  split
  · exact h
  next i _ =>
    split
    · exact h
    next r _ =>
      split
      · exact h.writeRecord i (r' := { r with state := .ready }) nofun
      · exact h.writeRecord i (r' := { r with state := .bound }) nofun
      · exact h.holdQueued ..
      · exact (h.setBay b _).stopHolder i r nofun
      · exact h

theorem execSeatInputChange_keeps {b : BayIx} {up : Bool} (h : execSeatInputChange b up s = .next t) :
    s.Keeps t := by
  cases h
  refine .live ?_
  split
  · exact .refl s
  · exact (Keeps.refl s).setBay ..

theorem execDebounceExpiry_keeps {b : BayIx} (h : execDebounceExpiry b s = .next t) : s.Keeps t := by
  cases h
  refine .live ?_
  split
  · exact .refl s
  next n _ =>
    have ht := (Keeps.refl s).atTick (n + Config.debounceMs)
    dsimp only
    split
    · exact ht.setBay ..
    · exact (ht.setBay ..).seatEvent ..

theorem execTripIndicatorChange_keeps {b : BayIx} {a : Bool}
    (h : execTripIndicatorChange b a s = .next t) : s.Keeps t := by
  cases h
  refine .live ?_
  split
  · exact .refl s
  have hb := (Keeps.refl s).setBay b { s.bay b with indicator := a }
  dsimp only
  split
  · split
    · exact (hb.detect ..).feedRetest _
    · exact hb
  · exact hb

theorem execRearmPulseEnd_keeps {b : BayIx} (h : execRearmPulseEnd b s = .next t) : s.Keeps t := by
  cases h
  refine .live ?_
  split
  · exact .refl s
  next n e _ =>
    have hb := ((Keeps.refl s).atTick (n + Config.rearmMs)).setBay b
      { (s.atTick (n + Config.rearmMs)).bay b with rearm := none }
    dsimp only
    generalize (s.atTick (n + Config.rearmMs)).setBay b _ = u at hb
    unfold State.rearmReport
    dsimp only
    split
    next hw =>
      have hbusy (hs : s.MachineSound) : (u.engine e).Busy := (hb.sound hs).busy_of_timed (by simp [Engine.Timed, hw.1])
      exact hb.work e (g := fun en => { en with awaitRearm := false, restartFrom := some u.now }) hbusy hbusy
        (fun _ hw => ⟨hw.busy, hw.copy, hw.unload, hw.verdict, hw.unasked⟩) rfl rfl rfl
    next => exact hb

/-! ### A forwarded sample (R98) -/

theorem State.Keeps.collapseSample (h : s.Keeps t) (e : EngineIx) (v : Nat) (x : Sample) :
    s.Keeps (t.collapseSample e v x) := by
  unfold State.collapseSample
  split
  · exact h.detect ..
  · exact h

theorem State.Keeps.restartSample (h : s.Keeps t) (e : EngineIx) (r : RestartParams) (x : Sample)
    (hf : s.MachineSound → (t.engine e).phase ≠ .free) : s.Keeps (t.restartSample e r x) := by
  unfold State.restartSample
  dsimp only
  split
  · exact h.modEngine e (g := fun en => { en with lowSeen := true }) fun hs _ => Engine.follows_of_gist (hf hs) rfl
  split
  · split
    next hfrom =>
      split
      · exact h.reachVerdict e (fun hs => (h.sound hs).busy_of_timed (by simp [Engine.Timed, hfrom])) nofun
      · exact h
    next hfrom =>
      split
      · split
        · exact h.reachVerdict e (fun hs => (h.sound hs).busy_of_timed (by simp [Engine.Timed, hfrom])) nofun
        · exact h
      · exact h
    · exact h
  · exact h

/-- R153: the verdict of a derate evaluation is not DOUBT. -/
theorem derateVerdict_ne_doubt (a b c : Nat) : (derateVerdict a b c).outcome ≠ .doubt := by
  unfold derateVerdict
  split
  · nofun
  · split <;> nofun

theorem State.Keeps.derateSample (h : s.Keeps t) (e : EngineIx) (p : DerateParams) (x : Sample)
    (hp : (t.engine e).phase = .watch) : s.Keeps (t.derateSample e p x) := by
  unfold State.derateSample
  split
  · exact h.takeStop e _ nofun
  split
  · exact h.detect ..
  unfold State.countSample
  split
  · exact h
  next k _ =>
    split
    · exact h.takeStop e _ nofun
    have hcount : s.Keeps (t.modEngine e fun en => { en with collection := some (k.count1 x) }) :=
      h.modEngine e fun _ _ => Engine.follows_of_gist (by rw [hp]; decide) rfl
    have hphase : ((t.modEngine e fun en => { en with collection := some (k.count1 x) }).engine e).phase = .watch :=
      (congrArg Engine.phase ((State.engine_modEngine ..).trans (if_pos rfl))).trans hp
    dsimp only
    split
    · exact hcount.reachVerdict e (fun _ => .inr (.inl hphase)) (derateVerdict_ne_doubt _ _ _)
    · exact hcount

theorem State.Keeps.forward (h : s.Keeps t) (e : EngineIx) (x : Sample) : s.Keeps (t.forward e x) := by
  unfold State.forward
  split
  · exact h
  next c hc =>
    split
    · refine h.restartSample e _ x fun hs => (h.sound hs).in_use fun hfree => ?_
      rw [hfree] at hc
      cases hc
    · split
      next hp => exact h.derateSample e _ x hp
      next => exact h.collapseSample ..
    · exact h.collapseSample ..

theorem execBayFrame_keeps (h : execBayFrame f s = .next t) : s.Keeps t := by
  cases h
  refine .live ?_
  split
  · exact .refl s
  next b x _ =>
    have hb : s.Keeps (s.storeBay b x) := (Keeps.refl s).same rfl
    dsimp only
    split
    · exact (hb.forward ..).feedRetest _
    · exact hb

theorem execBayStale_keeps {b : BayIx} (h : execBayStale b s = .next t) : s.Keeps t := by
  cases h
  refine .live ?_
  split
  · exact .refl s
  have ht := (Keeps.refl s).atTick ((s.sense b).arrival + Config.bayStaleMs + 1)
  dsimp only
  split
  · exact Keeps.stopEngine (ht.same (by rfl)) _ _ nofun
  · exact ht.same rfl

/-! ### The feed supervisor (R179 to R183) -/

theorem State.Keeps.overDraw (h : s.Keeps t) (d : Nat) : s.Keeps (t.overDraw d) := by
  unfold State.overDraw
  split
  · exact h.same rfl
  split
  · split
    · exact h.same rfl
    · unfold State.shed
      split
      · exact h.same rfl
      next r _ => exact Keeps.stopEngine ((h.markSent r.engine).same (by rfl)) _ _ nofun
  · exact h.same rfl

theorem State.Keeps.feedFault (h : s.Keeps t) : s.Keeps t.feedFault := by
  refine .foldl (fun v e hv => ?_) _ (h.same rfl)
  unfold sendFeedLost
  split
  · exact (hv.markSent e).takeStop e _ nofun
  · exact hv

theorem State.Keeps.judgeWindow (h : s.Keeps t) (v : Nat) : s.Keeps (t.judgeWindow v) := by
  unfold State.judgeWindow
  split
  · split
    · exact h.same rfl
    split
    · exact h.same rfl
    · exact h.feedFault
  · split
    · exact h.same rfl
    · exact h
  · split
    · exact h.same rfl
    · exact h.feedFault

theorem execFeedFrame_keeps (h : execFeedFrame f s = .next t) : s.Keeps t := by
  cases h
  refine .live ?_
  split
  · exact .refl s
  next x _ =>
    have hx : s.Keeps (s.storeFeed x) := (Keeps.refl s).same rfl
    exact (hx.overDraw _).judgeWindow _

theorem execFeedStale_keeps (h : execFeedStale s = .next t) : s.Keeps t := by
  cases h
  refine .live ?_
  split
  · exact .refl s
  have ht := (Keeps.refl s).atTick (s.feedSense.arrival + Config.feedStaleMs + 1)
  unfold State.feedStaleEvent
  dsimp only
  split
  · exact ht.same rfl
  · exact Keeps.feedFault (ht.same rfl)

theorem execRecoveryExpiry_keeps (h : execRecoveryExpiry s = .next t) : s.Keeps t := by
  cases h
  refine .live ?_
  split
  · exact .refl s
  · exact Keeps.feedTest (((Keeps.refl s).atTick _).same rfl)

theorem execAttentionPulseEnd_keeps (h : execAttentionPulseEnd s = .next t) : s.Keeps t := by
  cases h
  refine .live ?_
  split
  · exact .refl s
  next n _ => exact ((Keeps.refl s).atTick (n + Config.pulseMs)).same rfl

/-! ### The timers of a step (R131, R136 to R138, R150) -/

/-- R113, R177: a step whose timer ends. -/
theorem State.Keeps.conclude (s : State) (e : EngineIx) (n : Nat) {v : Verdict} (ht : (s.engine e).Timed)
    (hv : v.outcome ≠ .doubt) : s.Keeps ((s.atTick n).concludeStep e v) := by
  refine (((Keeps.refl s).atTick n).reachVerdict e (fun hs => ?_) hv).feedRetest _
  have hb := hs.busy_of_timed ht
  rwa [hs.atTick_engine hb]

theorem execHoldDurationExpiry_keeps (h : execHoldDurationExpiry e s = .next t) : s.Keeps t := by
  cases h
  refine .live ?_
  split
  next hfrom _ =>
    split
    · exact .conclude s e _ (by simp [Engine.Timed, hfrom]) nofun
    · exact .refl s
  · exact .refl s

theorem execTripWindowClose_keeps (h : execTripWindowClose e s = .next t) : s.Keeps t := by
  cases h
  refine .live ?_
  split
  next hfrom _ =>
    split
    · exact .conclude s e _ (by simp [Engine.Timed, hfrom]) nofun
    · exact .refl s
  · exact .refl s

theorem execRestartWindowClose_keeps (h : execRestartWindowClose e s = .next t) : s.Keeps t := by
  cases h
  refine .live ?_
  split
  next hfrom _ =>
    split
    · exact .conclude s e _ (by simp [Engine.Timed, hfrom]) nofun
    · exact .refl s
  · exact .refl s

/-- A timer that ends, and the engine goes on. -/
theorem State.Keeps.timerEnds (s : State) (e : EngineIx) (n : Nat) {g : Engine → Engine}
    (ht : (s.engine e).Timed) (hp : ∀ en, (g en).phase = en.phase) (hw : ∀ en, en.Working → (g en).Working)
    (hcopy : ∀ en, (g en).copy = en.copy) (hstop : ∀ en, (g en).stop = en.stop)
    (hgrant : ∀ en, (g en).grant = en.grant) : s.Keeps ((s.atTick n).modEngine e g) := by
  have hbusy (hs : s.MachineSound) : ((s.atTick n).engine e).Busy := by
    have hb := hs.busy_of_timed ht
    rwa [hs.atTick_engine hb]
  refine ((Keeps.refl s).atTick n).work e hbusy (fun hs => ?_) (fun _ => hw _) (by rw [hcopy]) (hstop _)
    (by rw [hgrant])
  unfold Engine.Busy
  rw [hp]
  exact hbusy hs

theorem execSettleExpiry_keeps (h : execSettleExpiry e s = .next t) : s.Keeps t := by
  cases h
  refine .live ?_
  split
  next hfrom _ =>
    split
    · exact .timerEnds s e _ (by simp [Engine.Timed, hfrom]) (fun _ => rfl)
        (fun _ hw => ⟨hw.busy, hw.copy, hw.unload, hw.verdict, hw.unasked⟩) (fun _ => rfl) (fun _ => rfl) fun _ => rfl
    · exact .refl s
  · exact .refl s

theorem State.Keeps.askRearm (h : s.Keeps t) (e : EngineIx) (b : BayIx) : s.Keeps (t.askRearm e b) := by
  unfold State.askRearm
  split
  · exact h.setBay ..
  · exact h

theorem execLatchObserveExpiry_keeps (h : execLatchObserveExpiry e s = .next t) : s.Keeps t := by
  cases h
  refine .live ?_
  split
  next hfrom _ =>
    split
    · split
      · refine Keeps.askRearm ?_ ..
        exact .timerEnds s e _ (g := fun en => { en with latchFrom := none, awaitRearm := true })
          (by simp [Engine.Timed, hfrom]) (fun _ => rfl)
          (fun _ hw => ⟨hw.busy, hw.copy, hw.unload, hw.verdict, hw.unasked⟩) (fun _ => rfl) (fun _ => rfl)
          fun _ => rfl
      · exact .refl s
    · exact .refl s
  · exact .refl s

end Sys2Proof.Machine
end

section
/-! SUPPORT. The take of a record, the evaluation and the messages of the engines keep the agreement of the engines and
the books of the feed (R105, R106, R110, R114, R122, R142). -/

namespace Sys2Proof.Machine

open State (Keeps)

variable {s t : State} {e : EngineIx} {i : SlotIx} {r : ShelfRecord} {c : WorkingCopy}

/-! ### The take (R105, R106, R110) -/

/-- R106: a record goes RUNNING for an engine that bears it. -/
theorem State.Keeps.runRecord (h : s.Keeps t) (i : SlotIx) {r : ShelfRecord} (hr : r.engaged = some e)
    (hb : s.MachineSound → t.Bears e (t.handleOf i)) : s.Keeps (t.writeRecord i r) where
  sum := h.sum
  ordered := h.ordered
  sound hs := ⟨(h.sound hs).placed, (h.sound hs).once⟩
  borne hs j hj r' hr' hrun := by
    have hhandle : (t.writeRecord i r).handleOf j = t.handleOf j := State.writeRecord_handleOf ..
    have hslot := State.slot_writeRecord t i j r
    by_cases hji : j = i
    · subst hji
      rw [if_pos rfl] at hslot
      obtain rfl := Option.some.inj ((congrArg ShelfSlot.record hslot).symm.trans hr')
      refine ⟨e, hr, ?_⟩
      rw [hhandle]
      exact hb hs
    · rw [if_neg hji] at hslot
      obtain ⟨f, hf, hbears⟩ := h.borne hs j hj r' ((congrArg ShelfSlot.record hslot).symm.trans hr') hrun
      refine ⟨f, hf, ?_⟩
      rw [hhandle]
      exact hbears
  held := h.held
  budget := h.budget
  guard := h.guard
  total := h.total

/-- R106: a FREE engine takes the copy of a record, and the record goes RUNNING. -/
theorem State.Keeps.takeRecord (h : s.Keeps t) (hf : (t.engine e).phase = .free) (r : ShelfRecord)
    (hc : c.handle = t.handleOf i) : s.Keeps (t.takeRecord e i r c) := by
  let x : Engine := { Engine.free with phase := .reserve, copy := some c, takeTick := t.now }
  have htake : s.Keeps (t.setEngine e x) := by
    refine h.setEngine e (fun _ ht => ?_) (fun _ _ _ _ hk => absurd hf hk.1) fun _ ht b hb => ?_
    · obtain ⟨hsub, hwait, hact, hleave⟩ := (ht.free hf).2
      refine ⟨⟨nofun, fun _ => ⟨nofun, rfl⟩, nofun, nofun, nofun, fun _ => ?_⟩, fun hx => absurd hx hsub,
        fun hx => absurd hx hwait, fun hx => absurd hx hact, fun hx => absurd hx hleave⟩
      exact ⟨rfl, nofun, rfl, rfl, rfl, rfl, rfl, rfl⟩
    · rw [(ht.free hf).1] at hb
      obtain ⟨g, hg, -⟩ := hb
      cases hg
  have hengine : (t.setEngine e x).engine e = x := (State.engine_setEngine ..).trans (if_pos rfl)
  refine (htake.runRecord i (r := { r with state := .running, engaged := some e }) (e := e) rfl fun _ =>
    .inl ?_).same rfl
  rw [hengine]
  exact ⟨nofun, congrArg some hc, nofun⟩

/-- R110: an engine in RESERVE that has submitted nothing prepares its load. -/
theorem State.Keeps.prepare (h : s.Keeps t) (hp : (t.engine e).phase = .reserve)
    (hc : (t.engine e).copy = some c) (hn : s.MachineSound → ¬t.Submits e) : s.Keeps (t.prepare e c) := by
  have hload (n : Nat) : s.Keeps (t.prepareLoad e n) :=
    h.modEngine e fun _ _ => Engine.follows_of_gist (by rw [hp]; decide) rfl
  unfold State.prepare
  split
  · exact hload _
  · exact hload _
  next d hd =>
    refine h.setEngine e (fun hs ht => ?_) (fun _ _ _ _ hk => .inl hk) fun _ _ _ hb => hb
    obtain ⟨⟨hfree, hcopy, hunload, hverdict, -, hearly⟩, hsub, hwait, hact, hleave⟩ := ht.placed e
    exact ⟨⟨fun hx => absurd (hp.symm.trans hx) (by decide), hcopy, hunload, hverdict,
      fun _ => ⟨hp, hn hs, c, d, hc, hd⟩, hearly⟩, hsub, hwait, hact, hleave⟩

theorem State.Keeps.takeHead (h : s.Keeps t) (hf : (t.engine e).phase = .free) (i : SlotIx) :
    s.Keeps (t.takeHead e i) := by
  unfold State.takeHead
  split
  · exact h
  next r _ =>
    split
    · exact h.doubtRecord i
    split
    · exact h
    split
    · exact h
    split
    · exact h.doubtModel _
    split
    · exact h
    next c hc =>
      have hhandle : c.handle = t.handleOf i := by
        unfold State.supplyCopy at hc
        split at hc
        · cases hc
          rfl
        · cases hc
      have hengine : (t.takeRecord e i r c).engine e =
          { Engine.free with phase := .reserve, copy := some c, takeTick := t.now } :=
        (State.engine_setEngine ..).trans (if_pos rfl)
      refine (h.takeRecord hf r hhandle).prepare ?_ ?_ fun hs => ((h.sound hs).free hf).2.1
      · rw [hengine]
      · rw [hengine]

theorem execEngineTake_keeps (h : execEngineTake s = .next t) : s.Keeps t := by
  cases h
  refine .live ?_
  have hs := (Keeps.refl s).settled
  dsimp only
  split
  next he =>
    split
    · exact hs
    · exact hs.takeHead (by simpa using List.find?_some he) _
  · exact hs

theorem execDerateEvaluation_keeps (h : execDerateEvaluation e s = .next t) : s.Keeps t := by
  cases h
  refine .live ?_
  have hk := (Keeps.refl s).settled
  dsimp only
  generalize s.settled = u at hk
  split
  next c hasked _ =>
    split
    · unfold State.takeEvaluation
      have hreserve (hs : s.MachineSound) : (u.engine e).phase = .reserve :=
        (((hk.sound hs).placed e).sound.2.2.2.2.1 hasked).1
      split
      next n pExp iSet _ r _ =>
        have hengine : (u.modEngine e fun en => { en with
            evalAsked := false, captured := n, pExp := pExp, stepLevel := iSet }).engine e =
            { u.engine e with evalAsked := false, captured := n, pExp := pExp, stepLevel := iSet } :=
          (State.engine_modEngine ..).trans (if_pos rfl)
        refine Keeps.submit (hk.modEngine e fun hs _ => ?_) e c r (fun hs => ?_) fun _ => ?_
        · refine ⟨fun p q a l hplace => ?_, fun _ hb => hb, fun _ hb => hb⟩
          obtain ⟨⟨-, hcopy, hunload, hverdict, -, hearly⟩, hsub, hwait, hact, hleave⟩ := hplace
          exact ⟨⟨fun hx => absurd ((hreserve hs).symm.trans hx) (by decide), hcopy, hunload, hverdict, nofun,
            hearly⟩, hsub, hwait, hact, hleave⟩
        · rw [hengine]
          exact hreserve hs
        · rw [hengine]
      · exact hk.stopEngine e _ nofun
      · exact hk.stopEngine e _ nofun
    · exact hk
  · exact hk

/-! ### Messages (R53, R114, R116, R122) -/

/-- R53: the oldest message of an engine is served. A close leaves borne the record that it closes only when the
service has ended it. -/
theorem State.Keeps.of_popMessage {m : Message} (hm : (s.outbox.get e).head? = some m)
    (hk : (s.popMessage e).Keeps t) (hc : ∀ i, m.Closes (s.handleOf i) → ∀ r, s.record i = some r →
      r.state = .running → r.engaged = some e → t.Borne i) : s.Keeps t where
  sum := hk.sum
  ordered := hk.ordered
  sound hs := hk.sound ⟨hs.placed, hs.once⟩
  borne hs i hi := by
    by_cases hx : m.Closes (s.handleOf i) ∧ ∃ r, s.record i = some r ∧ r.state = .running ∧ r.engaged = some e
    · obtain ⟨hclose, r, hr, hrun, heng⟩ := hx
      exact hc i hclose r hr hrun heng
    refine hk.borne ⟨hs.placed, hs.once⟩ i fun r hr hrun => ?_
    obtain ⟨f, hf, hbears⟩ := hi r hr hrun
    refine ⟨f, hf, hbears.imp id fun ⟨m', hm', hclose⟩ => ⟨m', ?_, hclose⟩⟩
    have hget : (s.popMessage e).outbox.get f = if f = e then (s.outbox.get e).tail else s.outbox.get f :=
      Tab.get_put ..
    rw [hget]
    split
    next hfe =>
      subst hfe
      obtain ⟨l, hl⟩ := List.head?_eq_some_iff.mp hm
      rw [hl] at hm' ⊢
      refine (List.mem_cons.mp hm').resolve_left fun hmm => hx ⟨?_, r, hr, hrun, hf⟩
      exact hmm ▸ hclose
    next => exact hm'
  held hs X hD hX := hk.held ⟨hs.placed, hs.once⟩ X hD hX
  budget := hk.budget
  guard := hk.guard
  total := hk.total

theorem execExtract_keeps (h : execExtract e s = .next t) : s.Keeps t := by
  cases h
  refine .live ?_
  split
  next hm =>
    refine .of_popMessage hm ?_ fun _ ⟨_, _, _, _, _, _, _, hc, _⟩ => nomatch hc
    have hp := Keeps.refl (s.popMessage e)
    unfold State.serveExtract
    split
    · split
      · exact hp.answer ..
      · exact hp
    · exact hp
  · exact .refl s

theorem execPassageWrite_keeps (h : execPassageWrite e s = .next t) : s.Keeps t := by
  cases h
  refine .live ?_
  split
  next hm =>
    refine .of_popMessage hm ?_ fun _ ⟨_, _, _, _, _, _, _, hc, _⟩ => nomatch hc
    have hp := Keeps.refl (s.popMessage e)
    unfold State.writePassage
    split
    · exact hp
    next hr => exact hp.rewriteRecord (State.engagedRecord_spec hr).1 id rfl
  · exact .refl s

/-- R122, R123: the write of a close makes no record RUNNING. -/
theorem State.Keeps.writeClose (h : s.Keeps t) (i : SlotIx) (r : ShelfRecord) (x : ResultEntry) {w : CloseWrite}
    (hw : w.state ≠ .running) : s.Keeps (t.writeClose i r x w) := by
  unfold State.writeClose State.requeueAfter State.attendClose
  extract_lets v
  have hv : s.Keeps v := h.writeRecord i fun hrun => absurd hrun hw
  have hc := hv.clearRun r.bay
  split
  · split
    · exact hc.same rfl
    · exact hc
  · split
    · exact hc.same rfl
    · exact hc.same rfl

/-- R122: after the service of a close that writes, the record that it closes does not run. -/
theorem State.serveClose_ends {k : Handle} {x : ResultEntry} {late : Bool} (hk : k = s.handleOf k.index)
    (ho : x.outcome ≠ .doubt) (hr : s.record k.index = some r) (hrun : r.state = .running)
    (heng : r.engaged = some e) {r' : ShelfRecord}
    (hr' : (s.serveClose e k x late).record k.index = some r') : r'.state ≠ .running := by
  unfold State.serveClose at hr'
  rw [if_pos hk] at hr'
  dsimp only at hr'
  split at hr'
  next hno =>
    intro hrun'
    have hread : s.readRecord k.index = s := State.readRecord_of_sound hr' (by simp [hrun'])
    rw [hread] at hno
    rw [State.engagedRecord, hr] at hno
    simp [hk.symm, heng, hrun] at hno
  next r0 hr0 =>
    obtain ⟨w, hw⟩ := State.closeWrite_isSome (s := s.readRecord k.index) (r := r0) (n := x.index) (late := late) ho
    rw [hw] at hr'
    dsimp only at hr'
    rw [State.record, State.slot, State.completeLookups_store] at hr'
    have hslot := State.slot_writeClose (s.readRecord k.index) k.index k.index r0 x w
    rw [if_pos rfl] at hslot
    obtain rfl := Option.some.inj ((congrArg ShelfSlot.record hslot).symm.trans hr')
    exact (State.closeWrite_spec hw).2.1

theorem execStepClose_keeps (h : execStepClose e s = .next t) : s.Keeps t := by
  cases h
  refine .live ?_
  split
  next k n kind o v c a late hm =>
    have hp := Keeps.refl (s.popMessage e)
    refine .of_popMessage hm ?_ fun i ⟨_, _, _, _, _, _, _, hc, ho⟩ r hr hrun heng r' hr' hrun' => ?_
    · unfold State.serveClose
      extract_lets p
      have hread : (s.popMessage e).Keeps p := by
        unfold p
        split
        · exact hp.readRecord _
        · exact hp
      split
      · exact hread
      next r _ =>
        split
        · exact hread
        next w hw => exact (hread.writeClose _ r _ (State.closeWrite_spec hw).2.1).completeLookups _
    · cases hc
      exact absurd hrun' (State.serveClose_ends (s := s.popMessage e) (k := s.handleOf i) rfl ho hr hrun heng hr')
  · exact .refl s

end Sys2Proof.Machine
end

section
/-! SUPPORT. The load link and the arbiter keep the agreement of the engines and the books of the feed (R158
to R169). -/

namespace Sys2Proof.Machine

open State (Keeps)

namespace State

variable {s t u : State} {D : EngineIx → BankIx → Prop} {e : EngineIx} {b : BankIx} {v : Service} {x : ServiceStatus}

/-- R163: a request that is in service after the arbiter's test was so before, or waited. -/
theorem serves_of_bankTest (h : t.bankTest.Serves e x) : t.Serves e x ∨ t.AwaitsBanks e := by
  unfold State.bankTest at h
  split at h
  next w rest _ hw =>
    split at h
    next b bs _ =>
      obtain ⟨v, hv, he, -⟩ := h
      dsimp only at hv
      rw [foldl_connectBank] at hv
      cases hv
      exact .inr ⟨w, by rw [hw]; exact List.mem_cons_self, he⟩
    next => exact .inl h
  next => exact .inl h

/-- R163: the arbiter's test names no engine whose request does not wait. -/
theorem Unnamed.bankTest (h : t.Unnamed e) : t.bankTest.Unnamed e := by
  obtain ⟨hsub, hwait, hact, hleave⟩ := h
  have haside := (Aside.refl e t).bankTest
  exact ⟨hsub ∘ haside.submits, hwait ∘ haside.awaits, fun hx => (serves_of_bankTest hx).elim hact hwait,
    fun hx => (serves_of_bankTest hx).elim hleave hwait⟩

namespace Keeps

/-! ### Banks that come and go -/

/-- R160, R169: a bank that is not CONNECTED leaves the grant. -/
theorem dropBank (h : s.Keeps t) (e : EngineIx) (hb : (t.bank b).state ≠ .connected) :
    s.Keeps (t.modEngine e fun en => en.dropBank b) := by
  refine h.writeEngine e (fun _ ht => Engine.placed_grant (fun hg => by rw [hg]; rfl) (ht.placed e))
    (fun _ _ _ _ hk => .inl hk) fun _ _ c ⟨g, hg, hc⟩ => ?_
  by_cases hcb : c = b
  · exact .inr (hcb ▸ hb)
  · exact .inl ⟨g, List.mem_filter.mpr ⟨hg, by simp [hc, hcb]⟩, hc⟩

theorem bankGone (h : s.Keeps t) (e : EngineIx) (hb : (t.bank b).state ≠ .connected) : s.Keeps (t.bankGone e b) :=
  (h.dropBank e hb).unloadAdvance e

theorem grantLost (h : s.Keeps t) (e : EngineIx) (hb : (t.bank b).state ≠ .connected) : s.Keeps (t.grantLost e b) :=
  ((h.dropBank e hb).takeStop e .bankFault nofun).unloadAdvance e

/-- R164: a bank that the service in progress has chosen is CONNECTED for its engine. -/
theorem bankReady (h : s.Keeps t) (hv : t.arb.service = some v) (hx : v.status = .active) (hb : b ∈ v.chosen) :
    s.Keeps (t.modBank b fun k => { k with
      state := .connected, bay := some v.bay, engine := some v.engine, level := 0 }) := by
  refine h.trans { refl t with sound := fun ht => ⟨ht.placed, ht.once⟩, held := fun _ X _ hX c e hlt hcon hen => ?_ }
  rw [State.bank_modBank] at hcon hen
  by_cases hcb : c = b
  · rw [if_pos hcb] at hen
    cases hen
    exact .inr (.inl ⟨v, hv, hx, rfl, hcb ▸ hb⟩)
  · rw [if_neg hcb] at hcon hen
    exact hX c e hlt hcon hen

/-! ### Bank requests that end or come back (R162, R165, R166) -/

/-- R111: the request of an engine in ACQUIRE that is named nowhere is answered NO_CAPACITY. -/
theorem answerNoCapacity (h : s.Keeps t) (e : EngineIx) (hp : s.MachineSound → (t.engine e).phase = .acquire)
    (hu : s.MachineSound → t.Unnamed e) : s.Keeps (t.answerNoCapacity e) :=
  (h.setBankReq e hp (fun hs => (hu hs).2.2.2) (fun hs hx => absurd hx (hu hs).2.1)
    fun hs hx => absurd hx (hu hs).2.2.1).takeStop e _ nofun

/-- R165: a request that is named nowhere returns to the wait list. -/
theorem returnRequest (h : s.Keeps t) (v : Service) (hp : s.MachineSound → (t.engine v.engine).phase = .acquire)
    (hu : s.MachineSound → t.Unnamed v.engine) : s.Keeps (t.returnRequest v) := by
  have hreq := h.setBankReq v.engine (r := .waiting) hp (fun hs => (hu hs).2.2.2) (fun _ _ => rfl)
    fun hs hx => absurd hx (hu hs).2.2.1
  have hengine : (t.modEngine v.engine fun en => { en with bankReq := .waiting }).engine v.engine =
      { t.engine v.engine with bankReq := .waiting } := (State.engine_modEngine ..).trans (if_pos rfl)
  refine (hreq.joinBankWaits (w := ⟨v.engine, v.need,
    (((t.engine v.engine).copy).map (·.priority)).getD 0, v.bay, v.joined⟩) fun hs => ?_).same rfl
  rw [hengine]
  exact ⟨hp hs, rfl, (hu hs).2.1⟩

/-- R165: the service in progress fails. -/
theorem connectFailed (h : s.Keeps t) (hv : t.arb.service = some v) (hx : v.status = .active) :
    s.Keeps (t.connectFailed v) := by
  have hend : s.Keeps (t.endService v .failed) := h.endService hv (by decide) nofun
  obtain ⟨ro, as, hframe⟩ := State.foldl_unchoose_frame v.chosen t
  have hserv : (t.endService v .failed).arb.service = none ∨
      (t.endService v .failed).arb.service = some { v with status := .failed } := by
    unfold State.endService
    dsimp only
    split
    · exact .inr rfl
    · exact .inl rfl
  have hkept : t.endService v .failed = { t with
      arb := { t.arb with roster := ro, asked := as, service := (t.endService v .failed).arb.service } } := by
    unfold State.endService
    rw [hframe]
    rfl
  have hact (hs : s.MachineSound) := ((h.sound hs).placed v.engine).active ⟨v, hv, rfl, hx⟩
  have hwait (hs : s.MachineSound) : ¬t.AwaitsBanks v.engine := fun hw => by
    have := (((h.sound hs).placed v.engine).awaits hw).2
    rw [(hact hs).2] at this
    cases this
  have hout {y : ServiceStatus} (hy : y ≠ .failed) : ¬(t.endService v .failed).Serves v.engine y := by
    rintro ⟨v', hv', -, hst⟩
    obtain hs | hs := hserv
    · cases hs.symm.trans hv'
    · cases hs.symm.trans hv'
      exact hy hst.symm
  unfold State.connectFailed
  dsimp only
  generalize t.endService v .failed = u at hend hkept hout
  have hp (hs : s.MachineSound) : (u.engine v.engine).phase = .acquire := by
    rw [hkept]
    exact (hact hs).1
  have hu (hs : s.MachineSound) : u.Unnamed v.engine := by
    refine ⟨?_, ?_, hout (by decide), hout (by decide)⟩ <;> rw [hkept]
    · exact ((h.sound hs).acquire (hact hs).1).1
    · exact hwait hs
  split
  · exact hend.answerNoCapacity _ hp hu
  · exact hend.returnRequest v hp hu

/-- R165, R166: a service that is not active ends. -/
theorem endsIdle (h : s.Keeps t) (hv : t.arb.service = some v) (hx : v.status ≠ .active) :
    s.Keeps (t.setService none) :=
  h.setService (fun _ _ _ hv' => nomatch hv') fun _ _ _ ⟨_, hv', hst, _⟩ _ => by
    obtain rfl := Option.some.inj (hv.symm.trans hv')
    exact absurd hst hx

/-- R166: the withdrawal of a request is complete, and its engine closes. -/
theorem withdrawn (h : s.Keeps t) (hv : t.arb.service = some v) (hx : v.status = .withdrawn) :
    s.Keeps ((t.setService none).acquireExit v.engine) := by
  have hleave (hs : s.MachineSound) := ((h.sound hs).placed v.engine).leaving ⟨v, hv, rfl, hx⟩
  have hnone (y : ServiceStatus) : ¬(t.setService none).Serves v.engine y := fun ⟨_, hv', _⟩ => nomatch hv'
  refine (h.endsIdle hv (by simp [hx])).acquireExit v.engine (fun hs => ⟨?_, fun hw => ?_, hnone _, hnone _⟩)
    (fun hs => .inr (hleave hs).2.2) fun hs => ((h.sound hs).acquire (hleave hs).1).2
  · exact ((h.sound hs).acquire (hleave hs).1).1
  · have := (((h.sound hs).placed v.engine).awaits hw).2
    rw [(hleave hs).2.1] at this
    cases this

theorem serviceDrained (h : s.Keeps t) (hv : t.arb.service = some v) (hx : v.status ≠ .active) :
    s.Keeps (t.serviceDrained v) := by
  unfold State.serviceDrained
  extract_lets u
  split
  next hw => exact (h.withdrawn hv hw).bankTest.feedRetest _
  next => exact (h.endsIdle hv hx).bankTest

theorem chosenLost (h : s.Keeps t) (hv : t.arb.service = some v) : s.Keeps (t.chosenLost v) := by
  unfold State.chosenLost
  split
  next hx => exact h.connectFailed hv hx
  next hx => exact h.endsIdle hv (by simp [hx])
  next hx => exact h.withdrawn hv hx

/-! ### READY (R164 to R166) -/

theorem readyActive (h : s.Keeps t) (hv : t.arb.service = some v) (hx : v.status = .active) (hb : b ∈ v.chosen) :
    s.Keeps (t.readyActive v b) := by
  have hready := h.bankReady hv hx hb
  unfold State.readyActive
  extract_lets u
  have hu : s.Keeps u := hready
  have huv : u.arb.service = some v := hv
  clear_value u
  split
  · exact hu.ask _
  · have hact (hs : s.MachineSound) := ((hu.sound hs).placed v.engine).active ⟨v, huv, rfl, hx⟩
    have hend : s.Keeps (u.setService none) fun e b => e = v.engine ∧ b ∈ v.chosen :=
      Keeps.setService { hu with held := fun hs X _ => hu.held hs X fun _ _ => False.elim }
        (fun _ _ _ hv' => nomatch hv') fun _ b e ⟨v', hv', _, he, hb⟩ _ => by
          obtain rfl := Option.some.inj (huv.symm.trans hv')
          exact .inr (.inr ⟨he.symm, hb⟩)
    have hwait (hs : s.MachineSound) : ¬u.AwaitsBanks v.engine := fun hw => by
      have := (((hu.sound hs).placed v.engine).awaits hw).2
      rw [(hact hs).2] at this
      cases this
    have hunnamed (hs : s.MachineSound) : (u.setService none).Unnamed v.engine :=
      ⟨((hu.sound hs).acquire (hact hs).1).1, hwait hs, fun ⟨_, hv', _⟩ => (nomatch hv'),
        fun ⟨_, hv', _⟩ => (nomatch hv')⟩
    have haside := (Aside.refl v.engine (u.setService none)).bankTest
    refine (hend.bankTest.enterLoad v.engine (u.grantOf v) (fun hs => ?_) (fun hs => (hunnamed hs).bankTest)
      fun _ f b hd => ⟨hd.1, ?_⟩).feedRetest _
    · exact (congrArg Engine.phase (haside.engine_eq (hunnamed hs).2.1)).trans (hact hs).1
    · rw [(u.grantOf_maps v).1]
      exact hd.2

theorem readyLate (h : s.Keeps t) (hv : t.arb.service = some v) (hx : v.status ≠ .active) (b : BankIx) :
    s.Keeps (t.readyLate v b) := by
  unfold State.readyLate State.askOwnRelease
  rw [State.modBank_modBank]
  exact ((h.modBank b (by nofun)).ask _).serviceDrained hv hx

/-! ### LEVEL (R112, R134, R168) -/

theorem levelTaken (h : s.Keeps t) (e : EngineIx) (b : BankIx) (n : Nat) (limited : Bool) :
    s.Keeps (t.levelTaken e b n limited) := by
  unfold State.levelTaken
  extract_lets u
  have hu : s.Keeps u := h.modEngine e fun _ _ => Engine.follows_modGrant fun _ => rfl
  have hengine : u.engine e = (t.engine e).modGrant b fun g => g.replied n :=
    (State.engine_modEngine ..).trans (if_pos rfl)
  have hphase : (u.engine e).phase = (t.engine e).phase := by
    rw [hengine]
    rfl
  clear_value u
  split
  next hp =>
    have hbusy : (u.engine e).Busy := .inl (hphase.trans hp)
    unfold State.levelInLoad
    split
    · exact hu.reachVerdict e (fun _ => hbusy) nofun
    · split
      · exact hu.enterWatch e fun _ => hbusy
      · exact hu
  · refine passageAdvance ?_ e
    unfold State.rezero
    split
    · exact (hu.askSet ..).modEngine e fun _ _ => Engine.follows_modGrant fun _ => rfl
    · exact hu
  · exact hu.unloadAdvance e
  · exact hu

end Keeps

end State

end Sys2Proof.Machine
end

section
/-! SUPPORT. Every event of the load link, every command and every step, but for a change of the budget and a reset, keep
the agreement of the engines and the books of the feed. -/

namespace Sys2Proof.Machine

open State (Keeps)

variable {s t : State} {e : EngineIx} {b : BankIx} {f : List Byte} {n : Nat}

/-! ### A lost bank (R160, R165) -/

theorem State.Keeps.setBank (h : s.Keeps t) (b : BankIx) {k : Bank} (hk : k.state ≠ .connected) :
    s.Keeps (t.setBank b k) := h.modBank b (f := fun _ => k) fun hc => absurd hc hk

theorem State.Keeps.afterLoss (h : s.Keeps t) (k : Bank) (hb : (t.bank b).state ≠ .connected) :
    s.Keeps (t.afterLoss b k) := by
  unfold State.afterLoss
  split
  next hv =>
    split
    · exact h.chosenLost hv
    · exact h
  next hv _ =>
    split
    · exact h.chosenLost hv
    · exact h.grantLost _ hb
  · exact h.grantLost _ hb
  · exact h.bankGone _ hb
  · exact h

/-- R111: the answer NO_CAPACITY to an engine in ACQUIRE leaves the bank wait list. -/
theorem State.answerNoCapacity_waits (hp : (t.engine e).phase = .acquire) :
    (t.answerNoCapacity e).arb.waits = t.arb.waits := by
  let u := t.modEngine e fun en => { en with bankReq := .notMade }
  have hengine : u.engine e = { t.engine e with bankReq := .notMade } :=
    (State.engine_modEngine ..).trans (if_pos rfl)
  have hphase : (u.engine e).phase = .acquire := (congrArg Engine.phase hengine).trans hp
  have hreq : (u.engine e).bankReq = .notMade := congrArg Engine.bankReq hengine
  have elsewhere {x : Phase} {p : Prop} (h : (u.engine e).phase = x) (hx : x ≠ .acquire) : p :=
    absurd (h.symm.trans hphase) hx
  refine State.takeStop_rule (s := u) (c := .noCapacity) (P := fun v => v.arb.waits = t.arb.waits) rfl
    (fun _ _ _ => rfl) (fun _ _ h => elsewhere h nofun) (fun _ _ _ => ?_)
    (fun _ _ h => h.elim (elsewhere · nofun) (elsewhere · nofun)) fun _ _ h => elsewhere h nofun
  rw [hreq]
  exact (OnlyEngine.acquireExit (u.stopped e .noCapacity) e []).bankWaits

/-- R160: the waiting requests that can no longer be met are answered, each by its own entry. -/
theorem State.Keeps.testWaitings (h : s.Keeps t) {l : List BankWait} (hn : s.MachineSound → (l.map (·.engine)).Nodup)
    (hl : s.MachineSound → ∀ w ∈ l, t.AwaitsBanks w.engine) : s.Keeps (l.foldl testWaiting t) := by
  induction l generalizing t with
  | nil => exact h
  | cons w l ih =>
    have hcons (hs : s.MachineSound) := List.nodup_cons.mp (hn hs)
    have hwait (hs : s.MachineSound) : (t.engine w.engine).phase = .acquire ∧ _ :=
      ((h.sound hs).placed w.engine).awaits (hl hs w List.mem_cons_self)
    rw [List.foldl_cons]
    unfold testWaiting
    split
    · have hout : s.Keeps (t.bankWithdraw w.engine) := h.bankWithdraw w.engine
      have hplace (hs : s.MachineSound) := (h.sound hs).placed w.engine
      refine ih (hout.answerNoCapacity w.engine (fun hs => (hwait hs).1) fun hs => ?_) (fun hs => (hcons hs).2)
        fun hs v hv => ?_
      · have hserve (x : ServiceStatus) (hx : x = .active ∨ x = .withdrawn) : ¬t.Serves w.engine x := fun hv => by
          have hreq : (t.engine w.engine).bankReq = .connecting := by
            obtain rfl | rfl := hx
            · exact ((hplace hs).active hv).2
            · exact ((hplace hs).leaving hv).2.1
          rw [(hwait hs).2] at hreq
          cases hreq
        refine ⟨((h.sound hs).acquire (hwait hs).1).1, fun ⟨v, hv, hve⟩ => ?_, hserve _ (.inl rfl), hserve _ (.inr rfl)⟩
        have hv : v ∈ t.arb.waits.filter (·.engine ≠ w.engine) := hv
        simp [hve] at hv
      · obtain ⟨x, hx, hxv⟩ := hl hs v (List.mem_cons_of_mem w hv)
        refine ⟨x, ?_, hxv⟩
        rw [State.answerNoCapacity_waits (t := t.bankWithdraw w.engine) (hwait hs).1]
        refine List.mem_filter.mpr ⟨hx, ?_⟩
        have hne : v.engine ≠ w.engine := fun hvw => (hcons hs).1 (List.mem_map.mpr ⟨v, hv, hvw⟩)
        simp [hxv, hne]
    · exact ih h (fun hs => (hcons hs).2) fun hs v hv => hl hs v (List.mem_cons_of_mem w hv)

theorem State.Keeps.loseBank (h : s.Keeps t) (b : BankIx) (code : Option Nat) : s.Keeps (t.loseBank b code) := by
  unfold State.loseBank
  extract_lets s1 s2
  have h1 : s.Keeps (s1.setBank b ((t.bank b).lost code)) := Keeps.setBank (h.same (by rfl)) b nofun
  have h2 : s.Keeps s2 := h1.afterLoss _ (by
    have hbank : (s1.setBank b ((t.bank b).lost code)).bank b = (t.bank b).lost code :=
      (Tab.get_put ..).trans (if_pos rfl)
    rw [hbank]
    nofun)
  have h3 : s.Keeps (s2.arb.waits.foldl testWaiting s2) :=
    h2.testWaitings (fun hs => (h2.sound hs).once) fun _ w hw => ⟨w, hw, rfl⟩
  refine feedRetest ?_ _
  unfold State.testAfter
  split
  · exact h3.bankTest
  · exact h3

theorem execFaultReply_keeps (h : execFaultReply f s = .next t) : s.Keeps t := by
  cases h
  refine .live ?_
  split
  · exact (Keeps.refl s).settled.loseBank ..
  · exact .refl s

theorem execExchangeTimeout_keeps (h : execExchangeTimeout b s = .next t) : s.Keeps t := by
  cases h
  refine .live ?_
  split
  · exact ((Keeps.refl s).atTick _).loseBank ..
  · exact .refl s

theorem execRediscoveryTimer_keeps (h : execRediscoveryTimer s = .next t) : s.Keeps t := by
  cases h
  refine .live ?_
  have ht := (Keeps.refl s).atTick (s.arb.sweepFrom + Config.rediscoveryMs)
  exact .foldl (fun _ b hv => hv.ask _) _ (ht.same (by rfl))

/-! ### Turns and replies (R157 to R159, R164, R168, R169) -/

theorem execLinkTurn_keeps (h : execLinkTurn s = .next t) : s.Keeps t := by
  have turn {u : State} (hu : s.Keeps u) : s.Keeps u.takeTurn := by
    unfold State.takeTurn
    split
    next a _ =>
      have ha : s.Keeps (u.sendRequest a) := hu.same rfl
      unfold State.reportSent
      split
      · split
        next hp => exact (ha.arm _ fun _ => .inl hp.1).feedRetest _
        next => exact ha
      · exact ha
    · split
      · exact hu.same rfl
      · exact hu
  cases h
  refine .live ?_
  split
  · exact turn ((Keeps.refl s).atTick _)
  · exact turn (Keeps.refl s).settled

theorem State.Keeps.onReply {k : ReplyKind} {g : Reply → State → State}
    (hg : ∀ y u, s.Keeps u → s.Keeps (g y u)) : s.Keeps (s.onReply k f g) := by
  refine .live ?_
  split
  · exact .refl s
  · exact hg _ _ ((Keeps.refl s).settled.same rfl)

theorem execIdentReply_keeps (h : execIdentReply f s = .next t) : s.Keeps t := by
  cases h
  refine .onReply fun y u hu => ?_
  split
  · exact (hu.setBank y.bank (k := Bank.identified y.value) nofun).bankTest
  · exact hu

theorem execReadyReply_keeps (h : execReadyReply f s = .next t) : s.Keeps t := by
  cases h
  refine .onReply fun y u hu => ?_
  split
  next v hv =>
    split
    next hb =>
      split
      next hx => exact hu.readyActive hv hx hb.2
      next hx => exact hu.readyLate hv hx _
    next => exact hu
  next => exact hu

theorem execLevelReply_keeps (h : execLevelReply f s = .next t) : s.Keeps t := by
  cases h
  refine .onReply fun y u hu => ?_
  split
  · exact (hu.levelTaken ..).feedRetest _
  · exact hu

theorem execReleasedReply_keeps (h : execReleasedReply f s = .next t) : s.Keeps t := by
  cases h
  refine .onReply fun y u hu => ?_
  split
  · have hr : s.Keeps (u.modBank y.bank Bank.released) := hu.modBank y.bank nofun
    refine Keeps.bankTest ?_
    unfold State.releasedReport
    split
    · refine hr.bankGone _ ?_
      rw [State.bank_modBank, if_pos rfl]
      nofun
    · exact hr
  · exact hu

theorem execWaitReply_keeps (h : execWaitReply f s = .next t) : s.Keeps t := by
  cases h
  refine .live ?_
  split
  · exact (Keeps.refl s).same rfl
  · exact .refl s

/-! ### Links -/

theorem State.Keeps.of_linksOnly (h : s.LinksOnly t) : s.Keeps t := by
  rw [h.frame]
  exact (Keeps.refl s).same rfl

theorem execReadTransaction_keeps (h : execReadTransaction n s = .next t) : s.Keeps t := by
  cases h
  refine .live ?_
  split <;> exact (Keeps.refl s).same rfl

theorem execAnswerSent_keeps (h : execAnswerSent s = .next t) : s.Keeps t := by
  cases h
  exact .live ((Keeps.refl s).same (by rfl))

theorem execConsoleFrameTimeout_keeps (h : execConsoleFrameTimeout s = .next t) : s.Keeps t := by
  cases h
  refine .live ?_
  split
  next x _ => exact ((Keeps.refl s).atTick (x.last + Config.consoleGapMs + 1)).same rfl
  · exact .refl s

end Sys2Proof.Machine
end

section
/-! The reservation total stays within the budget, and the books of the feed, the engines and the banks stay agreed,
through every step (R108, R156, R162, R173, R175, R176, R183, R194). -/

namespace Sys2Proof.Machine

open State (Keeps Sane)

variable {s t : State} {c : Instr}

/-- SET_BUDGET, a reset or a release of reset. -/
def Rebudgets (c : Instr) : Prop :=
  (∃ l, c = .setBudget l) ∨ c = .powerOnReset ∨ c = .pinReset ∨
    ∃ pins seats indicators, c = .resetRelease pins seats indicators

theorem exec_keeps (hc : ¬Rebudgets c) (h : exec c s = .next t) : s.Keeps t := by
  cases c with
  | admitShelf => exact execAdmit_keeps h
  | lookup => exact execLookup_keeps h
  | extract => exact execExtract_keeps h
  | probe => exact execProbe_keeps h
  | find => exact execFind_keeps h
  | amendPriority => exact execAmendPriority_keeps h
  | amendGuardLevel => exact execAmendGuardLevel_keeps h
  | amendNote => exact execAmendNote_keeps h
  | amendModelHandle => exact execAmendModelHandle_keeps h
  | addModule => exact execAddModule_keeps h
  | dropModule => exact execDropModule_keeps h
  | amendPresentFlag => exact execAmendPresentFlag_keeps h
  | bindBay => exact execBind_keeps h
  | unbindBay => exact execUnbind_keeps h
  | start => exact execStart_keeps h
  | resume => exact execResume_keeps h
  | abort => exact execAbort_keeps h
  | release => exact execRelease_keeps h
  | take => exact execTake_keeps h
  | createModel => exact execCreateModel_keeps h
  | editModel => exact execEditModel_keeps h
  | activate => exact execActivate_keeps h
  | revise => exact execRevise_keeps h
  | discard => exact execDiscard_keeps h
  | setBudget l => exact absurd (.inl ⟨l, rfl⟩) hc
  | setFeedWindow => exact execSetFeedWindow_keeps h
  | bankStatus => exact execBankStatus_keeps h
  | stationStatus => exact execStationStatus_keeps h
  | reset => exact execReset_keeps h
  | requestFrame => exact .of_linksOnly (execRequestFrame_linksOnly h)
  | readTransaction => exact execReadTransaction_keeps h
  | answerSent => exact execAnswerSent_keeps h
  | transactionIgnored => cases h; exact .refl s
  | consoleFrameTimeout => exact execConsoleFrameTimeout_keeps h
  | powerOnReset => exact absurd (.inr (.inl rfl)) hc
  | pinReset => exact absurd (.inr (.inr (.inl rfl))) hc
  | resetRelease pins seats indicators => exact absurd (.inr (.inr (.inr ⟨pins, seats, indicators, rfl⟩))) hc
  | shelfScrub => exact execShelfScrub_keeps h
  | modelScrub => exact execModelScrub_keeps h
  | seatInputChange => exact execSeatInputChange_keeps h
  | debounceExpiry => exact execDebounceExpiry_keeps h
  | tripIndicatorChange => exact execTripIndicatorChange_keeps h
  | rearmPulseEnd => exact execRearmPulseEnd_keeps h
  | bayFrame => exact execBayFrame_keeps h
  | bayStale => exact execBayStale_keeps h
  | feedFrame => exact execFeedFrame_keeps h
  | feedStale => exact execFeedStale_keeps h
  | recoveryExpiry => exact execRecoveryExpiry_keeps h
  | attentionPulseEnd => exact execAttentionPulseEnd_keeps h
  | engineTake => exact execEngineTake_keeps h
  | derateEvaluation => exact execDerateEvaluation_keeps h
  | linkTurn => exact execLinkTurn_keeps h
  | identReply => exact execIdentReply_keeps h
  | readyReply => exact execReadyReply_keeps h
  | levelReply => exact execLevelReply_keeps h
  | releasedReply => exact execReleasedReply_keeps h
  | waitReply => exact execWaitReply_keeps h
  | faultReply => exact execFaultReply_keeps h
  | exchangeTimeout => exact execExchangeTimeout_keeps h
  | rediscoveryTimer => exact execRediscoveryTimer_keeps h
  | holdDurationExpiry => exact execHoldDurationExpiry_keeps h
  | tripWindowClose => exact execTripWindowClose_keeps h
  | settleExpiry => exact execSettleExpiry_keeps h
  | latchObserveExpiry => exact execLatchObserveExpiry_keeps h
  | restartWindowClose => exact execRestartWindowClose_keeps h
  | passageWrite => exact execPassageWrite_keeps h
  | stepClose => exact execStepClose_keeps h

/-- R173, R194: the command sets the budget for a request that it serves, or resets the machine or releases it. -/
def State.Rebudgeted (s : State) (c : Instr) : Prop :=
  (∃ l q, c = .setBudget l ∧ s.Serving l .setBudget q) ∨ c = .powerOnReset ∨ c = .pinReset ∨
    ∃ pins seats indicators, c = .resetRelease pins seats indicators

/-- R173, R176: the books and the agreement of `s` hold in `t`; the settings of the budget stand, unless `p`; and the
total rises only within B − G, as it stood or as it stands. -/
structure State.Accounts (s t : State) (p : Prop) : Prop extends State.Sane s t where
  settings : t.feed.budget = s.feed.budget ∧ t.feed.guard = s.feed.guard ∨ p
  bounded : t.feed.total ≤ max s.feed.total (max (s.feed.budget - s.feed.guard) (t.feed.budget - t.feed.guard))

theorem State.Keeps.accounts {p : Prop} (h : s.Keeps t) : s.Accounts t p where
  toSane := h.toSane
  settings := .inl ⟨h.budget, h.guard⟩
  bounded := h.total.trans (max_le_max_left _ (Nat.le_max_left ..))

/-- R173, R176: every command keeps the books and the agreement, and the budget unless it is one of those that set
it. -/
theorem exec_accounts (h : exec c s = .next t) : s.Accounts t (s.Rebudgeted c) := by
  have cleared (hz : s.Sane t ∧ t.feed.total = 0) (hc : s.Rebudgeted c) : s.Accounts t (s.Rebudgeted c) :=
    { hz.1 with settings := .inr hc, bounded := by rw [hz.2]; exact Nat.zero_le _ }
  by_cases hc : Rebudgets c
  · obtain ⟨l, rfl⟩ | rfl | rfl | ⟨pins, seats, indicators, rfl⟩ := hc
    · obtain hk | ⟨⟨q, hq⟩, hsane, htotal⟩ := execSetBudget_sane h
      · exact hk.accounts
      · exact { hsane with settings := .inr (.inl ⟨l, q, rfl, hq⟩), bounded := htotal }
    · exact cleared (execPowerOnReset_sane h) (.inr (.inl rfl))
    · exact cleared (execPowerOnReset_sane h) (.inr (.inr (.inl rfl)))
    · exact cleared (execResetRelease_sane h) (.inr (.inr (.inr ⟨pins, seats, indicators, rfl⟩)))
  · exact (exec_keeps hc h).accounts

/-- R173, R176: the same for every step, the block's own work on an empty queue among them. -/
theorem step_accounts (h : step s = .next t) : s.Accounts t (∃ c, s.Runs c ∧ s.Rebudgeted c) := by
  unfold step at h
  split at h
  next c rest hp =>
    have hq : s.Keeps { s with pending := rest } := (Keeps.refl s).same rfl
    have hexec := exec_accounts h
    exact {
      toSane := hq.toSane.trans hexec.toSane
      settings := hexec.settings.imp id fun hc => ⟨c, .inl (by rw [hp]; rfl), hc⟩
      bounded := hexec.bounded }
  next hp =>
    obtain rfl | ⟨-, k⟩ | ⟨hh, ho, c, hd, k⟩ := idle_cases h
    · exact State.Keeps.accounts ((Keeps.refl s).passTo _)
    · exact ((Keeps.refl s).ownWork k).accounts
    · have hexec := exec_accounts k
      exact { hexec with settings := hexec.settings.imp id fun hc => ⟨c, .inr ⟨hp, hh, ho, hd⟩, hc⟩ }

/-- Settles O12: every operation but a change of the budget keeps the books of the feed and the agreement of the
engines, and admits within B − G alone. -/
theorem admissionsStayWithinTheBudget : Obligations.AdmissionsStayWithinTheBudget := by
  refine ⟨fun s t h => ?_, fun s t h => ?_⟩
  · have hstep := step_accounts h
    refine ⟨hstep.settings.imp id fun ⟨c, hruns, hc⟩ => ?_, hstep.bounded⟩
    obtain ⟨l, q, rfl, hq⟩ | rfl | rfl | ⟨pins, seats, indicators, rfl⟩ := hc
    · exact .inl ⟨l, q, hruns, hq⟩
    · exact .inr (.inl hruns)
    · exact .inr (.inr (.inl hruns))
    · exact .inr (.inr (.inr ⟨pins, seats, indicators, hruns⟩))
  · have hstep := step_accounts h
    refine ⟨hstep.sum, hstep.ordered, fun hs => ?_⟩
    obtain ⟨hmachine, hborne⟩ := State.enginesSound_iff.mp hs
    refine ⟨State.enginesSound_iff.mpr ⟨hstep.sound hmachine, fun i => hstep.borne hmachine i (hborne i)⟩, fun hb => ?_⟩
    exact State.banksHeld_iff.mpr (hstep.held hmachine _ (fun _ _ => id) (State.banksHeld_iff.mp hb))

end Sys2Proof.Machine
end
